-- ==== Sys2Proof/Config.lean ====
section
/-! DEFINITION. What the spec leaves open: one free value, with no body. -/

namespace Sys2Proof

/-- The k-th choice the part makes where a rule says that "either may be taken first" inside one step
(R7, R23, R47, R53, R54, R73, R101, R140) or leaves one of two values open (R11, R158). Nothing constrains it
(log 2). The number is read modulo how many alternatives there are. -/
opaque Config.freeChoice : Nat → Nat

end Sys2Proof
end

