-- ==== Sys2Proof/Word.lean ====
section
/-! DEFINITION. The words of the part: bytes of frames, 24-bit sequence numbers, 32-bit counters. -/

namespace Sys2Proof

/-- One byte of a frame (R164). -/
abbrev Byte := BitVec 8

/-- A sequence number: 24 bits, wrapping from 16 777 215 to 0 (R21). -/
abbrev Seq := BitVec 24

/-- A counter: 32 bits, wrapping from 4 294 967 295 to 0 (R33). -/
abbrev Counter := BitVec 32

end Sys2Proof
end

