-- ==== Sys2Proof/Syntax.lean ====
section
/-! DEFINITION. The commands of the part: one constructor for each row of spec/opcode_table.json. -/

namespace Sys2Proof

/-- The three links, in the order of their codes (R164). -/
inductive Link where
  | line
  | inspection
  | packer
deriving DecidableEq, Repr

/-- The commands of the catalogue (10_the_controller_links.md section 10.4, R166). -/
inductive Command where
  | collect
  | readStatus
  | readEvents
  | ackEvents
  | enableEvents
  | disableEvents
  | readCounters
  | feedHold
  | feedRelease
  | inhibitStation
  | releaseStation
  | halt
  | readRecord
  | writeGeometry
  | commitGeometry
  | releaseGeometry
  | writeBank
  | validateBank
  | readBank
  | armChangeover
  | disarm
  | start
  | drain
  | clearHalt
  | lineReset
  | readHaltRecord
  | readDrift
  | clearHolds
  | readTriggers
  | verdict
  | setBatchSize
  | closeBatch
  | peekBatch
  | takeBatch
deriving DecidableEq, Repr

/-- The commands. `payload` is the payload of the request frame as the port handed it on (R153, R166), `arrived`
the bytes that the port has clocked in since the link's last event (log 7), `elapsed` the microseconds that passed
before the step (log 1), `foldCheck` the level of FOLD_CHECK as the step is taken (R85, log 6). -/
inductive Instr where
  /-- Power-on, or the reset pin asserted and released, with these levels on A and B at its release (R17); with `asserted`
  the pin is still asserted after it, until a POWER_ON_RESET without releases it (log 28). -/
  | powerOnReset (asserted : Bool) (pair : Bool × Bool)
  /-- A new A/B pair, next in the forward cycle (R3). -/
  | forwardCountStep (elapsed : Nat) (foldCheck : Bool)
  /-- A new A/B pair, previous in the forward cycle (R4). -/
  | backwardCountStep
  /-- A new A/B pair with both levels changed (R1). -/
  | illegalTransition
  /-- A rising edge of Z (R12, R13). -/
  | indexEdge (elapsed : Nat) (foldCheck : Bool)
  /-- The pitch timer reaches 2 000 001 µs and stops there (R8). -/
  | pitchTimerHold
  /-- A rising edge of MARK (R64). -/
  | markEdge
  /-- A rising edge of PATCH_PRESENT (R73). -/
  | patchPresentEdge
  /-- The PATCH_WEB_OK level becomes `level` (R75). -/
  | patchWebOkChange (level : Bool)
  /-- The GUM_OK level becomes `level` (R83). -/
  | gumOkChange (level : Bool)
  /-- A rising edge of FOLD_CHECK (R86). -/
  | foldCheckEdge
  /-- The ESTOP level becomes `level` (R140). -/
  | estopChange (level : Bool)
  /-- The JAM level becomes `level` (R140). -/
  | jamChange (level : Bool)
  /-- The first clock edge after the select of `link` is asserted (R151, R152). -/
  | exchangeStart (link : Link)
  /-- The select of `link` is deasserted (R153). -/
  | exchangeEnd (link : Link) (arrived : List Byte)
  /-- 10 ms have passed since the exchange of `link` started (R157). -/
  | linkTimeout (link : Link) (arrived : List Byte)
  | collect (link : Link) (payload : List Byte)
  | readStatus (link : Link) (payload : List Byte)
  | readEvents (link : Link) (payload : List Byte)
  | ackEvents (link : Link) (payload : List Byte)
  | enableEvents (link : Link) (payload : List Byte)
  | disableEvents (link : Link) (payload : List Byte)
  | readCounters (link : Link) (payload : List Byte)
  | feedHold (link : Link) (payload : List Byte)
  | feedRelease (link : Link) (payload : List Byte)
  | inhibitStation (link : Link) (payload : List Byte)
  | releaseStation (link : Link) (payload : List Byte)
  | halt (link : Link) (payload : List Byte)
  | readRecord (link : Link) (payload : List Byte)
  | writeGeometry (payload : List Byte)
  | commitGeometry (payload : List Byte)
  | releaseGeometry (payload : List Byte)
  | writeBank (payload : List Byte)
  | validateBank (payload : List Byte)
  | readBank (payload : List Byte)
  | armChangeover (payload : List Byte)
  | disarm (payload : List Byte)
  | start (payload : List Byte)
  | drain (payload : List Byte)
  | clearHalt (payload : List Byte)
  | lineReset (payload : List Byte)
  | readHaltRecord (payload : List Byte)
  | readDrift (payload : List Byte)
  | clearHolds (payload : List Byte)
  | readTriggers (payload : List Byte)
  | verdict (payload : List Byte)
  | setBatchSize (payload : List Byte)
  | closeBatch (payload : List Byte)
  | peekBatch (payload : List Byte)
  | takeBatch (payload : List Byte)
deriving DecidableEq, Repr

end Sys2Proof
end

