-- ==== Sys2Proof/Decode.lean ====
section
/-! DEFINITION. The command catalogue of the links (R155, R166): command bytes, the links each command is accepted
on, and which row of the opcode table a handed-on request is; and the table's word reader. -/

namespace Sys2Proof

/-- The command byte of a command (R166). -/
def Command.code : Command → Byte
  | .collect => 0x01#8
  | .readStatus => 0x02#8
  | .readEvents => 0x03#8
  | .ackEvents => 0x04#8
  | .enableEvents => 0x05#8
  | .disableEvents => 0x06#8
  | .readCounters => 0x07#8
  | .feedHold => 0x08#8
  | .feedRelease => 0x09#8
  | .inhibitStation => 0x0A#8
  | .releaseStation => 0x0B#8
  | .halt => 0x0C#8
  | .readRecord => 0x0D#8
  | .writeGeometry => 0x20#8
  | .commitGeometry => 0x21#8
  | .releaseGeometry => 0x22#8
  | .writeBank => 0x23#8
  | .validateBank => 0x24#8
  | .readBank => 0x25#8
  | .armChangeover => 0x26#8
  | .disarm => 0x27#8
  | .start => 0x28#8
  | .drain => 0x29#8
  | .clearHalt => 0x2A#8
  | .lineReset => 0x2B#8
  | .readHaltRecord => 0x2C#8
  | .readDrift => 0x2D#8
  | .clearHolds => 0x2E#8
  | .readTriggers => 0x40#8
  | .verdict => 0x41#8
  | .setBatchSize => 0x60#8
  | .closeBatch => 0x61#8
  | .peekBatch => 0x62#8
  | .takeBatch => 0x63#8

/-- Every command of the catalogue, in the order of its byte (R166). -/
def Command.all : List Command :=
  [.collect, .readStatus, .readEvents, .ackEvents, .enableEvents, .disableEvents, .readCounters, .feedHold, .feedRelease, .inhibitStation, .releaseStation, .halt, .readRecord, .writeGeometry, .commitGeometry, .releaseGeometry, .writeBank] ++
  [.validateBank, .readBank, .armChangeover, .disarm, .start, .drain, .clearHalt, .lineReset, .readHaltRecord, .readDrift, .clearHolds, .readTriggers, .verdict, .setBatchSize, .closeBatch, .peekBatch, .takeBatch]

/-- The command a command byte names, or `none`: then the port answers UNKNOWN_COMMAND (R153 step 5). -/
def Command.ofCode (b : Byte) : Option Command :=
  Command.all.find? (fun c => c.code == b)

/-- Whether a command is accepted on a link: the authority check reads only the command and the link (R155). -/
def Command.acceptedOn : Command → Link → Bool
  | .collect, _ => true
  | .readStatus, _ => true
  | .readEvents, _ => true
  | .ackEvents, _ => true
  | .enableEvents, _ => true
  | .disableEvents, _ => true
  | .readCounters, _ => true
  | .feedHold, _ => true
  | .feedRelease, _ => true
  | .inhibitStation, _ => true
  | .releaseStation, _ => true
  | .halt, _ => true
  | .readRecord, _ => true
  | .writeGeometry, l => l == .line
  | .commitGeometry, l => l == .line
  | .releaseGeometry, l => l == .line
  | .writeBank, l => l == .line
  | .validateBank, l => l == .line
  | .readBank, l => l == .line
  | .armChangeover, l => l == .line
  | .disarm, l => l == .line
  | .start, l => l == .line
  | .drain, l => l == .line
  | .clearHalt, l => l == .line
  | .lineReset, l => l == .line
  | .readHaltRecord, l => l == .line
  | .readDrift, l => l == .line
  | .clearHolds, l => l == .line
  | .readTriggers, l => l == .inspection
  | .verdict, l => l == .inspection
  | .setBatchSize, l => l == .packer
  | .closeBatch, l => l == .packer
  | .peekBatch, l => l == .packer
  | .takeBatch, l => l == .packer

/-- The row of the opcode table that a request handed on from a link is: its owning block takes it (R153). -/
def Command.toInstr : Command → Link → List Byte → Instr
  | .collect, l, p => .collect l p
  | .readStatus, l, p => .readStatus l p
  | .readEvents, l, p => .readEvents l p
  | .ackEvents, l, p => .ackEvents l p
  | .enableEvents, l, p => .enableEvents l p
  | .disableEvents, l, p => .disableEvents l p
  | .readCounters, l, p => .readCounters l p
  | .feedHold, l, p => .feedHold l p
  | .feedRelease, l, p => .feedRelease l p
  | .inhibitStation, l, p => .inhibitStation l p
  | .releaseStation, l, p => .releaseStation l p
  | .halt, l, p => .halt l p
  | .readRecord, l, p => .readRecord l p
  | .writeGeometry, _, p => .writeGeometry p
  | .commitGeometry, _, p => .commitGeometry p
  | .releaseGeometry, _, p => .releaseGeometry p
  | .writeBank, _, p => .writeBank p
  | .validateBank, _, p => .validateBank p
  | .readBank, _, p => .readBank p
  | .armChangeover, _, p => .armChangeover p
  | .disarm, _, p => .disarm p
  | .start, _, p => .start p
  | .drain, _, p => .drain p
  | .clearHalt, _, p => .clearHalt p
  | .lineReset, _, p => .lineReset p
  | .readHaltRecord, _, p => .readHaltRecord p
  | .readDrift, _, p => .readDrift p
  | .clearHolds, _, p => .clearHolds p
  | .readTriggers, _, p => .readTriggers p
  | .verdict, _, p => .verdict p
  | .setBatchSize, _, p => .setBatchSize p
  | .closeBatch, _, p => .closeBatch p
  | .peekBatch, _, p => .peekBatch p
  | .takeBatch, _, p => .takeBatch p

/-- The request that a request command stands for: its link, its command and its payload; `none` for the rows that
are no request. -/
def Instr.request? : Instr → Option (Link × Command × List Byte)
  | .powerOnReset _ _ => none
  | .forwardCountStep _ _ => none
  | .backwardCountStep => none
  | .illegalTransition => none
  | .indexEdge _ _ => none
  | .pitchTimerHold => none
  | .markEdge => none
  | .patchPresentEdge => none
  | .patchWebOkChange _ => none
  | .gumOkChange _ => none
  | .foldCheckEdge => none
  | .estopChange _ => none
  | .jamChange _ => none
  | .exchangeStart _ => none
  | .exchangeEnd _ _ => none
  | .linkTimeout _ _ => none
  | .collect l p => some (l, .collect, p)
  | .readStatus l p => some (l, .readStatus, p)
  | .readEvents l p => some (l, .readEvents, p)
  | .ackEvents l p => some (l, .ackEvents, p)
  | .enableEvents l p => some (l, .enableEvents, p)
  | .disableEvents l p => some (l, .disableEvents, p)
  | .readCounters l p => some (l, .readCounters, p)
  | .feedHold l p => some (l, .feedHold, p)
  | .feedRelease l p => some (l, .feedRelease, p)
  | .inhibitStation l p => some (l, .inhibitStation, p)
  | .releaseStation l p => some (l, .releaseStation, p)
  | .halt l p => some (l, .halt, p)
  | .readRecord l p => some (l, .readRecord, p)
  | .writeGeometry p => some (.line, .writeGeometry, p)
  | .commitGeometry p => some (.line, .commitGeometry, p)
  | .releaseGeometry p => some (.line, .releaseGeometry, p)
  | .writeBank p => some (.line, .writeBank, p)
  | .validateBank p => some (.line, .validateBank, p)
  | .readBank p => some (.line, .readBank, p)
  | .armChangeover p => some (.line, .armChangeover, p)
  | .disarm p => some (.line, .disarm, p)
  | .start p => some (.line, .start, p)
  | .drain p => some (.line, .drain, p)
  | .clearHalt p => some (.line, .clearHalt, p)
  | .lineReset p => some (.line, .lineReset, p)
  | .readHaltRecord p => some (.line, .readHaltRecord, p)
  | .readDrift p => some (.line, .readDrift, p)
  | .clearHolds p => some (.line, .clearHolds, p)
  | .readTriggers p => some (.inspection, .readTriggers, p)
  | .verdict p => some (.inspection, .verdict, p)
  | .setBatchSize p => some (.packer, .setBatchSize, p)
  | .closeBatch p => some (.packer, .closeBatch, p)
  | .peekBatch p => some (.packer, .peekBatch, p)
  | .takeBatch p => some (.packer, .takeBatch, p)

/-- The command that a word spells by the bits of spec/opcode_table.json. The table gives no row any bits (its rows
have no fixed bits and no fields), so no word spells a command (log 24). -/
def decodeTableWord (_nbits _w : Nat) : Option Instr := none

end Sys2Proof
end

