-- ==== Sys2Proof/Machine/State.lean ====
section
/-! DEFINITION. Everything the spec gives the part, as plain data, and its values at power-on. Sets of a fixed
collection are masks in the member orders of R164, so that equal sets are equal data. -/

namespace Sys2Proof.Machine

/-! ## Names (the orders are those of the code tables and masks of R164) -/

/-- The line state (R134). -/
inductive LineState where
  | config | ready | run | drain | halt
deriving DecidableEq, Repr

/-- The halt causes (R140). -/
inductive HaltCause where
  | estop | jam | haltCommand | encoderFault | reverse | overspeed
deriving DecidableEq, Repr

/-- The feed-inhibit causes (R145). -/
inductive FeedCause where
  | packerBacklog | gumLow | patchSupply | holdLine | holdInspection | holdPacker
deriving DecidableEq, Repr

/-- The events (R159). -/
inductive Event where
  | halted | drained | batchClosed | backlog | overfill | triggersWaiting | triggerOverflow | changeoverTaken
  | bankReleased | driftAlert | feedInhibited | stray | linkError
deriving DecidableEq, Repr

/-- The reject reasons (R24). -/
inductive Reason where
  | markMissing | doubleMark | regOutOfTol | patchMissing | stationInhibited | gumFault | foldFault | verdictBad
  | verdictMissing | disturbed | jogged
deriving DecidableEq, Repr

/-- The stations that can be inhibited (R147). -/
inductive Station where
  | patch | gum | inspect
deriving DecidableEq, Repr

/-- The two recipe banks (R122). -/
inductive BankId where
  | bank0 | bank1
deriving DecidableEq, Repr

/-- The states of a bank (R126). -/
inductive BankState where
  | empty | staging | valid | armed | active | draining
deriving DecidableEq, Repr

/-- The values of `patched` and `gummed` (section 2.3 of 02). -/
inductive Work where
  | notDue | due | done | skipped
deriving DecidableEq, Repr

/-- The verdict of a record (R91). -/
inductive Verdict where
  | notRequired | pending | uninspected | good | bad
deriving DecidableEq, Repr

/-- The fate of a record (R100). -/
inductive Fate where
  | undecided | pass | passUnverified | reject
deriving DecidableEq, Repr

/-- The close causes of a batch (section 7.3 of 07). -/
inductive CloseCause where
  | full | command | changeover | drain | purge
deriving DecidableEq, Repr

/-- The ten actuator channels (R39). -/
inductive Channel where
  | feedClutch | cutKnife | windowKnife | patchGlue | patchCut | gumSeam | gumFlap | cameraTrigger | rejectGate
  | batchKicker
deriving DecidableEq, Repr

/-- The direction of a count step (R3, R4). -/
inductive Direction where
  | forward | backward
deriving DecidableEq, Repr

/-- The mark window (R63, R64). -/
inductive MarkWindow where
  | shut | opened | captured
deriving DecidableEq, Repr

/-- The state of a held firing (R47). -/
inductive FiringState where
  | planned | waiting | on
deriving DecidableEq, Repr

/-- The fold target: absent, a record, or EMPTY with the bank whose window is watched (R84). -/
inductive FoldTarget where
  | absent
  | record (seq : Seq)
  | empty (bank : BankId)
deriving DecidableEq, Repr

/-- The state of a port (R151). -/
inductive PortState where
  | idle | receiving | working
deriving DecidableEq, Repr

/-- The status codes of a response (R154). -/
inductive Status where
  | ok | frameError | unknownCommand | notPermitted | badArgument | wrongState | bankInUse | locked | tooLate
  | unknownSeq | duplicate | notExpected | mismatch | empty | alreadyPending | invalidBank | noResponse | busy
deriving DecidableEq, Repr

/-! ## One value for each channel, link, bank, station, reason -/

/-- One value for each actuator channel. -/
structure PerChannel (α : Type) where
  feedClutch : α
  cutKnife : α
  windowKnife : α
  patchGlue : α
  patchCut : α
  gumSeam : α
  gumFlap : α
  cameraTrigger : α
  rejectGate : α
  batchKicker : α
deriving DecidableEq, Repr

/-- One value for each link. -/
structure PerLink (α : Type) where
  line : α
  inspection : α
  packer : α
deriving DecidableEq, Repr

/-- One value for each bank. -/
structure PerBank (α : Type) where
  bank0 : α
  bank1 : α
deriving DecidableEq, Repr

/-- One value for each station that can be inhibited. -/
structure PerStation (α : Type) where
  patch : α
  gum : α
  inspect : α
deriving DecidableEq, Repr

/-- One counter for each reject reason (R103). -/
structure ReasonCounters where
  markMissing : Counter
  doubleMark : Counter
  regOutOfTol : Counter
  patchMissing : Counter
  stationInhibited : Counter
  gumFault : Counter
  foldFault : Counter
  verdictBad : Counter
  verdictMissing : Counter
  disturbed : Counter
  jogged : Counter
deriving DecidableEq, Repr

/-- The same value for every channel. -/
def PerChannel.all {α : Type} (x : α) : PerChannel α := ⟨x, x, x, x, x, x, x, x, x, x⟩

/-! ## Shaft Tracker (table at the head of 01) -/

structure Shaft where
  /-- R2: the counts per pitch the tracker counts with. -/
  workingCpp : Nat
  /-- R1: the decoder pair, level of A. -/
  pairA : Bool
  /-- R1: the decoder pair, level of B. -/
  pairB : Bool
  /-- R3: the count within the pitch. -/
  count : Nat
  /-- R5: floor(count × 4096 / working cpp). -/
  phase : Nat
  /-- R5: the highest phase reached in the current pitch. -/
  highWater : Nat
  /-- R4: backward wraps not yet repaid, 0 to 255. -/
  reverseDebt : Nat
  /-- R8: microseconds since the last forward boundary, held at 2 000 001. -/
  pitchTimer : Nat
  /-- R8: the period recorded at the last forward boundary. -/
  lastPeriod : Nat
  periodValid : Bool
  timingQualified : Bool
  /-- R13: 0 or 1. -/
  mismatchRun : Nat
  /-- R15. -/
  boundariesSinceIndex : Nat
  /-- R12: the direction of the last count step, `none` before the first. -/
  lastStep : Option Direction
deriving DecidableEq, Repr

/-! ## Geometry record (R2, R19, R40, R135) -/

structure Geometry where
  cpp : Nat
  indexCheck : Nat
  indexCount : Nat
  posMark : Nat
  posCut : Nat
  posPatch : Nat
  posGum : Nat
  posFold : Nat
  posInspect : Nat
  posGate : Nat
  posCount : Nat
  zoneFirst : Nat
  zoneLast : Nat
  dtOn : PerChannel Nat
  dtOff : PerChannel Nat
deriving DecidableEq, Repr

/-! ## Pitch Chain (section 2.3 of 02) -/

/-- A blank record (R22 to R25). `reasons` is a set in the mask order of R24. -/
structure Record where
  seq : Seq
  bank : BankId
  position : Nat
  reasons : BitVec 11
  regError : Option Int
  shift : Option Int
  patched : Work
  gummed : Work
  verdict : Verdict
  verdictCause : Option Nat
  fate : Fate
  counted : Bool
deriving DecidableEq, Repr

/-- The chain: the records that stand in it, youngest first, each with its position; a position that no record
names is empty (R20). -/
structure Chain where
  records : List Record
  nextSeq : Seq
  fed : Counter
  good : Counter
  rejected : Counter
  purged : Counter
deriving DecidableEq, Repr

/-! ## Firing Unit (table at the head of 03) -/

/-- A held firing (R47). `anchorPitch` and `offPassed` are the model's own (log 15): the anchor pitch counted from the
present one (1 the next, 0 the present, -1 the one before), and whether a WAITING firing's off edge has come (R53). -/
structure Firing where
  anchorSeq : Seq
  anchorPitch : Int
  effOn : Int
  effOff : Int
  state : FiringState
  offPassed : Bool
deriving DecidableEq, Repr

structure FiringUnit where
  leadOn : PerChannel Nat
  leadOff : PerChannel Nat
  held : PerChannel (List Firing)
  planningContinuous : Bool
  gateHold : Bool
  lateOpens : Counter
  leadClamps : Counter
  widthClamps : Counter
deriving DecidableEq, Repr

/-! ## Registration Unit (table at the head of 04) -/

structure Registration where
  markSubject : Option Seq
  markSettled : Bool
  markWindow : MarkWindow
  patchSubject : Option Seq
  patchSettled : Bool
  patchOpen : Bool
  patchSeen : Bool
  m16 : Int
  driftAlert : Bool
  accepted : Counter
  strayMarks : Counter
  strayPatches : Counter
deriving DecidableEq, Repr

/-! ## Gum and Fold Unit (table at the head of 05) -/

/-- An entry of the gum progress list: a record and the gum channel that has gone ahead for it (R81). -/
structure GumEntry where
  seq : Seq
  channel : Channel
deriving DecidableEq, Repr

/-- `foldBarred` is set by LINE RESET, after which the fold window cannot open again in that pitch (R89, log 30). -/
structure GumFold where
  progress : List GumEntry
  foldTarget : FoldTarget
  foldSettled : Bool
  foldOpen : Bool
  foldSeen : Bool
  foldBarred : Bool
  strayBlanks : Counter
deriving DecidableEq, Repr

/-! ## Verdict Unit (table at the head of 06) -/

structure Trigger where
  seq : Seq
  bank : BankId
deriving DecidableEq, Repr

structure VerdictUnit where
  triggerLog : List Trigger
  reasonCounts : ReasonCounters
  unverifiedPasses : Counter
  lateVerdicts : Counter
  verdictsRefused : Counter
  triggerOverflows : Counter
deriving DecidableEq, Repr

/-! ## Batch Unit (table at the head of 07) -/

/-- The open batch (R108). -/
structure OpenBatch where
  number : Nat
  bank : BankId
  recipeTag : Nat
  size : Nat
  count : Nat
  firstSeq : Seq
  lastSeq : Seq
  unverified : Nat
  overfill : Bool
  separationMissed : Bool
  superseded : Bool
deriving DecidableEq, Repr

/-- A batch record, as kept in the queue (R111). -/
structure BatchRecord where
  number : Nat
  bank : BankId
  recipeTag : Nat
  size : Nat
  count : Nat
  firstSeq : Seq
  lastSeq : Seq
  unverified : Nat
  cause : CloseCause
  overfill : Bool
  separationMissed : Bool
deriving DecidableEq, Repr

structure BatchUnit where
  openBatch : Option OpenBatch
  nextSize : Nat
  nextNumber : Nat
  closeRequest : Bool
  kickMark : Option Seq
  queue : List BatchRecord
  backlog : Bool
  separationMissed : Counter
deriving DecidableEq, Repr

/-! ## Recipe Store (R122) -/

structure ChannelFields where
  enable : Nat
  onPhase : Nat
  offPhase : Nat
deriving DecidableEq, Repr

/-- The fields of a bank, stored as sent (R122, R123). -/
structure BankFields where
  recipeTag : Nat
  inspectEnable : Nat
  noVerdictFate : Nat
  gateDecide : Nat
  countPhase : Nat
  windowEnable : Nat
  markExpected : Nat
  markOpen : Nat
  markClose : Nat
  tol : Nat
  shiftMax : Nat
  driftAlert : Nat
  patchCheckOpen : Nat
  patchCheckClose : Nat
  gumSeamEnable : Nat
  gumFlapEnable : Nat
  skipGumOnReject : Nat
  foldCheckEnable : Nat
  foldOpen : Nat
  foldClose : Nat
  channels : PerChannel ChannelFields
deriving DecidableEq, Repr

structure RecipeBank where
  state : BankState
  fields : BankFields
deriving DecidableEq, Repr

/-! ## Line Sequencer (table at the head of 09) -/

/-- The halt record (R143). `further` is a set in the code order of the halt causes (R164). -/
structure HaltRecord where
  firstCause : Option HaltCause
  haltingLink : Option Link
  stateLeft : Option LineState
  phaseAtEntry : Option Nat
  seqAtGate : Option Seq
  further : BitVec 6
  count : BitVec 16
deriving DecidableEq, Repr

structure LineSequencer where
  state : LineState
  locked : Bool
  closeFlag : Option Bool
  /-- A set in the order of R145. -/
  feedInhibit : BitVec 6
  /-- For each station the set of the links that hold it, in the order of the link codes. -/
  holders : PerStation (BitVec 3)
  haltRecord : HaltRecord
deriving DecidableEq, Repr

/-! ## Link Ports (table at the head of 10) -/

/-- A response as a port holds it (R153). -/
structure Response where
  status : Status
  echo : Byte
  payload : List Byte
deriving DecidableEq, Repr

/-- A request handed on to its owning block and not yet answered (R153). -/
structure Request where
  command : Command
  payload : List Byte
deriving DecidableEq, Repr

/-- An exchange in progress: begun in WORKING or not (R156), abandoned or not (R157), the frame being shifted out, the
flags that frame reports, the flags the exchange added itself (R158), and the bytes clocked so far. -/
structure Exchange where
  busy : Bool
  abandoned : Bool
  frame : List Byte
  reported : BitVec 2
  own : BitVec 2
  clocked : Nat
deriving DecidableEq, Repr

structure Port where
  state : PortState
  buffer : List Byte
  work : Option Request
  held : Option Response
  exchange : Option Exchange
  /-- The bytes that the data-out line carried in the exchange in progress, or in the last one (R152, R156, log 29). -/
  shifted : List Byte
  /-- Bit 0 OVERRUN_SEEN, bit 1 TIMEOUT_SEEN (R164). -/
  flags : BitVec 2
  /-- A set in the order of R159. -/
  pending : BitVec 13
  enable : BitVec 13
  frameErrors : Counter
  overruns : Counter
  timeouts : Counter
deriving DecidableEq, Repr

/-! ## Field lines and pins -/

/-- The lines from outside whose level the part reads: the level sensors (section 2.3 of 00) and the reset pin
(section 6 of 00, R17), asserted or released. -/
structure Sensors where
  gumOk : Bool
  patchWebOk : Bool
  jam : Bool
  estop : Bool
  resetPin : Bool
deriving DecidableEq, Repr

/-- A data-out line: low while the reset pin is asserted (R151); otherwise the bytes it carried in the exchange in
progress, or in the last one (log 29). -/
inductive DataOut where
  | low
  | bytes (carried : List Byte)
deriving DecidableEq, Repr

/-- The lines the part drives: the actuator outputs (R54, R56), the ready and data-out lines (R151, R152), the attention
lines (R159). -/
structure Pins where
  outputs : PerChannel Bool
  ready : PerLink Bool
  attention : PerLink Bool
  dataOut : PerLink DataOut
deriving DecidableEq, Repr

/-- The whole part. `choices` counts the free orders read so far (log 2); `pending` is the queue of waiting commands. -/
structure State where
  shaft : Shaft
  geometry : Geometry
  chain : Chain
  firing : FiringUnit
  registration : Registration
  gumFold : GumFold
  verdicts : VerdictUnit
  batch : BatchUnit
  banks : PerBank RecipeBank
  line : LineSequencer
  ports : PerLink Port
  sensors : Sensors
  pins : Pins
  choices : Nat
  pending : List Instr
deriving DecidableEq, Repr

/-! ## Outcomes -/

/-- Why a step could fault: nothing. The spec gives every command an effect in every state, so no meaning raises a
fault, and there is no constructor. -/
inductive Fault where
deriving DecidableEq, Repr

/-- Why a step could be refused. -/
inductive Refusal where
  /-- A command that has no meaning yet, raised by an arm of `exec` alone; safe. No arm raises it. -/
  | notModelled (mnemonic : String)
deriving DecidableEq, Repr

/-! ## Power-on values -/

/-- Every field of a bank at power-on (R122). -/
def BankFields.zero : BankFields where
  recipeTag := 0
  inspectEnable := 0
  noVerdictFate := 0
  gateDecide := 0
  countPhase := 0
  windowEnable := 0
  markExpected := 0
  markOpen := 0
  markClose := 0
  tol := 0
  shiftMax := 0
  driftAlert := 0
  patchCheckOpen := 0
  patchCheckClose := 0
  gumSeamEnable := 0
  gumFlapEnable := 0
  skipGumOnReject := 0
  foldCheckEnable := 0
  foldOpen := 0
  foldClose := 0
  channels := .all ⟨0, 0, 0⟩

/-- A bank at power-on (R133). -/
def RecipeBank.powerOn : RecipeBank := ⟨.empty, .zero⟩

/-- The geometry record at power-on (R2, R19, R40, R135). -/
def Geometry.powerOn : Geometry where
  cpp := 4096
  indexCheck := 0
  indexCount := 0
  posMark := 1
  posCut := 2
  posPatch := 4
  posGum := 7
  posFold := 10
  posInspect := 13
  posGate := 16
  posCount := 20
  zoneFirst := 2
  zoneLast := 15
  dtOn := .all 0
  dtOff := .all 0

/-- The Shaft Tracker at power-on (R17), with these levels on A and B (R1). -/
def Shaft.powerOn (a b : Bool) : Shaft where
  workingCpp := 4096
  pairA := a
  pairB := b
  count := 0
  phase := 0
  highWater := 0
  reverseDebt := 0
  pitchTimer := 0
  lastPeriod := 0
  periodValid := false
  timingQualified := false
  mismatchRun := 0
  boundariesSinceIndex := 0
  lastStep := none

/-- The halt record at power-on (R143). -/
def HaltRecord.powerOn : HaltRecord := ⟨none, none, none, none, none, 0, 0⟩

/-- A port at power-on (table at the head of 10): IDLE, nothing held, HALTED alone enabled. -/
def Port.powerOn : Port where
  state := .idle
  buffer := []
  work := none
  held := none
  exchange := none
  shifted := []
  flags := 0
  pending := 0
  enable := 1
  frameErrors := 0
  overruns := 0
  timeouts := 0

/-- The part after power-on reset, with the field lines, the free-order index and the queue given; the pins are those
of the release of reset. -/
def State.powerOn (a b : Bool) (sensors : Sensors) (choices : Nat) (pending : List Instr) : State where
  shaft := .powerOn a b
  geometry := .powerOn
  chain := ⟨[], 0, 0, 0, 0, 0⟩
  firing := ⟨.all 0, .all 0, .all [], false, false, 0, 0, 0⟩
  registration := ⟨none, false, .shut, none, false, false, false, 0, false, 0, 0, 0⟩
  gumFold := ⟨[], .absent, false, false, false, false, 0⟩
  verdicts := ⟨[], ⟨0, 0, 0, 0, 0, 0, 0, 0, 0, 0, 0⟩, 0, 0, 0, 0⟩
  batch := ⟨none, 100, 1, false, none, [], false, 0⟩
  banks := ⟨.powerOn, .powerOn⟩
  line := ⟨.config, false, none, 0, ⟨0, 0, 0⟩, .powerOn⟩
  ports := ⟨.powerOn, .powerOn, .powerOn⟩
  sensors := sensors
  pins := ⟨.all false, ⟨true, true, true⟩, ⟨false, false, false⟩, ⟨.bytes [], .bytes [], .bytes []⟩⟩
  choices := choices
  pending := pending

/-- The part right after reset (R17, R38, R59, R77, R89, R105, R121, R133, R150, R163), with the field lines inactive
(DESIGN CHOICE, log 5), the reset pin released and nothing waiting. -/
def State.reset : State := .powerOn false false ⟨false, false, false, false, false⟩ 0 []

end Sys2Proof.Machine
end

