-- ==== Sys2Proof/Machine/Select.lean ====
section
/-! DEFINITION. Reading and replacing the value of one channel, link, bank or station; the lists of all of them. -/

namespace Sys2Proof.Machine

/-- The value of one channel. -/
def PerChannel.get {α : Type} (x : PerChannel α) : Channel → α
  | .feedClutch => x.feedClutch
  | .cutKnife => x.cutKnife
  | .windowKnife => x.windowKnife
  | .patchGlue => x.patchGlue
  | .patchCut => x.patchCut
  | .gumSeam => x.gumSeam
  | .gumFlap => x.gumFlap
  | .cameraTrigger => x.cameraTrigger
  | .rejectGate => x.rejectGate
  | .batchKicker => x.batchKicker

/-- The values with that of one channel replaced. -/
def PerChannel.set {α : Type} (x : PerChannel α) (k : Channel) (v : α) : PerChannel α :=
  match k with
  | .feedClutch => { x with feedClutch := v }
  | .cutKnife => { x with cutKnife := v }
  | .windowKnife => { x with windowKnife := v }
  | .patchGlue => { x with patchGlue := v }
  | .patchCut => { x with patchCut := v }
  | .gumSeam => { x with gumSeam := v }
  | .gumFlap => { x with gumFlap := v }
  | .cameraTrigger => { x with cameraTrigger := v }
  | .rejectGate => { x with rejectGate := v }
  | .batchKicker => { x with batchKicker := v }

/-- A function applied to the value of every channel. -/
def PerChannel.map {α β : Type} (f : α → β) (x : PerChannel α) : PerChannel β :=
  ⟨f x.feedClutch, f x.cutKnife, f x.windowKnife, f x.patchGlue, f x.patchCut, f x.gumSeam, f x.gumFlap, f x.cameraTrigger, f x.rejectGate, f x.batchKicker⟩

/-- The values a function gives for every channel. -/
def PerChannel.ofFn {α : Type} (f : Channel → α) : PerChannel α :=
  ⟨f .feedClutch, f .cutKnife, f .windowKnife, f .patchGlue, f .patchCut, f .gumSeam, f .gumFlap, f .cameraTrigger, f .rejectGate, f .batchKicker⟩

/-- The value of one link. -/
def PerLink.get {α : Type} (x : PerLink α) : Link → α
  | .line => x.line
  | .inspection => x.inspection
  | .packer => x.packer

/-- The values with that of one link replaced. -/
def PerLink.set {α : Type} (x : PerLink α) (k : Link) (v : α) : PerLink α :=
  match k with
  | .line => { x with line := v }
  | .inspection => { x with inspection := v }
  | .packer => { x with packer := v }

/-- A function applied to the value of every link. -/
def PerLink.map {α β : Type} (f : α → β) (x : PerLink α) : PerLink β :=
  ⟨f x.line, f x.inspection, f x.packer⟩

/-- The values a function gives for every link. -/
def PerLink.ofFn {α : Type} (f : Link → α) : PerLink α :=
  ⟨f .line, f .inspection, f .packer⟩

/-- The value of one bank. -/
def PerBank.get {α : Type} (x : PerBank α) : BankId → α
  | .bank0 => x.bank0
  | .bank1 => x.bank1

/-- The values with that of one bank replaced. -/
def PerBank.set {α : Type} (x : PerBank α) (k : BankId) (v : α) : PerBank α :=
  match k with
  | .bank0 => { x with bank0 := v }
  | .bank1 => { x with bank1 := v }

/-- A function applied to the value of every bank. -/
def PerBank.map {α β : Type} (f : α → β) (x : PerBank α) : PerBank β :=
  ⟨f x.bank0, f x.bank1⟩

/-- The values a function gives for every bank. -/
def PerBank.ofFn {α : Type} (f : BankId → α) : PerBank α :=
  ⟨f .bank0, f .bank1⟩

/-- The value of one station. -/
def PerStation.get {α : Type} (x : PerStation α) : Station → α
  | .patch => x.patch
  | .gum => x.gum
  | .inspect => x.inspect

/-- The values with that of one station replaced. -/
def PerStation.set {α : Type} (x : PerStation α) (k : Station) (v : α) : PerStation α :=
  match k with
  | .patch => { x with patch := v }
  | .gum => { x with gum := v }
  | .inspect => { x with inspect := v }

/-- A function applied to the value of every station. -/
def PerStation.map {α β : Type} (f : α → β) (x : PerStation α) : PerStation β :=
  ⟨f x.patch, f x.gum, f x.inspect⟩

/-- The values a function gives for every station. -/
def PerStation.ofFn {α : Type} (f : Station → α) : PerStation α :=
  ⟨f .patch, f .gum, f .inspect⟩

/-- The channels in the order of their numbers (R39). -/
def Channel.all : List Channel :=
  [.feedClutch, .cutKnife, .windowKnife, .patchGlue, .patchCut, .gumSeam,
    .gumFlap, .cameraTrigger, .rejectGate, .batchKicker]

/-- The other bank. -/
def BankId.other : BankId → BankId
  | .bank0 => .bank1
  | .bank1 => .bank0

end Sys2Proof.Machine
end

