-- ==== Sys2Proof/Machine/Flags.lean ====
section
/-! DEFINITION. Sets and flags: masks of members (R164), posting events (R159), the feed-inhibit set (R145), the pins
that follow the state (R54, R56, R151, R159). -/

namespace Sys2Proof.Machine

/-! ## Sets as masks (section 4 of 00: a set holds each member at most once and has no order) -/

/-- Whether the member with this number is in the set. -/
def maskHas {n : Nat} (m : BitVec n) (k : Nat) : Bool := m.getLsbD k

/-- The set with the member added; a member already present leaves it as it was. -/
def maskAdd {n : Nat} (m : BitVec n) (k : Nat) : BitVec n := m ||| BitVec.twoPow n k

/-- The set with the member removed. -/
def maskRemove {n : Nat} (m : BitVec n) (k : Nat) : BitVec n := m &&& ~~~(BitVec.twoPow n k)

/-- The bit of a reason: the order of the table of R24 (R164). -/
def Reason.index : Reason → Nat
  | .markMissing => 0
  | .doubleMark => 1
  | .regOutOfTol => 2
  | .patchMissing => 3
  | .stationInhibited => 4
  | .gumFault => 5
  | .foldFault => 6
  | .verdictBad => 7
  | .verdictMissing => 8
  | .disturbed => 9
  | .jogged => 10

/-- The bit of an event: the order of the table of R159 (R164). -/
def Event.index : Event → Nat
  | .halted => 0
  | .drained => 1
  | .batchClosed => 2
  | .backlog => 3
  | .overfill => 4
  | .triggersWaiting => 5
  | .triggerOverflow => 6
  | .changeoverTaken => 7
  | .bankReleased => 8
  | .driftAlert => 9
  | .feedInhibited => 10
  | .stray => 11
  | .linkError => 12

/-- The bit of a feed-inhibit cause: the order of the table of R145 (R164). -/
def FeedCause.index : FeedCause → Nat
  | .packerBacklog => 0
  | .gumLow => 1
  | .patchSupply => 2
  | .holdLine => 3
  | .holdInspection => 4
  | .holdPacker => 5

/-- The code of a halt cause, and its bit in a set (R164). -/
def HaltCause.index : HaltCause → Nat
  | .estop => 0
  | .jam => 1
  | .haltCommand => 2
  | .encoderFault => 3
  | .reverse => 4
  | .overspeed => 5

/-- The code of a link, and its bit in a holder set (R164). -/
def linkIndex : Link → Nat
  | .line => 0
  | .inspection => 1
  | .packer => 2

/-- OVERRUN_SEEN as a set of link flags (R164: bit 0). -/
def overrunSeen : BitVec 2 := 1

/-- TIMEOUT_SEEN as a set of link flags (R164: bit 1). -/
def timeoutSeen : BitVec 2 := 2

/-! ## Events (R159) -/

/-- An event added to the pending set of one port. -/
def Port.post (e : Event) (p : Port) : Port := { p with pending := maskAdd p.pending e.index }

/-- A block posts an event: it is added to the pending set of every port (R159). -/
def post (e : Event) (s : State) : State := { s with ports := s.ports.map (Port.post e) }

/-- LINK_ERROR goes to the port of its own link alone (R153, R159). -/
def postTo (l : Link) (e : Event) (s : State) : State := { s with ports := s.ports.set l ((s.ports.get l).post e) }

/-! ## The feed-inhibit set (R145) -/

/-- A cause is added: FEED_INHIBITED is posted when it is added to an empty set while the line is in RUN (R145). -/
def addFeedCause (c : FeedCause) (s : State) : State :=
  let added := { s with line.feedInhibit := maskAdd s.line.feedInhibit c.index }
  if s.line.feedInhibit = 0 ∧ s.line.state = .run then post .feedInhibited added else added

/-- A cause is removed; nothing is posted (R145). -/
def removeFeedCause (c : FeedCause) (s : State) : State :=
  { s with line.feedInhibit := maskRemove s.line.feedInhibit c.index }

/-- A cause made present or absent as its condition says. -/
def setFeedCause (c : FeedCause) (present : Bool) (s : State) : State :=
  if present then addFeedCause c s else removeFeedCause c s

/-- The hold cause of a link (R146). -/
def holdOf : Link → FeedCause
  | .line => .holdLine
  | .inspection => .holdInspection
  | .packer => .holdPacker

/-! ## Per-reason counters (R103) -/

/-- One more if the condition holds, in wrapping arithmetic (section 4 of 00). -/
def bumpIf (c : Bool) (n : Counter) : Counter := if c then n + 1 else n

/-- Each counter raised by one for its reason in the set (R103). -/
def ReasonCounters.count (reasons : BitVec 11) (c : ReasonCounters) : ReasonCounters where
  markMissing := bumpIf (maskHas reasons Reason.markMissing.index) c.markMissing
  doubleMark := bumpIf (maskHas reasons Reason.doubleMark.index) c.doubleMark
  regOutOfTol := bumpIf (maskHas reasons Reason.regOutOfTol.index) c.regOutOfTol
  patchMissing := bumpIf (maskHas reasons Reason.patchMissing.index) c.patchMissing
  stationInhibited := bumpIf (maskHas reasons Reason.stationInhibited.index) c.stationInhibited
  gumFault := bumpIf (maskHas reasons Reason.gumFault.index) c.gumFault
  foldFault := bumpIf (maskHas reasons Reason.foldFault.index) c.foldFault
  verdictBad := bumpIf (maskHas reasons Reason.verdictBad.index) c.verdictBad
  verdictMissing := bumpIf (maskHas reasons Reason.verdictMissing.index) c.verdictMissing
  disturbed := bumpIf (maskHas reasons Reason.disturbed.index) c.disturbed
  jogged := bumpIf (maskHas reasons Reason.jogged.index) c.jogged

/-! ## Running states and pins -/

/-- The line state is RUN or DRAIN. -/
def LineState.running : LineState → Bool
  | .config => false
  | .ready => false
  | .run => true
  | .drain => true
  | .halt => false

/-- The line state is READY or HALT: blanks move by jogging (R100, R112). -/
def LineState.jogging : LineState → Bool
  | .config => false
  | .ready => true
  | .run => false
  | .drain => false
  | .halt => true

/-- Whether some held firing of a channel is ON. -/
def anyOn (fs : List Firing) : Bool := fs.any (fun f => f.state == .on)

/-- The output of a channel (R54 in RUN and DRAIN, with the gate hold of R57; R56 in the other states). -/
def outputOf (s : State) (ch : Channel) : Bool :=
  if s.line.state.running then
    anyOn (s.firing.held.get ch) || (ch == .rejectGate && s.firing.gateHold)
  else
    ch == .rejectGate && s.line.state.jogging

/-- The ready line of a port is asserted in IDLE alone (R151). -/
def Port.readyLine (p : Port) : Bool := p.state == .idle

/-- The attention line is asserted while some event is both pending and enabled (R159). -/
def Port.attentionLine (p : Port) : Bool := (p.pending &&& p.enable) != 0

/-- The data-out line of a port: low while the reset pin is asserted (R151), and otherwise what it carried. -/
def Port.dataOutLine (resetPin : Bool) (p : Port) : DataOut := if resetPin then .low else .bytes p.shifted

/-- What the pins show of a state. -/
def pinsOf (s : State) : Pins where
  outputs := .ofFn (outputOf s)
  ready := s.ports.map fun p => !s.sensors.resetPin && p.readyLine
  attention := s.ports.map Port.attentionLine
  dataOut := s.ports.map (Port.dataOutLine s.sensors.resetPin)

/-! ## The reset pin (R17, R38, R59, R77, R89, R105, R121, R133, R150, R151, R163) -/

/-- While the reset pin is asserted every block stands at its power-on values, whatever comes (log 28). -/
def underReset (s : State) : State :=
  if s.sensors.resetPin then .powerOn s.shaft.pairA s.shaft.pairB s.sensors s.choices s.pending else s

/-- The last thing every command does: an asserted reset pin holds the part at its power-on values, and the pins are
driven to what the state asks (log 25). -/
def conclude (s : State) : State := { underReset s with pins := pinsOf (underReset s) }

end Sys2Proof.Machine
end

