-- ==== Sys2Proof/Machine/Frames.lean ====
section
/-! DEFINITION. Bytes on the links: byte order and codes (R164), the CRC-8 (R165), frames (R164) and the layouts of
records and answers (R167 to R169). -/

namespace Sys2Proof.Machine

/-! ## Byte order (R164: least significant byte first) -/

/-- The low `k` bytes of a number, least significant first. -/
def leBytes : Nat → Nat → List Byte
  | 0, _ => []
  | k + 1, v => BitVec.ofNat 8 v :: leBytes k (v / 256)

/-- The byte at an offset of a payload, as a number; 0 past its end. -/
def byteAt (p : List Byte) (i : Nat) : Nat := (p.getD i 0).toNat

/-- The two-byte quantity at an offset. -/
def wordAt (p : List Byte) (i : Nat) : Nat := byteAt p i + 256 * byteAt p (i + 1)

/-- The three-byte quantity at an offset. -/
def tripleAt (p : List Byte) (i : Nat) : Nat := wordAt p i + 65536 * byteAt p (i + 2)

/-- A signed quantity of two bytes, in two's complement (R164). -/
def signedBytes (v : Int) : List Byte := leBytes 2 (BitVec.ofInt 16 v).toNat

/-- Yes is 1 and no is 0 (R164). -/
def yesNo (b : Bool) : Nat := if b then 1 else 0

/-! ## Codes (R164) -/

def LineState.code : LineState → Nat
  | .config => 0
  | .ready => 1
  | .run => 2
  | .drain => 3
  | .halt => 4

def BankState.code : BankState → Nat
  | .empty => 0
  | .staging => 1
  | .valid => 2
  | .armed => 3
  | .active => 4
  | .draining => 5

def Work.code : Work → Nat
  | .notDue => 0
  | .due => 1
  | .done => 2
  | .skipped => 3

def Verdict.code : Verdict → Nat
  | .notRequired => 0
  | .pending => 1
  | .uninspected => 2
  | .good => 3
  | .bad => 4

def Fate.code : Fate → Nat
  | .undecided => 0
  | .pass => 1
  | .passUnverified => 2
  | .reject => 3

def CloseCause.code : CloseCause → Nat
  | .full => 0
  | .command => 1
  | .changeover => 2
  | .drain => 3
  | .purge => 4

def BankId.code : BankId → Nat
  | .bank0 => 0
  | .bank1 => 1

/-- The value of a status (R154). -/
def Status.code : Status → Byte
  | .ok => 0x00#8
  | .frameError => 0x01#8
  | .unknownCommand => 0x02#8
  | .notPermitted => 0x03#8
  | .badArgument => 0x04#8
  | .wrongState => 0x05#8
  | .bankInUse => 0x06#8
  | .locked => 0x07#8
  | .tooLate => 0x08#8
  | .unknownSeq => 0x09#8
  | .duplicate => 0x0A#8
  | .notExpected => 0x0B#8
  | .mismatch => 0x0C#8
  | .empty => 0x0D#8
  | .alreadyPending => 0x0E#8
  | .invalidBank => 0x0F#8
  | .noResponse => 0x10#8
  | .busy => 0x11#8

/-! ## The CRC-8 (R165) -/

/-- One of the eight steps: doubled, and 0x07 added modulo 2 if the most significant bit was 1. -/
def crcShift (v : Byte) : Byte := if v.msb then (v <<< 1) ^^^ 0x07#8 else v <<< 1

/-- A byte added modulo 2 into the running value, then the eight steps. -/
def crcByte (v b : Byte) : Byte :=
  crcShift (crcShift (crcShift (crcShift (crcShift (crcShift (crcShift (crcShift (v ^^^ b))))))))

/-- The CRC-8 of a span of bytes, from an initial value of 0. -/
def crc8 (bs : List Byte) : Byte := bs.foldl crcByte 0#8

/-! ## Frames (R164) -/

/-- The sync byte. -/
def syncByte : Byte := 0xB5#8

/-- The bytes a CRC of a request covers: command, length, payload. -/
def requestBody (code : Byte) (payload : List Byte) : List Byte := code :: BitVec.ofNat 8 payload.length :: payload

/-- A request frame, as a controller sends it. -/
def requestFrame (code : Byte) (payload : List Byte) : List Byte :=
  syncByte :: (requestBody code payload ++ [crc8 (requestBody code payload)])

/-- The bytes a CRC of a response covers: status, command echo, link flags, length, payload. -/
def responseBody (flags : BitVec 2) (r : Response) : List Byte :=
  r.status.code :: r.echo :: flags.setWidth 8 :: BitVec.ofNat 8 r.payload.length :: r.payload

/-- A response frame with the link flags it reports. -/
def responseFrame (flags : BitVec 2) (r : Response) : List Byte :=
  syncByte :: (responseBody flags r ++ [crc8 (responseBody flags r)])

/-! ## Records and answers -/

/-- An optional quantity travels as 0 when it is absent (R167). -/
def optionNat (v : Option Nat) : Nat := v.getD 0

/-- The blank record of READ RECORD (R167), 18 bytes. -/
def recordBytes (r : Record) : List Byte :=
  leBytes 3 r.seq.toNat ++ leBytes 1 r.bank.code ++ leBytes 1 r.position ++ leBytes 2 r.reasons.toNat
    ++ leBytes 1 (yesNo r.regError.isSome + 2 * yesNo r.shift.isSome + 4 * yesNo r.verdictCause.isSome)
    ++ signedBytes (r.regError.getD 0) ++ signedBytes (r.shift.getD 0)
    ++ leBytes 1 r.patched.code ++ leBytes 1 r.gummed.code ++ leBytes 1 r.verdict.code
    ++ leBytes 1 (optionNat r.verdictCause) ++ leBytes 1 r.fate.code ++ leBytes 1 (yesNo r.counted)

/-- The batch record of PEEK BATCH (R167), 19 bytes. -/
def batchBytes (b : BatchRecord) : List Byte :=
  leBytes 2 b.number ++ leBytes 1 b.bank.code ++ leBytes 2 b.recipeTag ++ leBytes 2 b.size ++ leBytes 2 b.count
    ++ leBytes 3 b.firstSeq.toNat ++ leBytes 3 b.lastSeq.toNat ++ leBytes 2 b.unverified ++ leBytes 1 b.cause.code
    ++ leBytes 1 (yesNo b.overfill + 2 * yesNo b.separationMissed)

/-- The halt record of READ HALT RECORD (R167), 12 bytes. -/
def haltRecordBytes (h : HaltRecord) : List Byte :=
  leBytes 1 (yesNo h.firstCause.isSome + 2 * yesNo h.haltingLink.isSome + 4 * yesNo h.stateLeft.isSome
      + 8 * yesNo h.phaseAtEntry.isSome + 16 * yesNo h.seqAtGate.isSome)
    ++ leBytes 1 (optionNat (h.firstCause.map HaltCause.index)) ++ leBytes 1 (optionNat (h.haltingLink.map linkIndex))
    ++ leBytes 1 (optionNat (h.stateLeft.map LineState.code)) ++ leBytes 2 (optionNat h.phaseAtEntry)
    ++ leBytes 3 (optionNat (h.seqAtGate.map BitVec.toNat)) ++ leBytes 1 h.further.toNat ++ leBytes 2 h.count.toNat

/-- A 32-bit counter of READ COUNTERS (R169). -/
def counterBytes (c : Counter) : List Byte := leBytes 4 c.toNat

/-- An entry of READ TRIGGERS (R169). -/
def triggerBytes (t : Trigger) : List Byte := leBytes 3 t.seq.toNat ++ leBytes 1 t.bank.code

end Sys2Proof.Machine
end

