-- ==== Sys2Proof/Machine/Operands.lean ====
section
/-! DEFINITION. The arguments of requests: payload layouts and ranges (R166, R168). Each reader answers `none` where the
payload has the wrong length or an argument is out of range, and the owner then answers BAD_ARGUMENT (R153). -/

namespace Sys2Proof.Machine

/-- The number of a channel (R39). -/
def Channel.number : Channel → Nat
  | .feedClutch => 0
  | .cutKnife => 1
  | .windowKnife => 2
  | .patchGlue => 3
  | .patchCut => 4
  | .gumSeam => 5
  | .gumFlap => 6
  | .cameraTrigger => 7
  | .rejectGate => 8
  | .batchKicker => 9

/-- The channel with a number (R39). -/
def Channel.ofNumber (n : Nat) : Option Channel := Channel.all.find? (fun c => c.number == n)

/-- A two-valued field of a record reads as yes when it holds 1 (R122, R164, log 16). -/
def yes (field : Nat) : Bool := field == 1

/-- A request with no arguments (R166: payload length 0). -/
def noArguments (p : List Byte) : Option Unit := if p = [] then some () else none

/-- A set of events: a mask of 2 bytes with no bit beyond the thirteenth (R160, R164, R166). -/
def eventsArgument (p : List Byte) : Option (BitVec 13) :=
  if p.length = 2 ∧ wordAt p 0 < 8192 then some (BitVec.ofNat 13 (wordAt p 0)) else none

/-- The group of READ COUNTERS (R162, R164). -/
inductive CounterGroup where
  | production | reasons | quality | timing | link
deriving DecidableEq, Repr

def groupArgument (p : List Byte) : Option CounterGroup :=
  if p.length = 1 then
    match byteAt p 0 with
    | 0 => some .production
    | 1 => some .reasons
    | 2 => some .quality
    | 3 => some .timing
    | 4 => some .link
    | _ => none
  else none

/-- The stations an inhibit or release names: one, or all three for ALL (R147, R164). -/
def stationArgument (p : List Byte) : Option (List Station) :=
  if p.length = 1 then
    match byteAt p 0 with
    | 0 => some [.patch]
    | 1 => some [.gum]
    | 2 => some [.inspect]
    | 3 => some [.patch, .gum, .inspect]
    | _ => none
  else none

/-- The selector of READ RECORD (R35, R166). -/
inductive Selector where
  | byPosition (p : Nat)
  | bySeq (q : Seq)
deriving DecidableEq, Repr

def selectorArgument (p : List Byte) : Option Selector :=
  if p.length = 4 then
    match byteAt p 0 with
    | 0 => if tripleAt p 1 ≤ 47 then some (.byPosition (tripleAt p 1)) else none
    | 1 => some (.bySeq (BitVec.ofNat 24 (tripleAt p 1)))
    | _ => none
  else none

/-- A bank number (R124, R125, R127, R128). -/
def bankOfCode : Nat → Option BankId
  | 0 => some .bank0
  | 1 => some .bank1
  | _ => none

/-- The bank argument of VALIDATE BANK, ARM CHANGEOVER and DISARM (R166: 1 byte). -/
def bankArgument (p : List Byte) : Option BankId := if p.length = 1 then bankOfCode (byteAt p 0) else none

/-- The field groups of a bank (R122). -/
inductive FieldGroup where
  | job
  | registration
  | gumFold
  | channel (ch : Channel)
deriving DecidableEq, Repr

/-- The number of a field group (R122: the channel groups start at 3). -/
def FieldGroup.number : FieldGroup → Nat
  | .job => 0
  | .registration => 1
  | .gumFold => 2
  | .channel ch => ch.number + 3

/-- The field group with a number, 0 to 12 (R122). -/
def fieldGroupOf (n : Nat) : Option FieldGroup :=
  match n with
  | 0 => some .job
  | 1 => some .registration
  | 2 => some .gumFold
  | k + 3 => (Channel.ofNumber k).map .channel

/-- The size of a group's values in bytes (R168). -/
def FieldGroup.size : FieldGroup → Nat
  | .job => 8
  | .registration => 17
  | .gumFold => 8
  | .channel _ => 5

/-- The arguments of WRITE BANK: bank, group and the group's values, of the group's length (R123, R166). -/
def writeBankArgument (p : List Byte) : Option (BankId × FieldGroup × List Byte) :=
  if 2 ≤ p.length then
    match bankOfCode (byteAt p 0), fieldGroupOf (byteAt p 1) with
    | some b, some g => if p.length = 2 + g.size then some (b, g, p.drop 2) else none
    | _, _ => none
  else none

/-- The arguments of READ BANK: bank and group (R125, R166). -/
def readBankArgument (p : List Byte) : Option (BankId × FieldGroup) :=
  if p.length = 2 then
    match bankOfCode (byteAt p 0), fieldGroupOf (byteAt p 1) with
    | some b, some g => some (b, g)
    | _, _ => none
  else none

/-- The values of one group, in its layout (R168), as sent: the other groups keep theirs (R123). -/
def writeGroup (g : FieldGroup) (v : List Byte) (f : BankFields) : BankFields :=
  match g with
  | .job =>
    { f with
      recipeTag := wordAt v 0
      inspectEnable := byteAt v 2
      noVerdictFate := byteAt v 3
      gateDecide := wordAt v 4
      countPhase := wordAt v 6 }
  | .registration =>
    { f with
      windowEnable := byteAt v 0
      markExpected := wordAt v 1
      markOpen := wordAt v 3
      markClose := wordAt v 5
      tol := wordAt v 7
      shiftMax := wordAt v 9
      driftAlert := wordAt v 11
      patchCheckOpen := wordAt v 13
      patchCheckClose := wordAt v 15 }
  | .gumFold =>
    { f with
      gumSeamEnable := byteAt v 0
      gumFlapEnable := byteAt v 1
      skipGumOnReject := byteAt v 2
      foldCheckEnable := byteAt v 3
      foldOpen := wordAt v 4
      foldClose := wordAt v 6 }
  | .channel ch => { f with channels := f.channels.set ch ⟨byteAt v 0, wordAt v 1, wordAt v 3⟩ }

/-- The values of one group, in its layout (R125, R168). -/
def readGroup (g : FieldGroup) (f : BankFields) : List Byte :=
  match g with
  | .job =>
    leBytes 2 f.recipeTag ++ leBytes 1 f.inspectEnable ++ leBytes 1 f.noVerdictFate ++ leBytes 2 f.gateDecide
      ++ leBytes 2 f.countPhase
  | .registration =>
    leBytes 1 f.windowEnable ++ leBytes 2 f.markExpected ++ leBytes 2 f.markOpen ++ leBytes 2 f.markClose
      ++ leBytes 2 f.tol ++ leBytes 2 f.shiftMax ++ leBytes 2 f.driftAlert ++ leBytes 2 f.patchCheckOpen
      ++ leBytes 2 f.patchCheckClose
  | .gumFold =>
    leBytes 1 f.gumSeamEnable ++ leBytes 1 f.gumFlapEnable ++ leBytes 1 f.skipGumOnReject
      ++ leBytes 1 f.foldCheckEnable ++ leBytes 2 f.foldOpen ++ leBytes 2 f.foldClose
  | .channel ch =>
    leBytes 1 (f.channels.get ch).enable ++ leBytes 2 (f.channels.get ch).onPhase
      ++ leBytes 2 (f.channels.get ch).offPhase

/-- The close flag of DRAIN (R139, R166). -/
def yesNoArgument (p : List Byte) : Option Bool :=
  if p.length = 1 then
    match byteAt p 0 with
    | 0 => some false
    | 1 => some true
    | _ => none
  else none

/-- The result a VERDICT carries (R95). -/
inductive VerdictResult where
  | good | bad
deriving DecidableEq, Repr

/-- The arguments of VERDICT: seq, result GOOD or BAD, cause 0 to 15 (R95, R166). -/
def verdictArgument (p : List Byte) : Option (Seq × VerdictResult × Nat) :=
  if p.length = 5 ∧ byteAt p 4 ≤ 15 then
    match byteAt p 3 with
    | 0 => some (BitVec.ofNat 24 (tripleAt p 0), .good, byteAt p 4)
    | 1 => some (BitVec.ofNat 24 (tripleAt p 0), .bad, byteAt p 4)
    | _ => none
  else none

/-- The size of SET BATCH SIZE, 1 to 2000 (R117). -/
def sizeArgument (p : List Byte) : Option Nat :=
  if p.length = 2 ∧ 1 ≤ wordAt p 0 ∧ wordAt p 0 ≤ 2000 then some (wordAt p 0) else none

/-- The batch number of TAKE BATCH, 1 to 65 535 (R116). -/
def batchNumberArgument (p : List Byte) : Option Nat :=
  if p.length = 2 ∧ 1 ≤ wordAt p 0 then some (wordAt p 0) else none

/-- The geometry record as WRITE GEOMETRY carries it, 55 bytes, every value as sent (R135, R168). -/
def geometryArgument (p : List Byte) : Option Geometry :=
  if p.length = 55 then
    some
      { cpp := wordAt p 0
        indexCheck := byteAt p 2
        indexCount := wordAt p 3
        posMark := byteAt p 5
        posCut := byteAt p 6
        posPatch := byteAt p 7
        posGum := byteAt p 8
        posFold := byteAt p 9
        posInspect := byteAt p 10
        posGate := byteAt p 11
        posCount := byteAt p 12
        zoneFirst := byteAt p 13
        zoneLast := byteAt p 14
        dtOn := .ofFn (fun ch => wordAt p (15 + 4 * ch.number))
        dtOff := .ofFn (fun ch => wordAt p (17 + 4 * ch.number)) }
  else none

end Sys2Proof.Machine
end

