-- ==== Sys2Proof/Machine/Ops.lean ====
section
/-! DEFINITION. The operations that several commands share: free orders, lookups in the chain, bank states and the
changeover, closing a batch, leaving RUN or DRAIN, halts, drain completion, answering a request. -/

namespace Sys2Proof.Machine

/-! ## Free orders (log 2) -/

/-- One of `n` alternatives, free: with one alternative, or none, nothing is chosen. -/
def choose (n : Nat) (s : State) : Nat × State :=
  if n ≤ 1 then (0, s) else (Config.freeChoice s.choices % n, { s with choices := s.choices + 1 })

/-- Tasks taken one after another in a free order, each only when `able` allows it before the tasks still left; a task
may hand on further tasks. `fuel` bounds how many tasks are taken. -/
def runFree {α : Type} [DecidableEq α] (act : α → State → List α × State) (able : α → List α → State → Bool) :
    Nat → List α → State → State
  | 0, _, s => s
  | fuel + 1, tasks, s =>
    let free := tasks.filter (fun t => able t tasks s)
    let chosen := choose free.length s
    match free[chosen.1]? with
    | none => chosen.2
    | some t =>
      let done := act t chosen.2
      runFree act able fuel (tasks.erase t ++ done.1) done.2

/-- Every task may be taken at any time. -/
def anyTime {α : Type} (_ : α) (_ : List α) (_ : State) : Bool := true

/-- Tasks that hand on nothing, in a free order. -/
def runAll {α : Type} [DecidableEq α] (act : α → State → State) (tasks : List α) (s : State) : State :=
  runFree (fun t s => ([], act t s)) anyTime tasks.length tasks s

/-! ## The chain (R20, R32) -/

/-- The record at a position; a position outside 0 to pos_COUNT answers that it is empty (R32). -/
def recordAt (s : State) (p : Nat) : Option Record :=
  if p ≤ s.geometry.posCount then s.chain.records.find? (fun r => r.position == p) else none

/-- The record one position below a station (R32: an anchor position less one); below position 0 there is none
(log 18). -/
def recordBefore (s : State) (station : Nat) : Option Record :=
  match station with
  | 0 => none
  | p + 1 => recordAt s p

/-- The record bearing a sequence number (R32). -/
def recordBySeq (s : State) (q : Seq) : Option Record := s.chain.records.find? (fun r => r.seq == q)

/-- Whether any record in a list names a bank. -/
def namesBank (records : List Record) (b : BankId) : Bool := records.any (fun r => r.bank == b)

/-- Whether any record in the chain names a bank (R32). -/
def bankNamed (s : State) (b : BankId) : Bool := namesBank s.chain.records b

/-- A write to the record bearing a sequence number; where no record bears it nothing changes (R23). -/
def updateRecord (q : Seq) (f : Record → Record) (s : State) : State :=
  { s with chain.records := s.chain.records.map (fun r => if r.seq == q then f r else r) }

/-- A reason added to a record's set: once the fate has left UNDECIDED the set is closed (R24, R101). -/
def Record.addReason (e : Reason) (r : Record) : Record :=
  if r.fate = .undecided then { r with reasons := maskAdd r.reasons e.index } else r

/-- A block adds a reason to a record (R24). -/
def addReason (q : Seq) (e : Reason) (s : State) : State := updateRecord q (Record.addReason e) s

/-! ## Banks (R122, R126) -/

/-- The fields of a bank. -/
def fieldsOf (s : State) (b : BankId) : BankFields := (s.banks.get b).fields

/-- The state of a bank. -/
def bankState (s : State) (b : BankId) : BankState := (s.banks.get b).state

/-- A bank put into a state; its fields are kept (R122). -/
def setBankState (b : BankId) (st : BankState) (s : State) : State :=
  { s with banks := s.banks.set b { s.banks.get b with state := st } }

/-- The bank in a state, where there is one. -/
def bankIn (st : BankState) (s : State) : Option BankId :=
  if bankState s .bank0 = st then some .bank0 else if bankState s .bank1 = st then some .bank1 else none

/-- The active bank: the bank in state ACTIVE, where there is one. -/
def activeBank (s : State) : Option BankId := bankIn .active s

/-- The armed changeover: the bank in state ARMED, where there is one. -/
def armedBank (s : State) : Option BankId := bankIn .armed s

/-! ## Supplies (R75, R83) -/

/-- GUM_LOW holds: GUM_OK inactive, and the active bank uses gum (R83). -/
def gumLow (s : State) : Bool :=
  match activeBank s with
  | none => false
  | some b => !s.sensors.gumOk && (yes (fieldsOf s b).gumSeamEnable || yes (fieldsOf s b).gumFlapEnable)

/-- PATCH_SUPPLY holds: PATCH_WEB_OK inactive, and the active bank takes a window (R75). -/
def patchSupplyLow (s : State) : Bool :=
  match activeBank s with
  | none => false
  | some b => !s.sensors.patchWebOk && yes (fieldsOf s b).windowEnable

/-- GUM_LOW and PATCH_SUPPLY taken anew (R75, R83, R130). -/
def retakeSupplies (s : State) : State :=
  let s1 := setFeedCause .gumLow (gumLow s) s
  setFeedCause .patchSupply (patchSupplyLow s1) s1

/-! ## The changeover (R130, R131) -/

/-- The drift filter, its alert and the accepted measurements zeroed; nothing is posted (R70). -/
def zeroDrift (s : State) : State :=
  { s with registration := { s.registration with m16 := 0, driftAlert := false, accepted := 0 } }

/-- An open batch of the bank just made ACTIVE is marked superseded (R107). -/
def supersede (b : BankId) (s : State) : State :=
  { s with batch.openBatch := s.batch.openBatch.map fun o => if o.bank = b then { o with superseded := true } else o }

/-- The bank that was ACTIVE becomes DRAINING while a record names it, and VALID with BANK_RELEASED otherwise
(R130 step 2). -/
def retireBank (b : BankId) (s : State) : State :=
  if bankNamed s b then setBankState b .draining s else post .bankReleased (setBankState b .valid s)

/-- An armed changeover takes effect (R130); with no bank ARMED nothing happens. -/
def takeChangeover (s : State) : State :=
  match armedBank s with
  | none => s
  | some b =>
    let s1 := setBankState b .active s
    let s2 := match activeBank s with
      | none => s1
      | some old => retireBank old s1
    retakeSupplies (supersede b (zeroDrift (post .changeoverTaken s2)))

/-- The notice that no record names a bank any longer: a DRAINING bank becomes VALID with BANK_RELEASED (R31, R131). -/
def releaseBank (b : BankId) (s : State) : State :=
  if bankState s b = .draining then post .bankReleased (setBankState b .valid s) else s

/-- The notices for the banks that records named before and none names now (R31). -/
def releaseNotices (before : List Record) (s : State) : State :=
  [BankId.bank0, BankId.bank1].foldl
    (fun s b => if namesBank before b && !bankNamed s b then releaseBank b s else s) s

/-! ## Closing a batch (R111, R114) -/

/-- The backlog checked against the queue length (R114). -/
def checkBacklog (s : State) : State :=
  if s.batch.backlog = false ∧ 12 ≤ s.batch.queue.length then
    addFeedCause .packerBacklog (post .backlog { s with batch.backlog := true })
  else if s.batch.backlog = true ∧ s.batch.queue.length ≤ 8 then
    removeFeedCause .packerBacklog { s with batch.backlog := false }
  else s

/-- The batch record made from an open batch at its close (R111 step 1). -/
def OpenBatch.closed (o : OpenBatch) (cause : CloseCause) : BatchRecord where
  number := o.number
  bank := o.bank
  recipeTag := o.recipeTag
  size := o.size
  count := o.count
  firstSeq := o.firstSeq
  lastSeq := o.lastSeq
  unverified := o.unverified
  cause := cause
  overfill := o.overfill
  separationMissed := o.separationMissed

/-- The open batch is closed with a cause (R111); with none open nothing happens. -/
def closeBatch (cause : CloseCause) (s : State) : State :=
  match s.batch.openBatch with
  | none => s
  | some o =>
    checkBacklog (post .batchClosed
      { s with batch := { s.batch with
          openBatch := none, closeRequest := false, queue := s.batch.queue ++ [o.closed cause] } })

/-! ## Leaving RUN or DRAIN, and halts -/

/-- The period is made not valid (R9). -/
def spoilPeriod (s : State) : State := { s with shaft := { s.shaft with periodValid := false, timingQualified := false } }

/-- The mark, patch and fold windows become SHUT (R63, R85). -/
def shutWindows (s : State) : State :=
  { s with
    registration := { s.registration with markWindow := .shut, patchOpen := false }
    gumFold := { s.gumFold with foldOpen := false } }

/-- The line leaves RUN or DRAIN: held firings abandoned, planning no longer continuous, gate hold off (R55, R57),
windows shut (R63, R85), the gum progress list emptied (R82). -/
def leaveRunning (s : State) : State :=
  shutWindows
    { s with
      firing := { s.firing with held := .all [], planningContinuous := false, gateHold := false }
      gumFold := { s.gumFold with progress := [] } }

/-- DISTURBED added to every record from zone_first to zone_last (R142). -/
def markZone (s : State) : State :=
  { s with chain.records := s.chain.records.map fun r =>
      if s.geometry.zoneFirst ≤ r.position ∧ r.position ≤ s.geometry.zoneLast then r.addReason .disturbed else r }

/-- The halt record of an entry to HALT (R143). -/
def haltEntryRecord (cause : HaltCause) (link : Option Link) (s : State) : HaltRecord where
  firstCause := some cause
  haltingLink := link
  stateLeft := some s.line.state
  phaseAtEntry := some s.shaft.phase
  seqAtGate := (recordBefore s s.geometry.posGate).map Record.seq
  further := 0
  count := s.line.haltRecord.count + 1

/-- A halt cause takes the line from READY, RUN or DRAIN to HALT (R141). -/
def enterHalt (cause : HaltCause) (link : Option Link) (s : State) : State :=
  let s1 := if s.line.state.running then leaveRunning (markZone s) else s
  post .halted (spoilPeriod
    { s1 with line := { s1.line with
        haltRecord := haltEntryRecord cause link s, closeFlag := none, state := .halt } })

/-- A halt cause raised to the Line Sequencer (R140): in HALT it joins the further causes (R143); in CONFIG none is
raised. -/
def raiseCause (cause : HaltCause) (link : Option Link) (s : State) : State :=
  match s.line.state with
  | .config => s
  | .halt => { s with line.haltRecord.further := maskAdd s.line.haltRecord.further cause.index }
  | .ready => enterHalt cause link s
  | .run => enterHalt cause link s
  | .drain => enterHalt cause link s

/-- At each entry to READY the levels of ESTOP and JAM are examined; either may be taken first (R140). -/
def examineLevels (s : State) : State :=
  runAll (fun c => raiseCause c none)
    ((if s.sensors.estop then [HaltCause.estop] else []) ++ (if s.sensors.jam then [HaltCause.jam] else [])) s

/-! ## Drain completion and the chain-empty notice (R31, R139) -/

/-- With the chain empty there is no mark and no patch subject (R77). -/
def noSubjects (s : State) : State :=
  { s with registration := { s.registration with markSubject := none, patchSubject := none } }

/-- The drain is completed (R139), and the entry to READY examines the levels (R140). -/
def completeDrain (s : State) : State :=
  let s1 := noSubjects (leaveRunning { s with line.state := .ready })
  let s2 := if s.line.closeFlag = some true then closeBatch .drain s1 else s1
  examineLevels (takeChangeover (post .drained { s2 with line.closeFlag := none }))

/-- The chain-empty notice (R31): in DRAIN it completes the drain, in READY an armed changeover takes effect (R129). -/
def chainEmptyNotice (s : State) : State :=
  match s.line.state with
  | .config => s
  | .ready => takeChangeover s
  | .run => s
  | .drain => completeDrain s
  | .halt => s

/-! ## Answering a request (R153) -/

/-- The port's part of an answer: it becomes the held response, and the port becomes IDLE or waits for the end of an
exchange in progress (R151, R153, R156). -/
def Port.answered (r : Response) (p : Port) : Port :=
  { p with held := some r, work := none, state := if p.exchange.isSome then p.state else .idle }

/-- The owning block answers a request of a link: status, the command echoed, payload (R153). -/
def answer (l : Link) (c : Command) (status : Status) (payload : List Byte) (s : State) : State :=
  { s with ports := s.ports.set l ((s.ports.get l).answered ⟨status, c.code, payload⟩) }

end Sys2Proof.Machine
end

