-- ==== Sys2Proof/Machine/PortRequests.lean ====
section
/-! DEFINITION. Meanings of the requests that the port itself owns: COLLECT, READ STATUS, the event commands, READ
COUNTERS (R160 to R162). -/

namespace Sys2Proof.Machine

/-- A request whose payload length or argument fails is answered BAD_ARGUMENT and changes nothing else (R153). -/
def badArgument (l : Link) (c : Command) (s : State) : State := answer l c .badArgument [] s

/-- COLLECT (R161). -/
def execCollect (l : Link) (p : List Byte) (s : State) : Host.Outcome State Fault Refusal :=
  .next (conclude (match noArguments p with
    | none => badArgument l .collect s
    | some _ => answer l .collect .ok [] s))

/-- Which stations are inhibited, as a mask (R161, R164). -/
def inhibitedMask (s : State) : Nat :=
  yesNo (s.line.holders.patch != 0) + 2 * yesNo (s.line.holders.gum != 0) + 4 * yesNo (s.line.holders.inspect != 0)

/-- The active bank as READ STATUS gives it: 0xFF for none (R169). -/
def activeBankCode (s : State) : Nat :=
  match activeBank s with
  | none => 255
  | some b => b.code

/-- The payload of READ STATUS, 13 bytes (R161, R169). -/
def statusBytes (s : State) : List Byte :=
  leBytes 1 s.line.state.code ++ leBytes 1 s.line.feedInhibit.toNat ++ leBytes 1 (inhibitedMask s)
    ++ leBytes 1 (activeBankCode s) ++ leBytes 1 (bankState s .bank0).code ++ leBytes 1 (bankState s .bank1).code
    ++ leBytes 1 s.chain.records.length ++ leBytes 1 s.batch.queue.length ++ leBytes 1 (yesNo s.batch.openBatch.isSome)
    ++ leBytes 2 (optionNat (s.batch.openBatch.map OpenBatch.count)) ++ leBytes 1 s.shaft.reverseDebt
    ++ leBytes 1 (yesNo s.shaft.periodValid)

/-- READ STATUS (R161). -/
def execReadStatus (l : Link) (p : List Byte) (s : State) : Host.Outcome State Fault Refusal :=
  .next (conclude (match noArguments p with
    | none => badArgument l .readStatus s
    | some _ => answer l .readStatus .ok (statusBytes s) s))

/-- The payload of READ EVENTS: the pending set, then the enable set (R160, R169). -/
def eventBytes (p : Port) : List Byte := leBytes 2 p.pending.toNat ++ leBytes 2 p.enable.toNat

/-- READ EVENTS (R160). -/
def execReadEvents (l : Link) (p : List Byte) (s : State) : Host.Outcome State Fault Refusal :=
  .next (conclude (match noArguments p with
    | none => badArgument l .readEvents s
    | some _ => answer l .readEvents .ok (eventBytes (s.ports.get l)) s))

/-- A port's pending and enable sets replaced. -/
def setEvents (l : Link) (pending enable : BitVec 13) (s : State) : State :=
  { s with ports := s.ports.set l { s.ports.get l with pending := pending, enable := enable } }

/-- ACK EVENTS: each named event leaves the pending set (R160). -/
def execAckEvents (l : Link) (p : List Byte) (s : State) : Host.Outcome State Fault Refusal :=
  .next (conclude (match eventsArgument p with
    | none => badArgument l .ackEvents s
    | some m =>
      answer l .ackEvents .ok [] (setEvents l ((s.ports.get l).pending &&& ~~~m) (s.ports.get l).enable s)))

/-- ENABLE EVENTS: each named event joins the enable set (R160). -/
def execEnableEvents (l : Link) (p : List Byte) (s : State) : Host.Outcome State Fault Refusal :=
  .next (conclude (match eventsArgument p with
    | none => badArgument l .enableEvents s
    | some m =>
      answer l .enableEvents .ok [] (setEvents l (s.ports.get l).pending ((s.ports.get l).enable ||| m) s)))

/-- DISABLE EVENTS: each named event leaves the enable set (R160). -/
def execDisableEvents (l : Link) (p : List Byte) (s : State) : Host.Outcome State Fault Refusal :=
  .next (conclude (match eventsArgument p with
    | none => badArgument l .disableEvents s
    | some m =>
      answer l .disableEvents .ok [] (setEvents l (s.ports.get l).pending ((s.ports.get l).enable &&& ~~~m) s)))

/-- The code of a counter group (R164). -/
def CounterGroup.code : CounterGroup → Nat
  | .production => 0
  | .reasons => 1
  | .quality => 2
  | .timing => 3
  | .link => 4

/-- The counters of a group, in the order of R162; the link group is the receiving port's own. -/
def groupCounters (g : CounterGroup) (l : Link) (s : State) : List Counter :=
  match g with
  | .production => [s.chain.fed, s.chain.good, s.chain.rejected, s.chain.purged]
  | .reasons =>
    let c := s.verdicts.reasonCounts
    [c.markMissing, c.doubleMark, c.regOutOfTol, c.patchMissing, c.stationInhibited, c.gumFault, c.foldFault,
      c.verdictBad, c.verdictMissing, c.disturbed, c.jogged]
  | .quality =>
    [s.verdicts.unverifiedPasses, s.verdicts.lateVerdicts, s.verdicts.verdictsRefused, s.verdicts.triggerOverflows]
  | .timing =>
    [s.registration.strayMarks, s.registration.strayPatches, s.gumFold.strayBlanks, s.firing.lateOpens,
      s.firing.leadClamps, s.firing.widthClamps, s.batch.separationMissed]
  | .link => [(s.ports.get l).frameErrors, (s.ports.get l).overruns, (s.ports.get l).timeouts]

/-- READ COUNTERS (R162, R169). -/
def execReadCounters (l : Link) (p : List Byte) (s : State) : Host.Outcome State Fault Refusal :=
  .next (conclude (match groupArgument p with
    | none => badArgument l .readCounters s
    | some g =>
      answer l .readCounters .ok (leBytes 1 g.code ++ (groupCounters g l s).flatMap counterBytes) s))

end Sys2Proof.Machine
end

