-- ==== Sys2Proof/Machine/HoldRequests.lean ====
section
/-! DEFINITION. Meanings of the requests that hold the feed and the stations: FEED HOLD, FEED RELEASE, INHIBIT STATION,
RELEASE STATION, CLEAR HOLDS (R146 to R148). -/

namespace Sys2Proof.Machine

/-- FEED HOLD: the sending link's own hold is set (R146). -/
def execFeedHold (l : Link) (p : List Byte) (s : State) : Host.Outcome State Fault Refusal :=
  .next (conclude (match noArguments p with
    | none => badArgument l .feedHold s
    | some _ => answer l .feedHold .ok [] (addFeedCause (holdOf l) s)))

/-- FEED RELEASE: the sending link's own hold is cleared (R146). -/
def execFeedRelease (l : Link) (p : List Byte) (s : State) : Host.Outcome State Fault Refusal :=
  .next (conclude (match noArguments p with
    | none => badArgument l .feedRelease s
    | some _ => answer l .feedRelease .ok [] (removeFeedCause (holdOf l) s)))

/-- A link's membership in the holder sets of stations changed by a function of the set (R147). -/
def changeHolders (f : BitVec 3 → BitVec 3) (stations : List Station) (s : State) : State :=
  { s with line.holders := stations.foldl (fun h st => h.set st (f (h.get st))) s.line.holders }

/-- INHIBIT STATION: the sending link joins the holder sets named (R147). -/
def execInhibitStation (l : Link) (p : List Byte) (s : State) : Host.Outcome State Fault Refusal :=
  .next (conclude (match stationArgument p with
    | none => badArgument l .inhibitStation s
    | some sts => answer l .inhibitStation .ok [] (changeHolders (fun m => maskAdd m (linkIndex l)) sts s)))

/-- RELEASE STATION: the sending link leaves the holder sets named (R147). -/
def execReleaseStation (l : Link) (p : List Byte) (s : State) : Host.Outcome State Fault Refusal :=
  .next (conclude (match stationArgument p with
    | none => badArgument l .releaseStation s
    | some sts => answer l .releaseStation .ok [] (changeHolders (fun m => maskRemove m (linkIndex l)) sts s)))

/-- The three link holds removed and all holder sets emptied (R148). -/
def clearHolds (s : State) : State :=
  let s1 := removeFeedCause .holdPacker (removeFeedCause .holdInspection (removeFeedCause .holdLine s))
  { s1 with line.holders := ⟨0, 0, 0⟩ }

/-- CLEAR HOLDS (R148). -/
def execClearHolds (p : List Byte) (s : State) : Host.Outcome State Fault Refusal :=
  .next (conclude (match noArguments p with
    | none => badArgument .line .clearHolds s
    | some _ => answer .line .clearHolds .ok [] (clearHolds s)))

end Sys2Proof.Machine
end

