-- ==== Sys2Proof/Machine/ChainOp.lean ====
section
/-! DEFINITION. The Pitch Chain's boundary operation: leaving, advance, feed (R26 to R31), and the discard of a line
reset (R36). -/

namespace Sys2Proof.Machine

/-- The record leaves from pos_GATE: fate REJECT or UNDECIDED (R27). -/
def leavesAtGate (g : Geometry) (r : Record) : Bool :=
  r.position == g.posGate && (r.fate == .reject || r.fate == .undecided)

/-- The record leaves from pos_COUNT (R28). -/
def leavesAtCount (g : Geometry) (r : Record) : Bool := !leavesAtGate g r && r.position == g.posCount

/-- The record stays in the chain at stage 1 (R26). -/
def staysInChain (g : Geometry) (r : Record) : Bool := !leavesAtGate g r && !leavesAtCount g r

/-- A number of records added to a counter, in wrapping arithmetic. -/
def addCount (c : Counter) (records : List Record) : Counter := c + BitVec.ofNat 32 records.length

/-- Stage 1 of the boundary operation (R27, R28, R103) with the notices for banks no longer named (R31). -/
def leavingStage (s : State) : State :=
  let records := s.chain.records
  let rejects := records.filter (leavesAtGate s.geometry)
  releaseNotices records
    { s with
      chain := { s.chain with
        records := records.filter (staysInChain s.geometry)
        rejected := addCount s.chain.rejected rejects
        good := addCount s.chain.good (records.filter (leavesAtCount s.geometry)) }
      verdicts.reasonCounts := rejects.foldl (fun c r => c.count r.reasons) s.verdicts.reasonCounts }

/-- Stage 2: every record still in the chain moves up one position (R29). -/
def advanceStage (s : State) : State :=
  { s with chain.records := s.chain.records.map fun r => { r with position := r.position + 1 } }

/-- A record at its creation, under the active bank (R22). -/
def newRecord (q : Seq) (b : BankId) (f : BankFields) : Record where
  seq := q
  bank := b
  position := 0
  reasons := 0
  regError := none
  shift := none
  patched := if yes f.windowEnable then .due else .notDue
  gummed := if yes f.gumSeamEnable || yes f.gumFlapEnable then .due else .notDue
  verdict := if yes f.inspectEnable then .uninspected else .notRequired
  verdictCause := none
  fate := .undecided
  counted := false

/-- The feed decision succeeds: RUN, the feed-inhibit set empty, an active bank (R30). -/
def mayFeed (s : State) : Bool :=
  s.line.state == .run && s.line.feedInhibit == 0 && (activeBank s).isSome

/-- A record is created at position 0 under the active bank (R30). -/
def createRecord (s : State) : State :=
  match activeBank s with
  | none => s
  | some b =>
    { s with chain := { s.chain with
        records := newRecord s.chain.nextSeq b (fieldsOf s b) :: s.chain.records
        nextSeq := s.chain.nextSeq + 1
        fed := s.chain.fed + 1 } }

/-- Stage 3: the feed decision; an armed changeover takes effect before the record is created (R30, R129). -/
def feedStage (s : State) : State := if mayFeed s then createRecord (takeChangeover s) else s

/-- The Pitch Chain's boundary operation, one operation in three stages (R26). -/
def chainBoundary (s : State) : State := feedStage (advanceStage (leavingStage s))

/-- Whether a boundary operation emptied the chain: one or more records before it and none after it (R31). -/
def becameEmpty (before after : State) : Bool :=
  !before.chain.records.isEmpty && after.chain.records.isEmpty

/-- Every record is discarded and counted as purged; the notices for banks no longer named are given (R36). -/
def discardRecords (s : State) : State :=
  releaseNotices s.chain.records
    { s with chain := { s.chain with records := [], purged := addCount s.chain.purged s.chain.records } }

end Sys2Proof.Machine
end

