-- ==== Sys2Proof/Machine/LineRequests.lean ====
section
/-! DEFINITION. Meanings of the Line Sequencer's requests: the geometry record (R2, R135 to R137), START and DRAIN (R138,
R139), HALT, CLEAR HALT and READ HALT RECORD (R140, R143, R144), LINE RESET (R149). -/

namespace Sys2Proof.Machine

/-! ## The geometry record -/

/-- A cpp the Shaft Tracker adopts, and COMMIT GEOMETRY accepts: 512 to 16384 and a multiple of 4 (R2, R136). -/
def cppValid (cpp : Nat) : Bool := decide (512 ≤ cpp) && decide (cpp ≤ 16384) && decide (cpp % 4 = 0)

/-- The working cpp takes a valid cpp that differs from it; count, phases, debt and index state start again (R2). -/
def adoptCpp (s : State) : State :=
  if cppValid s.geometry.cpp = true ∧ s.geometry.cpp ≠ s.shaft.workingCpp then
    { s with shaft := { s.shaft with
        workingCpp := s.geometry.cpp
        count := 0
        phase := 0
        highWater := 0
        reverseDebt := 0
        mismatchRun := 0
        boundariesSinceIndex := 0 } }
  else s

/-- WRITE GEOMETRY (R135): in CONFIG every field takes the value sent; elsewhere LOCKED. -/
def execWriteGeometry (p : List Byte) (s : State) : Host.Outcome State Fault Refusal :=
  .next (conclude (match geometryArgument p with
    | none => badArgument .line .writeGeometry s
    | some g =>
      if s.line.state = .config then answer .line .writeGeometry .ok [] (adoptCpp { s with geometry := g })
      else answer .line .writeGeometry .locked [] s))

/-- The checks of COMMIT GEOMETRY, each with its code, in ascending order of code (R136). -/
def geometryChecks (g : Geometry) : List (Nat × Bool) :=
  [(1, cppValid g.cpp),
    (2, decide (g.indexCheck ≤ 1)),
    (3, decide (g.indexCount < g.cpp)),
    (4, decide (1 ≤ g.posMark ∧ g.posMark ≤ 47)),
    (5, decide (1 ≤ g.posCut ∧ g.posCut ≤ 47 ∧ g.posMark < g.posCut)),
    (6, decide (1 ≤ g.posPatch ∧ g.posPatch ≤ 47 ∧ g.posCut < g.posPatch)),
    (7, decide (1 ≤ g.posGum ∧ g.posGum ≤ 47 ∧ g.posPatch < g.posGum)),
    (8, decide (1 ≤ g.posFold ∧ g.posFold ≤ 47 ∧ g.posGum < g.posFold)),
    (9, decide (1 ≤ g.posInspect ∧ g.posInspect ≤ 47 ∧ g.posFold < g.posInspect)),
    (10, decide (1 ≤ g.posGate ∧ g.posGate ≤ 47 ∧ g.posInspect < g.posGate)),
    (11, decide (1 ≤ g.posCount ∧ g.posCount ≤ 47 ∧ g.posGate < g.posCount)),
    (12, decide (g.zoneFirst ≤ g.zoneLast)),
    (13, decide (g.zoneLast < g.posGate))] ++
  Channel.all.flatMap fun ch =>
    [(32 + 2 * ch.number, decide (g.dtOn.get ch ≤ 20000)), (33 + 2 * ch.number, decide (g.dtOff.get ch ≤ 20000))]

/-- The code of the first check that fails, if one does (R124, R136). -/
def firstFailure (checks : List (Nat × Bool)) : Option Nat := (checks.find? fun c => !c.2).map Prod.fst

/-- The mark and patch windows, the subjects and the fold window at COMMIT and RELEASE GEOMETRY (R77, R89). -/
def settleStations (s : State) : State := noSubjects (shutWindows s)

/-- The geometry is committed: READY, locked, debt and index state started again, period not valid (R18, R136); the
entry to READY examines the levels (R140). -/
def commitGeometry (s : State) : State :=
  let s1 := spoilPeriod (settleStations s)
  examineLevels
    { s1 with
      shaft := { s1.shaft with reverseDebt := 0, mismatchRun := 0, boundariesSinceIndex := 0 }
      line := { s1.line with state := .ready, locked := true } }

/-- COMMIT GEOMETRY (R136). -/
def execCommitGeometry (p : List Byte) (s : State) : Host.Outcome State Fault Refusal :=
  .next (conclude (match noArguments p with
    | none => badArgument .line .commitGeometry s
    | some _ =>
      if s.line.state = .config then
        match firstFailure (geometryChecks s.geometry) with
        | some code => answer .line .commitGeometry .badArgument (leBytes 1 code) s
        | none => answer .line .commitGeometry .ok [] (commitGeometry s)
      else answer .line .commitGeometry .locked [] s))

/-- The geometry is released: CONFIG, unlocked, index state started again, period not valid (R18, R137). -/
def releaseGeometry (s : State) : State :=
  let s1 := spoilPeriod (settleStations s)
  { s1 with
    shaft := { s1.shaft with mismatchRun := 0, boundariesSinceIndex := 0 }
    line := { s1.line with state := .config, locked := false } }

/-- RELEASE GEOMETRY: in READY with the chain empty (R137). -/
def execReleaseGeometry (p : List Byte) (s : State) : Host.Outcome State Fault Refusal :=
  .next (conclude (match noArguments p with
    | none => badArgument .line .releaseGeometry s
    | some _ =>
      if s.line.state = .ready ∧ s.chain.records = [] then
        answer .line .releaseGeometry .ok [] (releaseGeometry s)
      else answer .line .releaseGeometry .wrongState [] s))

/-! ## START and DRAIN -/

/-- The line starts: RUN, period not valid, gate hold on; FEED_INHIBITED posted if the set is not empty (R138, R145). -/
def startLine (s : State) : State :=
  let s1 := spoilPeriod s
  let s2 := { s1 with firing.gateHold := true, line.state := .run }
  if s2.line.feedInhibit = 0 then s2 else post .feedInhibited s2

/-- START: in READY with an active bank (R138). -/
def execStart (p : List Byte) (s : State) : Host.Outcome State Fault Refusal :=
  .next (conclude (match noArguments p with
    | none => badArgument .line .start s
    | some _ =>
      if s.line.state = .ready ∧ (activeBank s).isSome = true then answer .line .start .ok [] (startLine s)
      else answer .line .start .wrongState [] s))

/-- The line drains: the close flag stored, DRAIN; with the chain empty the drain is completed at once (R139). -/
def beginDrain (close : Bool) (s : State) : State :=
  let s1 := { s with line := { s.line with state := .drain, closeFlag := some close } }
  if s1.chain.records = [] then completeDrain s1 else s1

/-- DRAIN: in RUN (R139). -/
def execDrain (p : List Byte) (s : State) : Host.Outcome State Fault Refusal :=
  .next (conclude (match yesNoArgument p with
    | none => badArgument .line .drain s
    | some close =>
      if s.line.state = .run then answer .line .drain .ok [] (beginDrain close s)
      else answer .line .drain .wrongState [] s))

/-! ## Halts -/

/-- HALT: raises HALT_COMMAND with its link outside CONFIG (R140). -/
def execHalt (l : Link) (p : List Byte) (s : State) : Host.Outcome State Fault Refusal :=
  .next (conclude (match noArguments p with
    | none => badArgument l .halt s
    | some _ =>
      if s.line.state = .config then answer l .halt .wrongState [] s
      else answer l .halt .ok [] (raiseCause .haltCommand (some l) s)))

/-- The halt is cleared: causes absent, READY; an armed changeover takes effect if the chain is empty (R144). -/
def clearHalt (s : State) : State :=
  let s1 := { s with line := { s.line with
    state := .ready
    haltRecord := { s.line.haltRecord with firstCause := none, haltingLink := none, further := 0 } } }
  if s1.chain.records = [] then takeChangeover s1 else s1

/-- CLEAR HALT: in HALT with ESTOP and JAM inactive (R144). -/
def execClearHalt (p : List Byte) (s : State) : Host.Outcome State Fault Refusal :=
  .next (conclude (match noArguments p with
    | none => badArgument .line .clearHalt s
    | some _ =>
      if s.line.state = .halt ∧ s.sensors.estop = false ∧ s.sensors.jam = false then
        answer .line .clearHalt .ok [] (clearHalt s)
      else answer .line .clearHalt .wrongState [] s))

/-- READ HALT RECORD (R143). -/
def execReadHaltRecord (p : List Byte) (s : State) : Host.Outcome State Fault Refusal :=
  .next (conclude (match noArguments p with
    | none => badArgument .line .readHaltRecord s
    | some _ => answer .line .readHaltRecord .ok (haltRecordBytes s.line.haltRecord) s))

/-! ## LINE RESET (R149) -/

/-- The Batch Unit at LINE RESET (R119). -/
def purgeBatch (s : State) : State :=
  let s1 := closeBatch .purge s
  { s1 with batch := { s1.batch with closeRequest := false, kickMark := none } }

/-- The Registration Unit at LINE RESET (R70, R77). -/
def resetRegistration (s : State) : State :=
  zeroDrift
    { s with registration := { s.registration with
        markSubject := none, markSettled := false, markWindow := .shut
        patchSubject := none, patchSettled := false, patchOpen := false, patchSeen := false } }

/-- The fold target at LINE RESET: a record target absent, an EMPTY target kept (R89). -/
def FoldTarget.afterReset : FoldTarget → FoldTarget
  | .absent => .absent
  | .record _ => .absent
  | .empty b => .empty b

/-- The settled flag at LINE RESET, which R89 does not give: no with the record target that is discarded, kept where the
target was EMPTY or absent (DESIGN CHOICE, log 21). -/
def settledAfterReset (g : GumFold) : Bool :=
  match g.foldTarget with
  | .absent => g.foldSettled
  | .record _ => false
  | .empty _ => g.foldSettled

/-- The Gum and Fold Unit at LINE RESET (R82, R89); the fold window cannot open again in that pitch (log 30). -/
def resetGumFold (s : State) : State :=
  { s with gumFold := { s.gumFold with
      progress := []
      foldTarget := s.gumFold.foldTarget.afterReset
      foldSettled := settledAfterReset s.gumFold
      foldOpen := false
      foldSeen := false
      foldBarred := true } }

/-- The Shaft Tracker at LINE RESET (R18). -/
def resetShaft (s : State) : State :=
  spoilPeriod { s with shaft := { s.shaft with reverseDebt := 0, highWater := s.shaft.phase } }

/-- The halt record at LINE RESET: every field absent or empty except the halt count (R143). -/
def clearHaltRecord (h : HaltRecord) : HaltRecord := ⟨none, none, none, none, none, 0, h.count⟩

/-- LINE RESET taken (R149): the open batch purged, records discarded, the trigger log emptied, an armed changeover taken
with the chain empty, units started again, READY; then the levels are examined (R140). -/
def lineReset (s : State) : State :=
  let s1 := discardRecords (purgeBatch s)
  let s2 := resetShaft (resetGumFold (resetRegistration { s1 with verdicts.triggerLog := [] }))
  let s3 := { s2 with line := { s2.line with state := .ready, haltRecord := clearHaltRecord s2.line.haltRecord } }
  examineLevels (takeChangeover s3)

/-- LINE RESET: in READY and HALT (R149). -/
def execLineReset (p : List Byte) (s : State) : Host.Outcome State Fault Refusal :=
  .next (conclude (match noArguments p with
    | none => badArgument .line .lineReset s
    | some _ =>
      if s.line.state = .ready ∨ s.line.state = .halt then answer .line .lineReset .ok [] (lineReset s)
      else answer .line .lineReset .wrongState [] s))

end Sys2Proof.Machine
end

