-- ==== Sys2Proof/Machine/LinkEvents.lean ====
section
/-! DEFINITION. The Link Ports: exchanges and the held response (R151, R152), taking a request (R153, R155), busy
exchanges (R156), timeouts (R157), link flags (R158). -/

namespace Sys2Proof.Machine

/-- A port replaced. -/
def setPort (l : Link) (p : Port) (s : State) : State := { s with ports := s.ports.set l p }

/-! ## The start of an exchange (R151, R152, R156) -/

/-- The response an exchange begun in IDLE shifts out: the held one, or NO_RESPONSE (R152). -/
def Port.toShift (p : Port) : Response := p.held.getD ⟨.noResponse, 0, []⟩

/-- The BUSY response (R156). -/
def busyResponse : Response := ⟨.busy, 0, []⟩

/-- An exchange starts (R151): in IDLE the port becomes RECEIVING and shifts out its response; in WORKING it is a busy
exchange, counted, with OVERRUN_SEEN added after the flags are reported (R156, R158). An exchange already in progress
cannot start again (log 8). -/
def Port.start (p : Port) : Port :=
  match p.exchange with
  | some _ => p
  | none =>
    match p.state with
    | .idle =>
      { p with
        state := .receiving
        buffer := []
        shifted := []
        exchange := some ⟨false, false, responseFrame p.flags p.toShift, p.flags, 0, 0⟩ }
    | .working =>
      { p with
        shifted := []
        exchange := some ⟨true, false, responseFrame p.flags busyResponse, p.flags, overrunSeen, 0⟩
        flags := p.flags ||| overrunSeen
        overruns := p.overruns + 1 }
    | .receiving => p

/-! ## Bytes (R152) -/

/-- The bytes that an exchange shifts out while `n` more bytes are clocked: those of its frame still to come, then bytes
of 0x00 (R152, R156, R157). -/
def Exchange.shiftOut (x : Exchange) (n : Nat) : List Byte :=
  (List.range n).map fun k => x.frame.getD (x.clocked + k) 0

/-- Bytes arrive, and as many are shifted out: all are clocked; outside a busy or an abandoned exchange the first 60 of
the exchange are stored. -/
def Port.receive (x : Exchange) (arrived : List Byte) (p : Port) : Port :=
  { p with
    buffer := if x.busy || x.abandoned then p.buffer else (p.buffer ++ arrived).take 60
    shifted := p.shifted ++ x.shiftOut arrived.length
    exchange := some { x with clocked := x.clocked + arrived.length } }

/-- The request frame is complete: its CRC byte, at offset 3 + n, has arrived (R152). -/
def frameComplete (buffer : List Byte) (clocked : Nat) : Bool :=
  decide (3 ≤ clocked) && decide (byteAt buffer 2 + 4 ≤ clocked)

/-- A FRAME_ERROR response: the command byte received is echoed, or 0 if none arrived (R153). -/
def frameErrorResponse (buffer : List Byte) : Response := ⟨.frameError, buffer.getD 1 0, []⟩

/-! ## Timeout (R157) -/

/-- The frame is abandoned: FRAME_ERROR held, TIMEOUT_SEEN set, a timeout counted (R157). -/
def Port.abandon (x : Exchange) (p : Port) : Port :=
  { p with
    held := some (frameErrorResponse p.buffer)
    flags := p.flags ||| timeoutSeen
    timeouts := p.timeouts + 1
    exchange := some { x with abandoned := true, own := x.own ||| timeoutSeen } }

/-- 10 ms have passed since the exchange started (R157): an exchange begun in IDLE whose frame is not complete is
abandoned; a busy exchange is not timed (R156). -/
def Port.timeout (arrived : List Byte) (p : Port) : Port :=
  match p.exchange with
  | none => p
  | some x =>
    let p1 := p.receive x arrived
    let x1 := { x with clocked := x.clocked + arrived.length }
    if x.busy || x.abandoned || frameComplete p1.buffer x1.clocked then p1 else p1.abandon x1

/-! ## The end of an exchange (R152, R153, R158) -/

/-- What the checks of R153 make of a received frame. -/
inductive Received where
  | frameError
  | unknownCommand (code : Byte)
  | notPermitted (command : Command)
  | request (r : Request)
deriving DecidableEq, Repr

/-- Steps 1 to 4 of R153: sync, length, every byte arrived, CRC. -/
def frameSound (buffer : List Byte) : Bool :=
  buffer.head? == some syncByte
    && decide (3 ≤ buffer.length) && decide (byteAt buffer 2 ≤ 56)
    && decide (byteAt buffer 2 + 4 ≤ buffer.length)
    && crc8 ((buffer.drop 1).take (byteAt buffer 2 + 2)) == buffer.getD (byteAt buffer 2 + 3) 0

/-- The checks of R153 in order, and the authority of R155. -/
def checkFrame (l : Link) (buffer : List Byte) : Received :=
  if frameSound buffer then
    match Command.ofCode (buffer.getD 1 0) with
    | none => .unknownCommand (buffer.getD 1 0)
    | some c =>
      if c.acceptedOn l then .request ⟨c, (buffer.drop 3).take (byteAt buffer 2)⟩ else .notPermitted c
  else .frameError

/-- The port acts on its receive buffer at the end of an exchange (R153); the response shifted out has been dropped. -/
def Port.takeFrame (l : Link) (p : Port) : Port :=
  match checkFrame l p.buffer with
  | .frameError =>
    Port.post .linkError
      { p with state := .idle, held := some (frameErrorResponse p.buffer), frameErrors := p.frameErrors + 1 }
  | .unknownCommand code => { p with state := .idle, held := some ⟨.unknownCommand, code, []⟩ }
  | .notPermitted c => { p with state := .idle, held := some ⟨.notPermitted, c.code, []⟩ }
  | .request r => { p with state := .working, held := none, work := some r }

/-- The exchange is over: the port acts as the kind of exchange asks (R152, R153, R156, R157). -/
def Port.finish (l : Link) (x : Exchange) (p : Port) : Port :=
  if x.busy then { p with exchange := none, state := if p.work.isSome then .working else .idle }
  else if x.abandoned then { p with exchange := none, state := .idle, buffer := [] }
  else { ({ p with exchange := none, held := none } : Port).takeFrame l with buffer := [] }

/-- The link flags at the end of an exchange (R158): if the whole frame was shifted out the flags it reported are
removed, but not those the exchange added itself. For a flag that is both, `kept` says which of the two sentences is
followed (log 9). -/
def flagsAfter (x : Exchange) (kept : Bool) (flags : BitVec 2) : BitVec 2 :=
  if x.frame.length ≤ x.clocked then
    if kept then flags &&& ~~~(x.reported &&& ~~~x.own) else flags &&& ~~~x.reported
  else flags

/-- The exchange of a link ends (R153, R156, R157, R158); with none in progress nothing happens (R151). -/
def endExchange (l : Link) (arrived : List Byte) (s : State) : State :=
  let p := s.ports.get l
  match p.exchange with
  | none => s
  | some x =>
    let x1 := { x with clocked := x.clocked + arrived.length }
    let chosen := if x.reported &&& x.own = 0 then (0, s) else choose 2 s
    let p1 := p.receive x arrived
    setPort l (({ p1 with flags := flagsAfter x1 (chosen.1 == 0) p1.flags } : Port).finish l x1) chosen.2

/-! ## Meanings of the link rows -/

/-- EXCHANGE_START (R151, R152, R156). -/
def execExchangeStart (l : Link) (s : State) : Host.Outcome State Fault Refusal :=
  .next (conclude (setPort l (s.ports.get l).start s))

/-- EXCHANGE_END (R152, R153, R155, R156, R158). -/
def execExchangeEnd (l : Link) (arrived : List Byte) (s : State) : Host.Outcome State Fault Refusal :=
  .next (conclude (endExchange l arrived s))

/-- LINK_TIMEOUT (R157). -/
def execLinkTimeout (l : Link) (arrived : List Byte) (s : State) : Host.Outcome State Fault Refusal :=
  .next (conclude (setPort l ((s.ports.get l).timeout arrived) s))

end Sys2Proof.Machine
end

