-- ==== Sys2Proof/Machine/RecipeRequests.lean ====
section
/-! DEFINITION. Meanings of the Recipe Store's requests (R123 to R128). -/

namespace Sys2Proof.Machine

/-- The fields of a bank replaced and the bank put into STAGING (R123). -/
def stageBank (b : BankId) (f : BankFields) (s : State) : State := { s with banks := s.banks.set b ⟨.staging, f⟩ }

/-- Whether a bank is in use: ARMED, ACTIVE or DRAINING (R126). -/
def BankState.inUse : BankState → Bool
  | .empty => false
  | .staging => false
  | .valid => false
  | .armed => true
  | .active => true
  | .draining => true

/-- WRITE BANK (R123). -/
def execWriteBank (p : List Byte) (s : State) : Host.Outcome State Fault Refusal :=
  .next (conclude (match writeBankArgument p with
    | none => badArgument .line .writeBank s
    | some (b, g, v) =>
      if (bankState s b).inUse then answer .line .writeBank .bankInUse [] s
      else answer .line .writeBank .ok [] (stageBank b (writeGroup g v (fieldsOf s b)) s)))

/-- A window of a channel is valid (R122, R124). -/
def windowValid (w : ChannelFields) : Bool :=
  decide (w.onPhase < w.offPhase ∧ w.offPhase ≤ 4095 ∧ w.onPhase + 16 ≤ w.offPhase ∧ w.offPhase ≤ w.onPhase + 2048)

/-- The checks of VALIDATE BANK, each with its code, in ascending order of code (R124). -/
def bankChecks (f : BankFields) : List (Nat × Bool) :=
  [(1, decide (f.inspectEnable ≤ 1)),
    (2, decide (f.noVerdictFate ≤ 1)),
    (3, decide (f.gateDecide ≤ 4095)),
    (4, decide (f.countPhase ≤ 4095)),
    (5, decide (f.windowEnable ≤ 1)),
    (6, decide (f.markExpected ≤ 4095)),
    (7, decide (f.markOpen < f.markClose ∧ f.markClose ≤ 4095)),
    (8, decide (f.tol ≤ 1024)),
    (9, decide (f.shiftMax ≤ 512)),
    (10, decide (1 ≤ f.driftAlert ∧ f.driftAlert ≤ 1024)),
    (11, decide (f.patchCheckOpen < f.patchCheckClose ∧ f.patchCheckClose ≤ 4095)),
    (12, decide (f.gumSeamEnable ≤ 1)),
    (13, decide (f.gumFlapEnable ≤ 1)),
    (14, decide (f.skipGumOnReject ≤ 1)),
    (15, decide (f.foldCheckEnable ≤ 1)),
    (16, decide (f.foldOpen < f.foldClose ∧ f.foldClose ≤ 4095))] ++
  Channel.all.flatMap fun ch =>
    [(32 + 2 * ch.number, decide ((f.channels.get ch).enable ≤ 1)),
      (33 + 2 * ch.number, windowValid (f.channels.get ch))]

/-- VALIDATE BANK for a bank in STAGING (R124). -/
def validateStaging (b : BankId) (s : State) : State :=
  match firstFailure (bankChecks (fieldsOf s b)) with
  | some code => answer .line .validateBank .invalidBank (leBytes 1 code) s
  | none => answer .line .validateBank .ok [] (setBankState b .valid s)

/-- VALIDATE BANK (R124). -/
def execValidateBank (p : List Byte) (s : State) : Host.Outcome State Fault Refusal :=
  .next (conclude (match bankArgument p with
    | none => badArgument .line .validateBank s
    | some b =>
      match bankState s b with
      | .staging => validateStaging b s
      | .valid => answer .line .validateBank .ok [] s
      | .empty => answer .line .validateBank .wrongState [] s
      | .armed => answer .line .validateBank .wrongState [] s
      | .active => answer .line .validateBank .wrongState [] s
      | .draining => answer .line .validateBank .wrongState [] s))

/-- READ BANK (R125, R168): the bank's state, the group number, the group's values. -/
def execReadBank (p : List Byte) (s : State) : Host.Outcome State Fault Refusal :=
  .next (conclude (match readBankArgument p with
    | none => badArgument .line .readBank s
    | some (b, g) =>
      answer .line .readBank .ok
        (leBytes 1 (bankState s b).code ++ leBytes 1 g.number ++ readGroup g (fieldsOf s b)) s))

/-- The changeover takes effect at once: CONFIG, or READY with the chain empty (R127). -/
def changeoverAtOnce (s : State) : Bool :=
  s.line.state == .config || (s.line.state == .ready && s.chain.records.isEmpty)

/-- A VALID bank is armed (R127). -/
def armBank (b : BankId) (s : State) : State :=
  let s1 := setBankState b .armed s
  if changeoverAtOnce s then takeChangeover s1 else s1

/-- ARM CHANGEOVER (R127): the answer carries the bank's state after the request (R169). -/
def execArmChangeover (p : List Byte) (s : State) : Host.Outcome State Fault Refusal :=
  .next (conclude (match bankArgument p with
    | none => badArgument .line .armChangeover s
    | some b =>
      if bankState s b = .valid ∧ bankState s b.other ≠ .armed then
        let s1 := armBank b s
        answer .line .armChangeover .ok (leBytes 1 (bankState s1 b).code) s1
      else answer .line .armChangeover .wrongState [] s))

/-- DISARM (R128). -/
def execDisarm (p : List Byte) (s : State) : Host.Outcome State Fault Refusal :=
  .next (conclude (match bankArgument p with
    | none => badArgument .line .disarm s
    | some b =>
      if bankState s b = .armed then answer .line .disarm .ok [] (setBankState b .valid s)
      else answer .line .disarm .wrongState [] s))

end Sys2Proof.Machine
end

