-- ==== Sys2Proof/Machine/Batch.lean ====
section
/-! DEFINITION. The Batch Unit: the count event in its four steps (R106 to R110) and the batch boundary (R112). -/

namespace Sys2Proof.Machine

/-- Whether the open batch must be closed before a record is counted: another bank, or superseded (R107). -/
def mustClose (r : Record) (s : State) : Bool :=
  match s.batch.openBatch with
  | none => false
  | some o => o.bank != r.bank || o.superseded

/-- In READY and HALT the open batch gets SEPARATION_MISSED, as a batch closed or opened at this count event
(R112). -/
def flagSeparation (s : State) : State :=
  if s.line.state.jogging then
    { s with batch.openBatch := s.batch.openBatch.map fun o => { o with separationMissed := true } }
  else s

/-- The batch opened for a record (R108). -/
def newBatch (r : Record) (s : State) : OpenBatch where
  number := s.batch.nextNumber
  bank := r.bank
  recipeTag := (fieldsOf s r.bank).recipeTag
  size := s.batch.nextSize
  count := 0
  firstSeq := r.seq
  lastSeq := r.seq
  unverified := 0
  overfill := false
  separationMissed := false
  superseded := false

/-- The number after a batch number: from 65 535 it goes to 1 (R108). -/
def numberAfter (n : Nat) : Nat := if n < 65535 then n + 1 else 1

/-- A batch is opened for a record (R108). -/
def openNewBatch (r : Record) (s : State) : State :=
  { s with batch := { s.batch with openBatch := some (newBatch r s), nextNumber := numberAfter s.batch.nextNumber } }

/-- The record is counted into the open batch (R109). -/
def countInto (r : Record) (s : State) : State :=
  updateRecord r.seq (fun r => { r with counted := true })
    { s with batch.openBatch := s.batch.openBatch.map fun o => { o with
        count := o.count + 1
        lastSeq := r.seq
        unverified := if r.fate = .passUnverified then o.unverified + 1 else o.unverified } }

/-- What the close check does with the open batch (R110). -/
inductive CloseCheck where
  | stays
  | overfills
  | closes (cause : CloseCause)
deriving DecidableEq, Repr

/-- The close check of a count event (R110): the first case that applies. -/
def closeCheck (s : State) : CloseCheck :=
  match s.batch.openBatch with
  | none => .stays
  | some o =>
    if o.size ≤ o.count then
      if s.batch.queue.length < 16 then .closes .full else .overfills
    else if s.batch.closeRequest = true ∧ s.batch.queue.length < 16 then .closes .command
    else .stays

/-- OVERFILL set, and posted once per batch (R110 case 2). -/
def overfillBatch (s : State) : State :=
  match s.batch.openBatch with
  | none => s
  | some o =>
    if o.overfill then s else post .overfill { s with batch.openBatch := some { o with overfill := true } }

/-- A batch boundary (R112): in RUN or DRAIN the kick mark is set, in READY or HALT a missed separation is counted. -/
def batchBoundaryMade (r : Record) (s : State) : State :=
  if s.line.state.running then { s with batch.kickMark := some r.seq }
  else if s.line.state.jogging then { s with batch.separationMissed := s.batch.separationMissed + 1 }
  else s

/-- Step 1: a batch of another bank, or superseded, is closed (R107). -/
def changeoverCheck (r : Record) (s : State) : State :=
  if mustClose r s then closeBatch .changeover (flagSeparation s) else s

/-- Step 2: a batch is opened where none is open (R108). -/
def openIfNone (r : Record) (s : State) : State :=
  if s.batch.openBatch.isNone then flagSeparation (openNewBatch r s) else s

/-- Step 4: the close check carried out (R110). -/
def applyCheck (check : CloseCheck) (s : State) : State :=
  match check with
  | .stays => s
  | .overfills => overfillBatch s
  | .closes cause => closeBatch cause (flagSeparation s)

/-- Whether the close check closes the batch. -/
def CloseCheck.isClose : CloseCheck → Bool
  | .stays => false
  | .overfills => false
  | .closes _ => true

/-- The count event for a record: changeover check, opening, counting, close check, batch boundary (R106). -/
def countEvent (r : Record) (s : State) : State :=
  let s1 := changeoverCheck r s
  let s2 := countInto r (openIfNone r s1)
  let s3 := applyCheck (closeCheck s2) s2
  if mustClose r s || s1.batch.openBatch.isNone || (closeCheck s2).isClose then batchBoundaryMade r s3 else s3

/-- The record whose count event the crossing of a phase takes: at pos_COUNT, counted no, its bank's count_phase the
phase crossed (R106). -/
def countSubject (p : Nat) (s : State) : Option Record :=
  match recordAt s s.geometry.posCount with
  | none => none
  | some r => if r.counted = false ∧ (fieldsOf s r.bank).countPhase = p then some r else none

/-- The Batch Unit at the crossing of a phase (R106). -/
def countCrossing (p : Nat) (s : State) : State :=
  match countSubject p s with
  | none => s
  | some r => countEvent r s

/-- The Batch Unit's handling of a forward boundary: the kick mark absent, then a count event of count_phase 0
(R106). -/
def batchBoundary (s : State) : State := countCrossing 0 { s with batch.kickMark := none }

end Sys2Proof.Machine
end

