-- ==== Sys2Proof/Machine/Held.lean ====
section
/-! DEFINITION. The Firing Unit's held firings: their edges, going ahead, leaving the list, and the settling of a
REJECT_GATE firing that waits (R44, R47, R51, R53). -/

namespace Sys2Proof.Machine

/-- The phase of a firing's on edge, counted from phase 0 of the present pitch (R44). -/
def Firing.onEdgeAt (f : Firing) : Int := f.effOn + 4096 * f.anchorPitch

/-- The phase of a firing's off edge, counted from phase 0 of the present pitch (R44). -/
def Firing.offEdgeAt (f : Firing) : Int := f.effOff + 4096 * f.anchorPitch

/-- A channel's list of held firings replaced. -/
def setHeld (ch : Channel) (fs : List Firing) (s : State) : State :=
  { s with firing.held := s.firing.held.set ch fs }

/-- The firing a channel holds for an anchor record: no two share one (R47). -/
def firingFor (s : State) (ch : Channel) (q : Seq) : Option Firing :=
  (s.firing.held.get ch).find? (fun f => f.anchorSeq == q)

/-- A write to the firing a channel holds for an anchor record. -/
def updateFiring (ch : Channel) (q : Seq) (g : Firing → Firing) (s : State) : State :=
  setHeld ch ((s.firing.held.get ch).map fun f => if f.anchorSeq == q then g f else f) s

/-- The firing for an anchor record leaves the channel's list. -/
def dropFiring (ch : Channel) (q : Seq) (s : State) : State :=
  setHeld ch ((s.firing.held.get ch).filter fun f => f.anchorSeq != q) s

/-- The firing for an anchor record goes ahead: it becomes ON (R48). -/
def goAhead (ch : Channel) (q : Seq) (s : State) : State := updateFiring ch q (fun f => { f with state := .on }) s

/-- One late open more (R58). -/
def countLateOpen (s : State) : State := { s with firing.lateOpens := s.firing.lateOpens + 1 }

/-- The off edge of a held firing (R51): an ON firing ends; a WAITING firing stays, its off edge noted for R53. -/
def offEdge (ch : Channel) (q : Seq) (s : State) : State :=
  match firingFor s ch q with
  | none => s
  | some f =>
    match f.state with
    | .on => dropFiring ch q s
    | .waiting => updateFiring ch q (fun f => { f with offPassed := true }) s
    | .planned => s

/-- The gate decision of a record settles a REJECT_GATE firing of the same record that is WAITING (R53). -/
def settleWaiting (q : Seq) (fate : Fate) (s : State) : State :=
  match firingFor s .rejectGate q with
  | none => s
  | some f =>
    if f.state = .waiting then
      if fate = .reject then
        if f.offPassed then countLateOpen (dropFiring .rejectGate q s) else countLateOpen (goAhead .rejectGate q s)
      else dropFiring .rejectGate q s
    else s

end Sys2Proof.Machine
end

