-- ==== Sys2Proof/Machine/GumFold.lean ====
section
/-! DEFINITION. The Gum and Fold Unit: gum progress (R81, R82), the fold target and window (R84 to R88). -/

namespace Sys2Proof.Machine

/-! ## Gum progress (R81, R82) -/

/-- Whether a bank enables a gum channel: gum_seam_enable for GUM_SEAM, gum_flap_enable for GUM_FLAP (R49, R81). -/
def gumEnabled (f : BankFields) (ch : Channel) : Bool :=
  (ch == .gumSeam && yes f.gumSeamEnable) || (ch == .gumFlap && yes f.gumFlapEnable)

/-- The bank enables both gum channels (R81). -/
def bothGums (f : BankFields) : Bool := yes f.gumSeamEnable && yes f.gumFlapEnable

/-- The entry of a record is removed from the gum progress list. -/
def forgetGum (q : Seq) (s : State) : State :=
  { s with gumFold.progress := s.gumFold.progress.filter fun e => e.seq != q }

/-- `gummed` is written; any write that leaves due removes the entry (R81). -/
def setGummed (q : Seq) (w : Work) (s : State) : State := forgetGum q (updateRecord q (fun r => { r with gummed := w }) s)

/-- A gum firing has gone ahead (R81). -/
def gumProgress (ch : Channel) (r : Record) (s : State) : State :=
  if bothGums (fieldsOf s r.bank) then
    if s.gumFold.progress.any (fun e => e.seq == r.seq && e.channel != ch) then setGummed r.seq .done s
    else if s.gumFold.progress.any (fun e => e.seq == r.seq) then s
    else { s with gumFold.progress := s.gumFold.progress ++ [⟨r.seq, ch⟩] }
  else setGummed r.seq .done s

/-- Whether an entry stays at a boundary: its record still stands in the chain, below pos_GUM + 2 (R82). -/
def keepsEntry (s : State) (e : GumEntry) : Bool :=
  match recordBySeq s e.seq with
  | none => false
  | some r => decide (r.position < s.geometry.posGum + 2)

/-- The gum progress list cleaned at a boundary (R82). -/
def cleanProgress (s : State) : State := { s with gumFold.progress := s.gumFold.progress.filter (keepsEntry s) }

/-! ## The fold check (R84 to R88) -/

/-- The bank whose fold window is watched: the record's for a record target, the stored one for EMPTY (R84). -/
def foldBank (s : State) : Option BankId :=
  match s.gumFold.foldTarget with
  | .absent => none
  | .record q => (recordBySeq s q).map Record.bank
  | .empty b => some b

/-- The fields of the fold target's bank. -/
def foldFields (s : State) : Option BankFields := (foldBank s).map (fieldsOf s)

/-- FOLD_FAULT added to a record whose fold was not seen (R87). -/
def noteMissingFold (q : Seq) (s : State) : State := if s.gumFold.foldSeen then s else addReason q .foldFault s

/-- A record target is settled (R87): FOLD_FAULT if fold seen is no; the window SHUT. Not in CONFIG. -/
def settleFold (s : State) : State :=
  if s.line.state = .config then s
  else
    match s.gumFold.foldTarget with
    | .absent => s
    | .empty _ => s
    | .record q =>
      if s.gumFold.foldSettled then s
      else
        let s1 := noteMissingFold q s
        { s1 with gumFold := { s1.gumFold with foldOpen := false, foldSettled := true } }

/-- A FOLD_CHECK report in an open window (R86, R88): the first one sets fold seen, and counts a stray blank at an
EMPTY target. -/
def foldReport (s : State) : State :=
  if s.gumFold.foldSeen then s
  else
    let s1 := { s with gumFold.foldSeen := true }
    match s.gumFold.foldTarget with
    | .absent => s1
    | .record _ => s1
    | .empty _ => post .stray { s1 with gumFold.strayBlanks := s1.gumFold.strayBlanks + 1 }

/-- A rising FOLD_CHECK edge (R86). -/
def foldCheckEdge (s : State) : State :=
  if s.line.state.running ∧ s.gumFold.foldOpen = true ∧ s.gumFold.foldTarget ≠ .absent then foldReport s else s

/-- The fold window opens in RUN or DRAIN for a target not settled, if it is SHUT, and reads the FOLD_CHECK level (R85);
after a LINE RESET it does not open again in that pitch (R89, log 30). Where fold_open of an EMPTY target comes a second
time in one pitch, R85's conditions alone decide, and the window opens (DESIGN CHOICE, log 31). -/
def openFold (level : Bool) (s : State) : State :=
  if s.line.state.running ∧ s.gumFold.foldTarget ≠ .absent ∧ s.gumFold.foldSettled = false
      ∧ s.gumFold.foldOpen = false ∧ s.gumFold.foldBarred = false then
    let s1 := { s with gumFold := { s.gumFold with foldOpen := true, foldSeen := false } }
    if level then foldReport s1 else s1
  else s

/-- The crossing of fold_close (R85, R87): a record target is settled; the window becomes SHUT in every case. -/
def closeFold (s : State) : State :=
  let s1 := settleFold s
  { s1 with gumFold.foldOpen := false }

/-- What the Gum and Fold Unit does at a crossing. A valid bank has fold_open below fold_close; where an EMPTY target's
bank was rewritten to have both at one phase, no rule orders the two, and the model opens and then shuts (DESIGN CHOICE,
log 26). -/
def foldCrossing (level : Bool) (p : Nat) (s : State) : State :=
  match foldFields s with
  | none => s
  | some f =>
    let s1 := if f.foldOpen = p then openFold level s else s
    if f.foldClose = p then closeFold s1 else s1

/-- Whether the crossing of a phase concerns the fold target. -/
def foldDue (p : Nat) (s : State) : Bool :=
  match foldFields s with
  | none => false
  | some f => f.foldOpen == p || f.foldClose == p

/-- The fold target chosen at a boundary (R84 step 3). -/
def chooseFoldTarget (s : State) : FoldTarget :=
  match recordAt s s.geometry.posFold with
  | some r => if yes (fieldsOf s r.bank).foldCheckEnable then .record r.seq else .absent
  | none =>
    match activeBank s with
    | none => .absent
    | some b => if yes (fieldsOf s b).foldCheckEnable then .empty b else .absent

/-- Steps 2 and 3 at a boundary: the window SHUT, fold seen no, a new target not settled (R84), whose window may open in
the pitch now beginning. -/
def takeFoldTarget (s : State) : State :=
  { s with gumFold := { s.gumFold with
      foldOpen := false, foldSeen := false, foldTarget := chooseFoldTarget s, foldSettled := false
      foldBarred := false } }

/-- Step 5 at a boundary: the window opens at once where fold_open is 0 (R84). -/
def openFoldAtZero (level : Bool) (s : State) : State :=
  match foldFields s with
  | none => s
  | some f => if f.foldOpen = 0 then openFold level s else s

/-- The Gum and Fold Unit's handling of a forward pitch boundary, one operation (R84). -/
def gumFoldBoundary (level : Bool) (s : State) : State :=
  openFoldAtZero level (cleanProgress (takeFoldTarget (settleFold s)))

end Sys2Proof.Machine
end

