-- ==== Sys2Proof/Machine/Registration.lean ====
section
/-! DEFINITION. The Registration Unit: subjects and windows (R62, R63), capture and settlement (R64 to R67), the drift
filter (R68, R69), the patch-presence check (R73, R74). -/

namespace Sys2Proof.Machine

/-! ## Settlement (R67, R74) -/

/-- MARK_MISSING added to a record with reg_error absent (R67). -/
def noteMissingMark (q : Seq) (s : State) : State :=
  match recordBySeq s q with
  | none => s
  | some r => if r.regError.isNone then addReason q .markMissing s else s

/-- The mark subject is settled (R67): MARK_MISSING if reg_error is absent; the window SHUT. Not in CONFIG. -/
def settleMark (s : State) : State :=
  if s.line.state = .config then s
  else
    match s.registration.markSubject with
    | none => s
    | some q =>
      if s.registration.markSettled then s
      else
        let s1 := noteMissingMark q s
        { s1 with registration := { s1.registration with markWindow := .shut, markSettled := true } }

/-- PATCH_MISSING added to a patched record whose patch was not seen (R74). -/
def noteMissingPatch (q : Seq) (s : State) : State :=
  match recordBySeq s q with
  | none => s
  | some r => if r.patched = .done ∧ s.registration.patchSeen = false then addReason q .patchMissing s else s

/-- The patch subject is settled (R74): PATCH_MISSING if it was patched and no patch was seen; the window SHUT. -/
def settlePatch (s : State) : State :=
  if s.line.state = .config then s
  else
    match s.registration.patchSubject with
    | none => s
    | some q =>
      if s.registration.patchSettled then s
      else
        let s1 := noteMissingPatch q s
        { s1 with registration := { s1.registration with patchOpen := false, patchSettled := true } }

/-! ## Opening (R63) -/

/-- The mark window becomes OPEN in RUN or DRAIN for a subject not settled, if it is SHUT (R63). -/
def openMark (s : State) : State :=
  if s.line.state.running ∧ s.registration.markSubject.isSome ∧ s.registration.markSettled = false
      ∧ s.registration.markWindow = .shut then
    { s with registration.markWindow := .opened }
  else s

/-- The patch window becomes OPEN, and patch seen no, under the same conditions for the patch subject (R63). -/
def openPatch (s : State) : State :=
  if s.line.state.running ∧ s.registration.patchSubject.isSome ∧ s.registration.patchSettled = false
      ∧ s.registration.patchOpen = false then
    { s with registration := { s.registration with patchOpen := true, patchSeen := false } }
  else s

/-- The bank fields of a subject's record. -/
def subjectFields (s : State) (subject : Option Seq) : Option BankFields :=
  (subject.bind (recordBySeq s)).map fun r => fieldsOf s r.bank

/-- What the Registration Unit does for the mark subject at a crossing: mark_open opens, mark_close settles. -/
def markCrossing (p : Nat) (s : State) : State :=
  match subjectFields s s.registration.markSubject with
  | none => s
  | some f =>
    let s1 := if f.markOpen = p then openMark s else s
    if f.markClose = p then settleMark s1 else s1

/-- What the Registration Unit does for the patch subject at a crossing. -/
def patchCrossing (p : Nat) (s : State) : State :=
  match subjectFields s s.registration.patchSubject with
  | none => s
  | some f =>
    let s1 := if f.patchCheckOpen = p then openPatch s else s
    if f.patchCheckClose = p then settlePatch s1 else s1

/-- Whether the crossing of a phase concerns the mark subject. -/
def markDue (p : Nat) (s : State) : Bool :=
  match subjectFields s s.registration.markSubject with
  | none => false
  | some f => f.markOpen == p || f.markClose == p

/-- Whether the crossing of a phase concerns the patch subject. -/
def patchDue (p : Nat) (s : State) : Bool :=
  match subjectFields s s.registration.patchSubject with
  | none => false
  | some f => f.patchCheckOpen == p || f.patchCheckClose == p

/-! ## The forward pitch boundary (R62) -/

/-- The subject a station's position gives: the record there, if its bank has window_enable yes (R62 step 3). -/
def subjectAt (s : State) (station : Nat) : Option Seq :=
  match recordAt s station with
  | none => none
  | some r => if yes (fieldsOf s r.bank).windowEnable then some r.seq else none

/-- Steps 2 and 3 at a boundary: windows SHUT, patch seen no, new subjects not settled (R62). -/
def takeSubjects (s : State) : State :=
  { s with registration := { s.registration with
      markWindow := .shut, patchOpen := false, patchSeen := false
      markSubject := subjectAt s s.geometry.posMark, markSettled := false
      patchSubject := subjectAt s s.geometry.posPatch, patchSettled := false } }

/-- Step 4 at a boundary for the mark window: it opens at once where mark_open is 0 (R62). -/
def openMarkAtZero (s : State) : State :=
  match subjectFields s s.registration.markSubject with
  | none => s
  | some f => if f.markOpen = 0 then openMark s else s

/-- Step 4 at a boundary for the patch window (R62). -/
def openPatchAtZero (s : State) : State :=
  match subjectFields s s.registration.patchSubject with
  | none => s
  | some f => if f.patchCheckOpen = 0 then openPatch s else s

/-- The Registration Unit's handling of a forward pitch boundary, one operation (R62). -/
def registrationBoundary (s : State) : State :=
  openPatchAtZero (openMarkAtZero (takeSubjects (settlePatch (settleMark s))))

/-! ## The capture (R65, R66) and the drift filter (R68, R69) -/

/-- The registration error of a mark captured at phase `c` where `x` was expected (R65). -/
def registrationError (c x : Nat) : Int := ((c : Int) - x + 2048) % 4096 - 2048

/-- A value clamped to a range (section 4 of 00). -/
def clampInt (lo hi v : Int) : Int := if v < lo then lo else if hi < v then hi else v

/-- The drift filter after an accepted error: an eighth of the way toward 16 × e, truncated, clamped (R68). -/
def driftFilter (m16 e : Int) : Int := clampInt (-32767) 32767 (m16 + (16 * e - m16).tdiv 8)

/-- The drift alert against its threshold: DRIFT_ALERT is posted as it becomes active (R69). -/
def checkDrift (threshold : Nat) (s : State) : State :=
  let above := decide ((16 * (threshold : Int)) < |s.registration.m16|)
  let s1 := { s with registration.driftAlert := above }
  if above = true ∧ s.registration.driftAlert = false then post .driftAlert s1 else s1

/-- The shift of an accepted error: clamped to −shift_max to shift_max (R66). -/
def shiftOf (shiftMax : Nat) (e : Int) : Int := clampInt (-(shiftMax : Int)) shiftMax e

/-- A measurement within tolerance: shift written, filter and alert updated, accepted measurements raised (R66). -/
def acceptMeasurement (q : Seq) (f : BankFields) (e : Int) (s : State) : State :=
  let s1 := updateRecord q (fun r => { r with regError := some e, shift := some (shiftOf f.shiftMax e) }) s
  checkDrift f.driftAlert
    { s1 with registration := { s1.registration with
        m16 := driftFilter s1.registration.m16 e, accepted := s1.registration.accepted + 1 } }

/-- A measurement out of tolerance: reg_error written unclamped, REG_OUT_OF_TOL added (R65, R66). -/
def refuseMeasurement (q : Seq) (e : Int) (s : State) : State :=
  addReason q .regOutOfTol (updateRecord q (fun r => { r with regError := some e }) s)

/-- The mark subject's error measured at the present phase and judged (R65, R66). -/
def measure (q : Seq) (s : State) : State :=
  match recordBySeq s q with
  | none => s
  | some r =>
    let f := fieldsOf s r.bank
    let e := registrationError s.shaft.phase f.markExpected
    if |e| ≤ (f.tol : Int) then acceptMeasurement q f e s else refuseMeasurement q e s

/-- A capture for the mark subject at the present phase; the window becomes CAPTURED (R64 to R66). -/
def capture (q : Seq) (s : State) : State :=
  let s1 := measure q s
  { s1 with registration.markWindow := .captured }

/-- A rising MARK edge (R64). -/
def markEdge (s : State) : State :=
  if s.line.state.running then
    match s.registration.markWindow, s.registration.markSubject with
    | .shut, _ => { s with registration.strayMarks := s.registration.strayMarks + 1 }
    | .opened, some q => capture q s
    | .captured, some q => addReason q .doubleMark s
    | .opened, none => s
    | .captured, none => s
  else s

/-- Whether a PATCH_PRESENT edge is seen for a patched subject: window OPEN, patched done (R73). -/
def patchEdgeSeen (s : State) : Bool :=
  s.registration.patchOpen &&
    match s.registration.patchSubject.bind (recordBySeq s) with
    | none => false
    | some r => r.patched == .done

/-- A rising PATCH_PRESENT edge (R73). -/
def patchPresentEdge (s : State) : State :=
  if s.line.state.running then
    if patchEdgeSeen s then { s with registration.patchSeen := true }
    else { s with registration.strayPatches := s.registration.strayPatches + 1 }
  else s

end Sys2Proof.Machine
end

