-- ==== Sys2Proof/Machine/Verdict.lean ====
section
/-! DEFINITION. The Verdict Unit: the camera trigger and its log (R90, R92, R93), VERDICT (R96, R97), the gate decision
(R99, R100). -/

namespace Sys2Proof.Machine

/-! ## The trigger log (R92) -/

/-- An entry appended to the trigger log: into an empty log TRIGGERS_WAITING is posted; from a full one the oldest
entry is dropped, counted and TRIGGER_OVERFLOW posted (R92). -/
def logTrigger (t : Trigger) (s : State) : State :=
  let log := s.verdicts.triggerLog
  if log = [] then post .triggersWaiting { s with verdicts.triggerLog := [t] }
  else if log.length < 16 then { s with verdicts.triggerLog := log ++ [t] }
  else
    post .triggerOverflow
      { s with verdicts := { s.verdicts with
          triggerLog := log.drop 1 ++ [t], triggerOverflows := s.verdicts.triggerOverflows + 1 } }

/-! ## The gate decision (R99, R100) -/

/-- The record after its gate decision in a line state, under the no_verdict_fate of its bank (R100): the first case
that applies. -/
def decideRecord (state : LineState) (noVerdictPass : Bool) (r : Record) : Record :=
  if state.jogging then { r.addReason .jogged with fate := .reject }
  else if r.reasons ≠ 0 then { r with fate := .reject }
  else
    match r.verdict with
    | .good => { r with fate := .pass }
    | .notRequired => { r with fate := .pass }
    | .bad => { r with fate := .reject }
    | .pending =>
      if noVerdictPass then { r with fate := .passUnverified } else { r.addReason .verdictMissing with fate := .reject }
    | .uninspected =>
      if noVerdictPass then { r with fate := .passUnverified } else { r.addReason .verdictMissing with fate := .reject }

/-- One unverified pass more at a decision that gives PASS_UNVERIFIED (R100). -/
def countUnverified (fate : Fate) (s : State) : State :=
  if fate = .passUnverified then { s with verdicts.unverifiedPasses := s.verdicts.unverifiedPasses + 1 } else s

/-- The gate decision for a record (R100); in RUN or DRAIN it is handed to the Firing Unit (R99, R53). -/
def gateDecision (r : Record) (s : State) : State :=
  let decide := decideRecord s.line.state (yes (fieldsOf s r.bank).noVerdictFate)
  let s1 := countUnverified (decide r).fate (updateRecord r.seq decide s)
  if s.line.state.running then settleWaiting r.seq (decide r).fate s1 else s1

/-- The record whose gate decision the crossing of a phase takes: at pos_GATE − 1, fate UNDECIDED, its bank's
gate_decide the phase crossed; none in CONFIG (R99). -/
def gateSubject (p : Nat) (s : State) : Option Record :=
  if s.line.state = .config then none
  else
    match recordBefore s s.geometry.posGate with
    | none => none
    | some r => if r.fate = .undecided ∧ (fieldsOf s r.bank).gateDecide = p then some r else none

/-- The Verdict Unit at the crossing of a phase, or with phase 0 at a forward boundary (R99). -/
def gateCrossing (p : Nat) (s : State) : State :=
  match gateSubject p s with
  | none => s
  | some r => gateDecision r s

/-! ## VERDICT (R96, R97) -/

/-- The record after an accepted verdict (R97). -/
def applyVerdict (result : VerdictResult) (cause : Nat) (r : Record) : Record :=
  match result with
  | .good => { r with verdict := .good }
  | .bad => { r.addReason .verdictBad with verdict := .bad, verdictCause := some cause }

/-- A refused VERDICT: verdicts refused rises (R96). -/
def refuseVerdict (s : State) : State := { s with verdicts.verdictsRefused := s.verdicts.verdictsRefused + 1 }

/-- VERDICT with valid arguments: the checks of R96 in order; the status and the state after. -/
def takeVerdict (q : Seq) (result : VerdictResult) (cause : Nat) (s : State) : Status × State :=
  match recordBySeq s q with
  | none => (.unknownSeq, refuseVerdict s)
  | some r =>
    if r.verdict = .notRequired ∨ r.verdict = .uninspected then (.notExpected, refuseVerdict s)
    else if r.fate ≠ .undecided ∨ r.position = s.geometry.posGate then
      (.tooLate, { refuseVerdict s with verdicts := { (refuseVerdict s).verdicts with
        lateVerdicts := s.verdicts.lateVerdicts + 1 } })
    else if r.verdict = .good ∨ r.verdict = .bad then (.duplicate, refuseVerdict s)
    else (.ok, updateRecord q (applyVerdict result cause) s)

end Sys2Proof.Machine
end

