-- ==== Sys2Proof/Machine/Firing.lean ====
section
/-! DEFINITION. The Firing Unit: on edges and their decisions (R48, R49, R53, R72, R80, R90, R112), the lead snapshot
(R41), windows and effective edges (R42, R43), planning (R46, R52) and the handling of a boundary (R45). -/

namespace Sys2Proof.Machine

/-! ## Decisions at the on edge (R48) -/

/-- Whether a station is inhibited: its holder set is not empty (R147). -/
def inhibited (s : State) (st : Station) : Bool := s.line.holders.get st != 0

/-- `patched` of a record is written. -/
def setPatched (q : Seq) (w : Work) (s : State) : State := updateRecord q (fun r => { r with patched := w }) s

/-- The reasons that stop a patch firing: MARK_MISSING, DOUBLE_MARK, REG_OUT_OF_TOL (R72). -/
def misregistered (r : Record) : Bool :=
  maskHas r.reasons Reason.markMissing.index || maskHas r.reasons Reason.doubleMark.index
    || maskHas r.reasons Reason.regOutOfTol.index

/-- The decision of a WINDOW_KNIFE, PATCH_GLUE or PATCH_CUT firing (R49, R72). -/
def patchEdge (ch : Channel) (r : Record) (s : State) : State :=
  if yes (fieldsOf s r.bank).windowEnable = true ∧ r.patched = .due then
    if inhibited s .patch then
      dropFiring ch r.seq (setPatched r.seq .skipped (addReason r.seq .stationInhibited s))
    else if r.regError.isSome = true ∧ misregistered r = false then
      goAhead ch r.seq (if ch = .patchGlue then setPatched r.seq .done s else s)
    else dropFiring ch r.seq (setPatched r.seq .skipped s)
  else dropFiring ch r.seq s

/-- The decision of a GUM_SEAM or GUM_FLAP firing (R49, R80, R81). -/
def gumEdge (ch : Channel) (r : Record) (s : State) : State :=
  if gumEnabled (fieldsOf s r.bank) ch = true ∧ r.gummed = .due then
    if inhibited s .gum then
      dropFiring ch r.seq (setGummed r.seq .skipped (addReason r.seq .stationInhibited s))
    else if yes (fieldsOf s r.bank).skipGumOnReject = true ∧ r.reasons ≠ 0 then
      dropFiring ch r.seq (setGummed r.seq .skipped s)
    else if s.sensors.gumOk = false then
      dropFiring ch r.seq (setGummed r.seq .skipped (addReason r.seq .gumFault s))
    else goAhead ch r.seq (gumProgress ch r s)
  else dropFiring ch r.seq s

/-- The decision of a CAMERA_TRIGGER firing (R49, R90). -/
def cameraEdge (r : Record) (s : State) : State :=
  if yes (fieldsOf s r.bank).inspectEnable = true ∧ inhibited s .inspect = false ∧ r.verdict = .uninspected then
    goAhead .cameraTrigger r.seq
      (logTrigger ⟨r.seq, r.bank⟩ (updateRecord r.seq (fun r => { r with verdict := .pending }) s))
  else dropFiring .cameraTrigger r.seq s

/-- The decision of a REJECT_GATE firing (R53). -/
def gateEdge (r : Record) (s : State) : State :=
  match r.fate with
  | .reject => goAhead .rejectGate r.seq s
  | .pass => dropFiring .rejectGate r.seq s
  | .passUnverified => dropFiring .rejectGate r.seq s
  | .undecided =>
    if r.position + 1 = s.geometry.posGate then
      updateFiring .rejectGate r.seq (fun f => { f with state := .waiting }) s
    else dropFiring .rejectGate r.seq s

/-- The decision of a BATCH_KICKER firing: the kick mark is the anchor record (R112). -/
def kickerEdge (r : Record) (s : State) : State :=
  if s.batch.kickMark = some r.seq then goAhead .batchKicker r.seq s else dropFiring .batchKicker r.seq s

/-- The on edge of a firing in state PLANNED (R48): the anchor record is looked up by seq, then the owning unit's
condition decides (R39, R79). -/
def onEdge (ch : Channel) (q : Seq) (s : State) : State :=
  match recordBySeq s q with
  | none => dropFiring ch q s
  | some r =>
    match ch with
    | .feedClutch => goAhead ch q s
    | .cutKnife => goAhead ch q s
    | .windowKnife => patchEdge ch r s
    | .patchGlue => patchEdge ch r s
    | .patchCut => patchEdge ch r s
    | .gumSeam => gumEdge ch r s
    | .gumFlap => gumEdge ch r s
    | .cameraTrigger => cameraEdge r s
    | .rejectGate => gateEdge r s
    | .batchKicker => kickerEdge r s

/-! ## The edges that fall at a phase (R47) -/

/-- One edge of one held firing. -/
structure Edge where
  channel : Channel
  seq : Seq
  isOn : Bool
deriving DecidableEq, Repr

/-- An edge is taken (R48, R51). -/
def takeEdge (e : Edge) (s : State) : State :=
  if e.isOn then onEdge e.channel e.seq s else offEdge e.channel e.seq s

/-- The edges of a held firing that fall at a phase of the present pitch: the on edge of a PLANNED one, the off edge of
one that is ON or WAITING (R47, R51). -/
def Firing.edgesAt (ch : Channel) (p : Int) (f : Firing) : List Edge :=
  match f.state with
  | .planned => if f.onEdgeAt = p then [⟨ch, f.anchorSeq, true⟩] else []
  | .on => if f.offEdgeAt = p then [⟨ch, f.anchorSeq, false⟩] else []
  | .waiting => if f.offEdgeAt = p then [⟨ch, f.anchorSeq, false⟩] else []

/-- The edges of all held firings that fall at a phase of the present pitch. -/
def edgesAt (p : Int) (s : State) : List Edge :=
  Channel.all.flatMap fun ch => (s.firing.held.get ch).flatMap (Firing.edgesAt ch p)

/-! ## Overdue edges (R45 step 1, R47) -/

/-- An overdue edge with its phase in the pitch that closes. -/
structure OverdueEdge where
  phase : Int
  edge : Edge
deriving DecidableEq, Repr

/-- The edges of a held firing that fell in the pitch now closing and were not taken (R47). A firing not yet decided may
have both overdue. -/
def Firing.overdueEdges (ch : Channel) (f : Firing) : List OverdueEdge :=
  let off := if f.offEdgeAt < 4096 then [⟨f.offEdgeAt, ⟨ch, f.anchorSeq, false⟩⟩] else []
  match f.state with
  | .planned => if f.onEdgeAt < 4096 then ⟨f.onEdgeAt, ⟨ch, f.anchorSeq, true⟩⟩ :: off else []
  | .on => off
  | .waiting => []

/-- The overdue edges of all channels. -/
def overdueEdges (s : State) : List OverdueEdge :=
  Channel.all.flatMap fun ch => (s.firing.held.get ch).flatMap (Firing.overdueEdges ch)

/-- An overdue edge that must come before another: a lower phase, or an on edge before an off edge at one phase
(R47). -/
def OverdueEdge.before (x y : OverdueEdge) : Bool :=
  decide (x.phase < y.phase) || (decide (x.phase = y.phase) && x.edge.isOn && !y.edge.isOn)

/-- An overdue edge may be taken when none of those left must come before it; among equals the order is free. -/
def overdueAble (x : OverdueEdge) (left : List OverdueEdge) (_ : State) : Bool := left.all fun y => !y.before x

/-- A WAITING firing still waiting at the boundary that opens its anchor pitch leaves the list (R53). -/
def dropWaiting (s : State) : State :=
  { s with firing.held := s.firing.held.map fun fs => fs.filter fun f => f.state != .waiting }

/-- Step 1 of the Firing Unit's handling of a boundary (R45). -/
def takeOverdue (s : State) : State :=
  dropWaiting (runFree (fun x s => ([], takeEdge x.edge s)) overdueAble (overdueEdges s).length (overdueEdges s) s)

/-- The pitch now opening: every held firing is anchored one pitch nearer (log 15). -/
def openPitch (s : State) : State :=
  { s with firing.held := s.firing.held.map fun fs => fs.map fun f => { f with anchorPitch := f.anchorPitch - 1 } }

/-! ## The lead snapshot (R41) -/

/-- A lead before clamping, for a dead time and a valid period (R41): a period of 0 is taken as 1. -/
def rawLead (deadTime period : Nat) : Nat := (4096 * deadTime + max period 1 / 2) / max period 1

/-- A lead: clamped to 2048, and 0 without a valid period (R41). -/
def lead (valid : Bool) (period deadTime : Nat) : Nat := if valid then min (rawLead deadTime period) 2048 else 0

/-- Whether a lead was clamped (R41). -/
def leadClamped (valid : Bool) (period deadTime : Nat) : Bool := valid && decide (2048 < rawLead deadTime period)

/-- How many leads of a snapshot were clamped. -/
def clampCount (valid : Bool) (period : Nat) (g : Geometry) : Nat :=
  (Channel.all.filter fun ch => leadClamped valid period (g.dtOn.get ch)).length
    + (Channel.all.filter fun ch => leadClamped valid period (g.dtOff.get ch)).length

/-- The lead snapshot taken from the period and validity a boundary carries (R41). -/
def takeSnapshot (period : Nat) (valid : Bool) (s : State) : State :=
  { s with firing := { s.firing with
      leadOn := s.geometry.dtOn.map (lead valid period)
      leadOff := s.geometry.dtOff.map (lead valid period)
      leadClamps := s.firing.leadClamps + BitVec.ofNat 32 (clampCount valid period s.geometry) } }

/-! ## Windows and effective edges (R42, R43) -/

/-- The anchor position of a channel (R39). -/
def anchorPosition (g : Geometry) : Channel → Nat
  | .feedClutch => 0
  | .cutKnife => g.posCut
  | .windowKnife => g.posPatch
  | .patchGlue => g.posPatch
  | .patchCut => g.posPatch
  | .gumSeam => g.posGum
  | .gumFlap => g.posGum
  | .cameraTrigger => g.posInspect
  | .rejectGate => g.posGate
  | .batchKicker => g.posCount

/-- The patch channels add the record's shift (R39, R42); an absent shift is 0. -/
def shiftApplied (ch : Channel) (r : Record) : Int :=
  match ch with
  | .windowKnife => r.shift.getD 0
  | .patchGlue => r.shift.getD 0
  | .patchCut => r.shift.getD 0
  | .feedClutch => 0
  | .cutKnife => 0
  | .gumSeam => 0
  | .gumFlap => 0
  | .cameraTrigger => 0
  | .rejectGate => 0
  | .batchKicker => 0

/-- eff_on of a firing (R43). -/
def effectiveOn (w : ChannelFields) (shift : Int) (leadOn : Nat) : Int := w.onPhase + shift - leadOn

/-- The width of a firing before clamping (R43). -/
def rawWidth (w : ChannelFields) (leadOn leadOff : Nat) : Int :=
  ((w.offPhase : Int) - w.onPhase) - ((leadOff : Int) - leadOn)

/-- The width of a firing, clamped to 16 to 3584 (R43). -/
def firingWidth (w : ChannelFields) (leadOn leadOff : Nat) : Int := clampInt 16 3584 (rawWidth w leadOn leadOff)

/-- Whether the width was clamped (R43). -/
def widthClamped (w : ChannelFields) (leadOn leadOff : Nat) : Bool :=
  decide (rawWidth w leadOn leadOff < 16) || decide (3584 < rawWidth w leadOn leadOff)

/-- The window of a channel in the bank a record names (R42). -/
def windowOf (s : State) (ch : Channel) (r : Record) : ChannelFields := (fieldsOf s r.bank).channels.get ch

/-- The firing planned for an anchor record, with the present lead snapshot (R43, R46). -/
def plannedFiring (ch : Channel) (r : Record) (pitch : Int) (s : State) : Firing :=
  let w := windowOf s ch r
  let on := effectiveOn w (shiftApplied ch r) (s.firing.leadOn.get ch)
  { anchorSeq := r.seq
    anchorPitch := pitch
    effOn := on
    effOff := on + firingWidth w (s.firing.leadOn.get ch) (s.firing.leadOff.get ch)
    state := .planned
    offPassed := false }

/-- A planned firing enters its channel's list, last (R47). -/
def hold (ch : Channel) (f : Firing) (s : State) : State := setHeld ch (s.firing.held.get ch ++ [f]) s

/-- The width clamp of a firing counted (R43). -/
def countWidth (ch : Channel) (r : Record) (s : State) : State :=
  if widthClamped (windowOf s ch r) (s.firing.leadOn.get ch) (s.firing.leadOff.get ch) then
    { s with firing.widthClamps := s.firing.widthClamps + 1 }
  else s

/-! ## Planning (R46, R52) -/

/-- Whether a bank enables a channel (R42, R46). -/
def channelEnabled (s : State) (ch : Channel) (r : Record) : Bool := yes (windowOf s ch r).enable

/-- A firing planned for the next pitch, for the record at the anchor position less one (R46). -/
def planNext (ch : Channel) (s : State) : State :=
  match recordBefore s (anchorPosition s.geometry ch) with
  | none => s
  | some r => if channelEnabled s ch r then hold ch (plannedFiring ch r 1 s) (countWidth ch r s) else s

/-- After a gap in planning, a firing planned for the pitch now opening, for the record at the anchor position; not
made if its eff_on is below 0 (R46). -/
def planPresent (ch : Channel) (s : State) : State :=
  match recordAt s (anchorPosition s.geometry ch) with
  | none => s
  | some r =>
    if channelEnabled s ch r = true ∧ 0 ≤ (plannedFiring ch r 0 s).effOn then
      hold ch (plannedFiring ch r 0 s) (countWidth ch r s)
    else s

/-- A FEED_CLUTCH firing placed at the boundary that creates its record: planned, started late, or skipped (R52). -/
def placeFeed (f : Firing) (s : State) : State :=
  if 0 ≤ f.effOn then hold .feedClutch f s
  else if 0 < f.effOff then countLateOpen (hold .feedClutch { f with state := .on } s)
  else countLateOpen s

/-- The FEED_CLUTCH firing of the record this boundary created (R46, R52). -/
def planFeed (s : State) : State :=
  match recordAt s 0 with
  | none => s
  | some r =>
    if channelEnabled s .feedClutch r then placeFeed (plannedFiring .feedClutch r 0 s) (countWidth .feedClutch r s)
    else s

/-- The channels other than FEED_CLUTCH. -/
def plannedChannels : List Channel := Channel.all.filter (· != .feedClutch)

/-- Planning at a boundary in RUN or DRAIN (R46), after a gap also for the pitch now opening. -/
def planFirings (s : State) : State :=
  let gap := !s.firing.planningContinuous
  planFeed (plannedChannels.foldl (fun s ch => planNext ch (if gap then planPresent ch s else s)) s)

/-- Step 3 of the Firing Unit's handling of a boundary (R45, R57). -/
def planningStep (s : State) : State :=
  if s.line.state.running then
    let s1 := planFirings s
    { s1 with firing := { s1.firing with planningContinuous := true, gateHold := false } }
  else { s with firing.planningContinuous := false }

/-- The Firing Unit's handling of a forward pitch boundary, one operation in four steps (R45). -/
def firingBoundary (period : Nat) (valid : Bool) (s : State) : State :=
  let s1 := planningStep (takeSnapshot period valid (openPitch (takeOverdue s)))
  runAll takeEdge (edgesAt 0 s1) s1

end Sys2Proof.Machine
end

