-- ==== Sys2Proof/Machine/SensorEvents.lean ====
section
/-! DEFINITION. Meanings of the sensor rows: MARK, PATCH_PRESENT and FOLD_CHECK edges, changes of the four levels. -/

namespace Sys2Proof.Machine

/-- MARK_EDGE (R64). -/
def execMarkEdge (s : State) : Host.Outcome State Fault Refusal := .next (conclude (markEdge s))

/-- PATCH_PRESENT_EDGE (R73). -/
def execPatchPresentEdge (s : State) : Host.Outcome State Fault Refusal := .next (conclude (patchPresentEdge s))

/-- FOLD_CHECK_EDGE (R86). -/
def execFoldCheckEdge (s : State) : Host.Outcome State Fault Refusal := .next (conclude (foldCheckEdge s))

/-- PATCH_WEB_OK_CHANGE (R75): the cause PATCH_SUPPLY follows the level and the active bank. -/
def execPatchWebOkChange (level : Bool) (s : State) : Host.Outcome State Fault Refusal :=
  let s1 := { s with sensors.patchWebOk := level }
  .next (conclude (setFeedCause .patchSupply (patchSupplyLow s1) s1))

/-- GUM_OK_CHANGE (R83): the cause GUM_LOW follows the level and the active bank. -/
def execGumOkChange (level : Bool) (s : State) : Host.Outcome State Fault Refusal :=
  let s1 := { s with sensors.gumOk := level }
  .next (conclude (setFeedCause .gumLow (gumLow s1) s1))

/-- ESTOP_CHANGE (R140): the level becoming active raises ESTOP; a level that stays active raises nothing more. -/
def execEstopChange (level : Bool) (s : State) : Host.Outcome State Fault Refusal :=
  let s1 := { s with sensors.estop := level }
  .next (conclude (if level = true ∧ s.sensors.estop = false then raiseCause .estop none s1 else s1))

/-- JAM_CHANGE (R140). -/
def execJamChange (level : Bool) (s : State) : Host.Outcome State Fault Refusal :=
  let s1 := { s with sensors.jam := level }
  .next (conclude (if level = true ∧ s.sensors.jam = false then raiseCause .jam none s1 else s1))

end Sys2Proof.Machine
end

