-- ==== Sys2Proof/Machine/Pitch.lean ====
section
/-! DEFINITION. What comes about at a shaft angle: a phase crossing (R6) and a forward pitch boundary (R7), each with
the units that act on it, in a free order where no rule gives one (log 2). -/

namespace Sys2Proof.Machine

/-! ## A phase crossing (R6) -/

/-- One unit's work at a crossing. -/
inductive CrossingTask where
  | edge (e : Edge)
  | mark
  | patch
  | fold
  | gate
  | count
deriving DecidableEq, Repr

/-- The work that the crossing of a phase finds to do. -/
def crossingTasks (p : Nat) (s : State) : List CrossingTask :=
  (edgesAt p s).map .edge
    ++ (if markDue p s then [.mark] else [])
    ++ (if patchDue p s then [.patch] else [])
    ++ (if foldDue p s then [.fold] else [])
    ++ (if (gateSubject p s).isSome then [.gate] else [])
    ++ (if (countSubject p s).isSome then [.count] else [])

/-- A unit does its work at the crossing of a phase. -/
def doCrossing (level : Bool) (p : Nat) (t : CrossingTask) (s : State) : State :=
  match t with
  | .edge e => takeEdge e s
  | .mark => markCrossing p s
  | .patch => patchCrossing p s
  | .fold => foldCrossing level p s
  | .gate => gateCrossing p s
  | .count => countCrossing p s

/-- The crossing of a phase: the units that act on it, in a free order (R6, R47, R53, R73). -/
def crossing (level : Bool) (s : State) (p : Nat) : State := runAll (doCrossing level p) (crossingTasks p s) s

/-- The crossings of the phases above `lo` up to `hi`, in ascending order (R6). -/
def crossings (level : Bool) (lo hi : Nat) (s : State) : State :=
  (List.range' (lo + 1) (hi - lo)).foldl (crossing level) s

/-! ## A forward pitch boundary (R7) -/

/-- One block's work at a forward boundary. The Firing Unit's carries the period and its validity (R7, R41). -/
inductive BoundaryTask where
  | cause (c : HaltCause)
  | chain
  | firing
  | registration
  | gumFold
  | gate
  | batch
  | emptyNotice
deriving DecidableEq, Repr

/-- A block does its work at a forward boundary. The Pitch Chain's operation comes before that of the blocks that act on
the chain as it stands after it (R26), and hands on their work, with the chain-empty notice where it is given (R31). -/
def doBoundary (period : Nat) (valid level : Bool) (t : BoundaryTask) (s : State) : List BoundaryTask × State :=
  match t with
  | .cause c => ([], raiseCause c none s)
  | .chain =>
    let s1 := chainBoundary s
    ([.firing, .registration, .gumFold, .gate, .batch] ++ (if becameEmpty s s1 then [.emptyNotice] else []), s1)
  | .firing => ([], firingBoundary period valid s)
  | .registration => ([], registrationBoundary s)
  | .gumFold => ([], gumFoldBoundary level s)
  | .gate => ([], gateCrossing 0 s)
  | .batch => ([], batchBoundary s)
  | .emptyNotice => ([], chainEmptyNotice s)

/-- The Gum and Fold Unit acts on the active bank as it stands after any changeover the boundary made (R84): with a bank
ARMED it waits for the chain-empty notice (log 14). -/
def boundaryAble (t : BoundaryTask) (left : List BoundaryTask) (s : State) : Bool :=
  match t with
  | .gumFold => !(left.contains .emptyNotice && (armedBank s).isSome)
  | .cause _ => true
  | .chain => true
  | .firing => true
  | .registration => true
  | .gate => true
  | .batch => true
  | .emptyNotice => true

/-- A period longer than 2 000 000 µs is not valid (R8). -/
def longestPeriod : Nat := 2000000

/-- A qualified period below 30 000 µs is an overspeed (R10). -/
def shortestPeriod : Nat := 30000

/-- Whether a boundary records a valid period (R8): in RUN or DRAIN, timing qualified before, not too long. -/
def periodIsValid (s : State) : Bool :=
  s.line.state.running && s.shaft.timingQualified && decide (s.shaft.pitchTimer ≤ longestPeriod)

/-- The index is checked: index_check on and the line state not CONFIG (R12, R15). -/
def indexChecked (s : State) : Bool := yes s.geometry.indexCheck && s.line.state != .config

/-- The halt causes a forward boundary raises: a missing index (R15) and overspeed (R10). -/
def boundaryCauses (s : State) : List BoundaryTask :=
  (if indexChecked s && decide (2 ≤ s.shaft.boundariesSinceIndex + 1) then [.cause .encoderFault] else [])
    ++ (if s.line.state.running && s.shaft.timingQualified && decide (s.shaft.pitchTimer < shortestPeriod) then
          [.cause .overspeed] else [])

/-- The boundaries since index after a boundary: one more, back to 0 when they reach 2 (R7, R15). -/
def boundariesAfter (s : State) : Nat :=
  if indexChecked s then
    if 2 ≤ s.shaft.boundariesSinceIndex + 1 then 0 else s.shaft.boundariesSinceIndex + 1
  else s.shaft.boundariesSinceIndex

/-- The Shaft Tracker's own part of a forward boundary (R7, R8). -/
def closePitch (s : State) : State :=
  { s with shaft := { s.shaft with
      lastPeriod := s.shaft.pitchTimer
      periodValid := periodIsValid s
      timingQualified := s.line.state.running
      pitchTimer := 0
      highWater := 0
      boundariesSinceIndex := boundariesAfter s } }

/-- A forward pitch boundary (R7): the Shaft Tracker closes the pitch, then the causes it raised and the blocks that
hear the boundary event are taken (log 13). Nine tasks at most: two causes, the chain operation and six handed on. -/
def pitchBoundary (level : Bool) (s : State) : State :=
  runFree (doBoundary s.shaft.pitchTimer (periodIsValid s) level) boundaryAble 9
    (boundaryCauses s ++ [.chain]) (closePitch s)

end Sys2Proof.Machine
end

