-- ==== Sys2Proof/Machine/ShaftTracker.lean ====
section
/-! DEFINITION. The Shaft Tracker: the encoder pair (R1), counting and phase (R3 to R6), reverse debt (R4), the index
check (R12 to R14), the pitch timer (R8). -/

namespace Sys2Proof.Machine

/-! ## Time (R8) -/

/-- The value at which the pitch timer stops (R8). -/
def timerHold : Nat := 2000001

/-- Microseconds pass: the pitch timer counts them and stops at 2 000 001 (R8, log 1). -/
def passTime (elapsed : Nat) (s : State) : State :=
  { s with shaft.pitchTimer := min (s.shaft.pitchTimer + elapsed) timerHold }

/-! ## The encoder pair (R1) -/

/-- The next pair in the forward cycle (0,0), (1,0), (1,1), (0,1). -/
def nextPair (a b : Bool) : Bool × Bool := (!b, a)

/-- The previous pair in that cycle. -/
def previousPair (a b : Bool) : Bool × Bool := (b, !a)

/-- The decoder pair takes new levels (R1). -/
def setPair (pair : Bool × Bool) (s : State) : State :=
  { s with shaft := { s.shaft with pairA := pair.1, pairB := pair.2 } }

/-- The direction of the last count step is noted (R12). -/
def setLastStep (d : Direction) (s : State) : State := { s with shaft.lastStep := some d }

/-! ## Count and phase (R3, R5) -/

/-- The phase of a count (R5). -/
def phaseOf (count cpp : Nat) : Nat := count * 4096 / cpp

/-- The count takes a value and the phase is recomputed (R5). -/
def setCount (c : Nat) (s : State) : State :=
  { s with shaft := { s.shaft with count := c, phase := phaseOf c s.shaft.workingCpp } }

/-- The high-water phase rises to the present phase if that is above it (R5). -/
def raiseHighWater (s : State) : State := { s with shaft.highWater := max s.shaft.highWater s.shaft.phase }

/-- The count changes forward within the pitch: with no reverse debt the phases passed above the high-water phase are
crossed (R5, R6). -/
def advanceCount (level : Bool) (c : Nat) (s : State) : State :=
  let s1 := setCount c s
  if s.shaft.reverseDebt = 0 then
    crossings level (max s.shaft.phase s.shaft.highWater) s1.shaft.phase (raiseHighWater s1)
  else s1

/-- A forward wrap: with no reverse debt a forward pitch boundary, otherwise the debt falls by one (R3). -/
def forwardWrap (level : Bool) (s : State) : State :=
  let s1 := setCount 0 s
  if s.shaft.reverseDebt = 0 then pitchBoundary level s1
  else { s1 with shaft.reverseDebt := s.shaft.reverseDebt - 1 }

/-- A forward count step (R3). -/
def forwardCount (level : Bool) (s : State) : State :=
  if s.shaft.count + 1 < s.shaft.workingCpp then advanceCount level (s.shaft.count + 1) s else forwardWrap level s

/-- The reverse debt rises by one; at 255 it stays and ENCODER_FAULT is raised, in CONFIG no cause (R4, R14). -/
def addDebt (s : State) : State :=
  if s.shaft.reverseDebt < 255 then { s with shaft.reverseDebt := s.shaft.reverseDebt + 1 }
  else raiseCause .encoderFault none s

/-- A backward wrap (R4). -/
def backwardWrap (s : State) : State := addDebt (setCount (s.shaft.workingCpp - 1) s)

/-- REVERSE is raised in RUN and DRAIN (R11). -/
def raiseReverse (s : State) : State := if s.line.state.running then raiseCause .reverse none s else s

/-- The count lowered by one within the pitch, and REVERSE raised: at a wrap REVERSE comes first (R11); at any other
step no rule says whether the count has changed when the cause is taken, so the order is free (log 10). -/
def backwardCount (s : State) : State :=
  if s.shaft.count = 0 then backwardWrap (raiseReverse s)
  else if s.line.state.running then
    let chosen := choose 2 s
    if chosen.1 = 0 then setCount (s.shaft.count - 1) (raiseReverse chosen.2)
    else raiseReverse (setCount (s.shaft.count - 1) chosen.2)
  else setCount (s.shaft.count - 1) s

/-! ## The index (R12 to R14) -/

/-- An index edge is taken for checking (R12). -/
def indexTaken (s : State) : Bool :=
  indexChecked s && s.shaft.reverseDebt == 0 && s.shaft.lastStep != some .backward

/-- The signed difference of an index edge (R13). -/
def indexDifference (s : State) : Int :=
  let cpp : Int := s.shaft.workingCpp
  ((s.geometry.indexCount : Int) - s.shaft.count + cpp / 2) % cpp - cpp / 2

/-- The mismatch run after an index edge, and ENCODER_FAULT at a second mismatch in a row (R13). -/
def checkMismatch (d : Int) (s : State) : State :=
  if |d| ≤ 2 then { s with shaft.mismatchRun := 0 }
  else if s.shaft.mismatchRun = 0 then { s with shaft.mismatchRun := 1 }
  else raiseCause .encoderFault none { s with shaft.mismatchRun := 0 }

/-- A forward realignment across the wrap (R14): the phases left of this pitch, the boundary, then the count set and the
phases of the new pitch. DEDUCED, unsafe: R14 tells the steps in that order and never sets the count to 0, so the
boundary is taken before the count is set, and a halt raised there has the phase from before the realignment as its
phase at entry (R143, log 11). -/
def realignAcross (level : Bool) (s : State) : State :=
  let s1 := crossings level (max s.shaft.phase s.shaft.highWater) 4095 s
  let s2 := setCount s1.geometry.indexCount (pitchBoundary level s1)
  crossings level 0 s2.shaft.phase (raiseHighWater s2)

/-- The realignment of the count to index_count (R14). -/
def realign (level : Bool) (d : Int) (s : State) : State :=
  if 0 < d then
    if (s.shaft.count : Int) + d < s.shaft.workingCpp then advanceCount level s.geometry.indexCount s
    else realignAcross level s
  else if d < 0 then
    if 0 ≤ (s.shaft.count : Int) + d then setCount s.geometry.indexCount s
    else addDebt (setCount s.geometry.indexCount s)
  else s

/-- An index edge (R12, R13). -/
def indexEdge (level : Bool) (s : State) : State :=
  if indexTaken s then
    let d := indexDifference s
    let s1 := realign level d (checkMismatch d s)
    { s1 with shaft.boundariesSinceIndex := 0 }
  else s

/-! ## Meanings of the shaft rows -/

/-- POWER_ON_RESET (R17, R38, R59, R77, R89, R105, R121, R133, R150, R151): every block at its power-on values, with the
reset pin left asserted or released (log 28); the sensors stay as they are outside, and the queue and the free-order
index are not the part's (log 5). -/
def execPowerOnReset (asserted : Bool) (pair : Bool × Bool) (s : State) : Host.Outcome State Fault Refusal :=
  .next (conclude (.powerOn pair.1 pair.2 { s.sensors with resetPin := asserted } s.choices s.pending))

/-- FORWARD_COUNT_STEP (R1, R3). -/
def execForwardCountStep (elapsed : Nat) (level : Bool) (s : State) : Host.Outcome State Fault Refusal :=
  let s1 := setLastStep .forward (setPair (nextPair s.shaft.pairA s.shaft.pairB) (passTime elapsed s))
  .next (conclude (forwardCount level s1))

/-- BACKWARD_COUNT_STEP (R1, R4, R11). -/
def execBackwardCountStep (s : State) : Host.Outcome State Fault Refusal :=
  let s1 := setLastStep .backward (setPair (previousPair s.shaft.pairA s.shaft.pairB) s)
  .next (conclude (backwardCount (spoilPeriod s1)))

/-- ILLEGAL_TRANSITION (R1): no count step; the decoder pair takes the new levels. -/
def execIllegalTransition (s : State) : Host.Outcome State Fault Refusal :=
  .next (conclude (setPair (!s.shaft.pairA, !s.shaft.pairB) s))

/-- INDEX_EDGE (R12 to R14). -/
def execIndexEdge (elapsed : Nat) (level : Bool) (s : State) : Host.Outcome State Fault Refusal :=
  .next (conclude (indexEdge level (passTime elapsed s)))

/-- PITCH_TIMER_HOLD (R8): the timer has reached 2 000 001 µs and stands there. -/
def execPitchTimerHold (s : State) : Host.Outcome State Fault Refusal :=
  .next (conclude { s with shaft.pitchTimer := timerHold })

end Sys2Proof.Machine
end

