-- ==== Sys2Proof/Machine/UnitRequests.lean ====
section
/-! DEFINITION. Meanings of the requests of the Pitch Chain, the Registration Unit, the Verdict Unit and the Batch Unit:
READ RECORD (R35), READ DRIFT (R71), READ TRIGGERS and VERDICT (R93, R95), the packer link's commands (R115 to
R117). -/

namespace Sys2Proof.Machine

/-- READ RECORD (R35): EMPTY for a position that holds no record, UNKNOWN_SEQ for a seq no record bears. -/
def execReadRecord (l : Link) (p : List Byte) (s : State) : Host.Outcome State Fault Refusal :=
  .next (conclude (match selectorArgument p with
    | none => badArgument l .readRecord s
    | some (.byPosition n) =>
      match recordAt s n with
      | none => answer l .readRecord .empty [] s
      | some r => answer l .readRecord .ok (recordBytes r) s
    | some (.bySeq q) =>
      match recordBySeq s q with
      | none => answer l .readRecord .unknownSeq [] s
      | some r => answer l .readRecord .ok (recordBytes r) s))

/-- The payload of READ DRIFT (R71, R169): the alert travels as 1 when it is active and as 0 when it is inactive, which
no code table gives (DESIGN CHOICE, log 27). -/
def driftBytes (r : Registration) : List Byte :=
  signedBytes r.m16 ++ leBytes 1 (yesNo r.driftAlert) ++ counterBytes r.accepted

/-- READ DRIFT (R71). -/
def execReadDrift (p : List Byte) (s : State) : Host.Outcome State Fault Refusal :=
  .next (conclude (match noArguments p with
    | none => badArgument .line .readDrift s
    | some _ => answer .line .readDrift .ok (driftBytes s.registration) s))

/-- The payload of READ TRIGGERS: number of entries, the entries, entries left (R169). -/
def triggersBytes (taken left : List Trigger) : List Byte :=
  leBytes 1 taken.length ++ taken.flatMap triggerBytes ++ leBytes 1 left.length

/-- READ TRIGGERS: the oldest eight entries at most leave the log (R93). -/
def execReadTriggers (p : List Byte) (s : State) : Host.Outcome State Fault Refusal :=
  .next (conclude (match noArguments p with
    | none => badArgument .inspection .readTriggers s
    | some _ =>
      let log := s.verdicts.triggerLog
      if log = [] then answer .inspection .readTriggers .empty [] s
      else
        answer .inspection .readTriggers .ok (triggersBytes (log.take 8) (log.drop 8))
          { s with verdicts.triggerLog := log.drop 8 }))

/-- VERDICT (R95 to R97). -/
def execVerdict (p : List Byte) (s : State) : Host.Outcome State Fault Refusal :=
  .next (conclude (match verdictArgument p with
    | none => badArgument .inspection .verdict s
    | some (q, result, cause) =>
      let taken := takeVerdict q result cause s
      answer .inspection .verdict taken.1 [] taken.2))

/-- SET BATCH SIZE (R117). -/
def execSetBatchSize (p : List Byte) (s : State) : Host.Outcome State Fault Refusal :=
  .next (conclude (match sizeArgument p with
    | none => badArgument .packer .setBatchSize s
    | some n => answer .packer .setBatchSize .ok [] { s with batch.nextSize := n }))

/-- CLOSE BATCH (R117). -/
def execCloseBatch (p : List Byte) (s : State) : Host.Outcome State Fault Refusal :=
  .next (conclude (match noArguments p with
    | none => badArgument .packer .closeBatch s
    | some _ =>
      if s.batch.closeRequest then answer .packer .closeBatch .alreadyPending [] s
      else answer .packer .closeBatch .ok [] { s with batch.closeRequest := true }))

/-- PEEK BATCH (R115). -/
def execPeekBatch (p : List Byte) (s : State) : Host.Outcome State Fault Refusal :=
  .next (conclude (match noArguments p with
    | none => badArgument .packer .peekBatch s
    | some _ =>
      match s.batch.queue with
      | [] => answer .packer .peekBatch .empty [] s
      | b :: _ => answer .packer .peekBatch .ok (batchBytes b) s))

/-- TAKE BATCH (R116): the head leaves if its number matches, and the backlog is checked (R114). -/
def execTakeBatch (p : List Byte) (s : State) : Host.Outcome State Fault Refusal :=
  .next (conclude (match batchNumberArgument p with
    | none => badArgument .packer .takeBatch s
    | some n =>
      match s.batch.queue with
      | [] => answer .packer .takeBatch .empty [] s
      | b :: rest =>
        if b.number = n then
          answer .packer .takeBatch .ok (leBytes 2 n ++ leBytes 1 rest.length)
            (checkBacklog { s with batch.queue := rest })
        else answer .packer .takeBatch .mismatch [] s))

end Sys2Proof.Machine
end

