-- ==== Sys2Proof/Machine/Dispatch.lean ====
section
/-! DEFINITION. The meaning of every command: one arm for each constructor of Instr. -/

namespace Sys2Proof.Machine

/-- The effect of a command on everything but the queue. -/
def exec (i : Instr) (s : State) : Host.Outcome State Fault Refusal :=
  match i with
  | .powerOnReset asserted pair => Sys2Proof.Machine.execPowerOnReset asserted pair s
  | .forwardCountStep elapsed level => Sys2Proof.Machine.execForwardCountStep elapsed level s
  | .backwardCountStep => Sys2Proof.Machine.execBackwardCountStep s
  | .illegalTransition => Sys2Proof.Machine.execIllegalTransition s
  | .indexEdge elapsed level => Sys2Proof.Machine.execIndexEdge elapsed level s
  | .pitchTimerHold => Sys2Proof.Machine.execPitchTimerHold s
  | .markEdge => Sys2Proof.Machine.execMarkEdge s
  | .patchPresentEdge => Sys2Proof.Machine.execPatchPresentEdge s
  | .patchWebOkChange level => Sys2Proof.Machine.execPatchWebOkChange level s
  | .gumOkChange level => Sys2Proof.Machine.execGumOkChange level s
  | .foldCheckEdge => Sys2Proof.Machine.execFoldCheckEdge s
  | .estopChange level => Sys2Proof.Machine.execEstopChange level s
  | .jamChange level => Sys2Proof.Machine.execJamChange level s
  | .exchangeStart l => Sys2Proof.Machine.execExchangeStart l s
  | .exchangeEnd l arrived => Sys2Proof.Machine.execExchangeEnd l arrived s
  | .linkTimeout l arrived => Sys2Proof.Machine.execLinkTimeout l arrived s
  | .collect l p => Sys2Proof.Machine.execCollect l p s
  | .readStatus l p => Sys2Proof.Machine.execReadStatus l p s
  | .readEvents l p => Sys2Proof.Machine.execReadEvents l p s
  | .ackEvents l p => Sys2Proof.Machine.execAckEvents l p s
  | .enableEvents l p => Sys2Proof.Machine.execEnableEvents l p s
  | .disableEvents l p => Sys2Proof.Machine.execDisableEvents l p s
  | .readCounters l p => Sys2Proof.Machine.execReadCounters l p s
  | .feedHold l p => Sys2Proof.Machine.execFeedHold l p s
  | .feedRelease l p => Sys2Proof.Machine.execFeedRelease l p s
  | .inhibitStation l p => Sys2Proof.Machine.execInhibitStation l p s
  | .releaseStation l p => Sys2Proof.Machine.execReleaseStation l p s
  | .halt l p => Sys2Proof.Machine.execHalt l p s
  | .readRecord l p => Sys2Proof.Machine.execReadRecord l p s
  | .writeGeometry p => Sys2Proof.Machine.execWriteGeometry p s
  | .commitGeometry p => Sys2Proof.Machine.execCommitGeometry p s
  | .releaseGeometry p => Sys2Proof.Machine.execReleaseGeometry p s
  | .writeBank p => Sys2Proof.Machine.execWriteBank p s
  | .validateBank p => Sys2Proof.Machine.execValidateBank p s
  | .readBank p => Sys2Proof.Machine.execReadBank p s
  | .armChangeover p => Sys2Proof.Machine.execArmChangeover p s
  | .disarm p => Sys2Proof.Machine.execDisarm p s
  | .start p => Sys2Proof.Machine.execStart p s
  | .drain p => Sys2Proof.Machine.execDrain p s
  | .clearHalt p => Sys2Proof.Machine.execClearHalt p s
  | .lineReset p => Sys2Proof.Machine.execLineReset p s
  | .readHaltRecord p => Sys2Proof.Machine.execReadHaltRecord p s
  | .readDrift p => Sys2Proof.Machine.execReadDrift p s
  | .clearHolds p => Sys2Proof.Machine.execClearHolds p s
  | .readTriggers p => Sys2Proof.Machine.execReadTriggers p s
  | .verdict p => Sys2Proof.Machine.execVerdict p s
  | .setBatchSize p => Sys2Proof.Machine.execSetBatchSize p s
  | .closeBatch p => Sys2Proof.Machine.execCloseBatch p s
  | .peekBatch p => Sys2Proof.Machine.execPeekBatch p s
  | .takeBatch p => Sys2Proof.Machine.execTakeBatch p s

end Sys2Proof.Machine
end

