-- ==== Sys2Proof/Machine/Step.lean ====
section
/-! DEFINITION. One step: the command at the front of the queue; on an empty queue one tick of the timebase. -/

namespace Sys2Proof.Machine

/-- One tick of the 1 MHz timebase, what a step on an empty queue does: a microsecond passes (R8, log 1); while the reset
pin is asserted the pitch timer stands (R17, log 28). -/
def tick (s : State) : State := if s.sensors.resetPin then s else passTime 1 s

/-- The command at the front of the queue is taken, with the queue's rest. -/
def step (s : State) : Host.Outcome State Fault Refusal :=
  match s.pending with
  | [] => .next (tick s)
  | c :: rest => exec c { s with pending := rest }

/-- The command that a word spells put at the front of the queue; no word spells one (log 24). -/
def State.withFetchWord (s : State) (nbits w : Nat) : State :=
  match decodeTableWord nbits w with
  | none => s
  | some c => { s with pending := c :: s.pending }

end Sys2Proof.Machine
end

