-- ==== Sys2Proof/Safety.lean ====
section
/-! DEFINITION. The terms claims are said in: the laws that every step keeps, the ports after an answer, and how a record
may change. -/

namespace Sys2Proof.Machine

/-! ## The laws of the state -/

/-- R34: fed accounts for every record; R21: the next seq is fed in 24 bits. -/
abbrev Accounts (s : State) : Prop :=
  s.chain.fed = s.chain.good + s.chain.rejected + s.chain.purged + BitVec.ofNat 32 s.chain.records.length
    ∧ s.chain.nextSeq = s.chain.fed.setWidth 24

/-- How many records were created since a record, itself counted, up to the next seq (wrap order of R21). -/
def Record.age (next : Seq) (r : Record) : Nat := (next - r.seq).toNat

/-- R20, R37: in CONFIG the chain is empty; outside it the records stand at rising positions up to pos_COUNT in the
order of their creation, each created no earlier than its position allows. -/
abbrev ChainLaw (s : State) : Prop :=
  (s.line.state = .config → s.chain.records = [])
    ∧ (s.line.state ≠ .config → s.geometry.posGate < s.geometry.posCount ∧ s.geometry.posCount ≤ 47)
    ∧ s.chain.records.Pairwise
        (fun x y => x.position < y.position ∧ x.age s.chain.nextSeq < y.age s.chain.nextSeq)
    ∧ ∀ r ∈ s.chain.records, r.position ≤ s.geometry.posCount ∧ 1 ≤ r.age s.chain.nextSeq
        ∧ r.age s.chain.nextSeq ≤ r.position + 1

/-- What R25, R65, R97 and R101 give of one record. -/
abbrev Record.Sound (r : Record) : Prop :=
  (r.fate = .pass ∨ r.fate = .passUnverified → r.reasons = 0)
    ∧ (r.verdictCause.isSome = true ↔ r.verdict = .bad)
    ∧ (r.verdict = .bad → maskHas r.reasons Reason.verdictBad.index = true)
    ∧ (r.shift.isSome = true → r.regError.isSome = true)
    ∧ ∀ e ∈ r.regError, -2048 ≤ e ∧ e ≤ 2047

/-- Every record is sound; above pos_GATE it has passed (R27), and it is counted at pos_COUNT alone (R106). -/
abbrev RecordsSound (s : State) : Prop :=
  ∀ r ∈ s.chain.records, r.Sound
    ∧ (s.geometry.posGate < r.position → r.fate = .pass ∨ r.fate = .passUnverified)
    ∧ (r.counted = true → r.position = s.geometry.posCount)

/-- What R126 and R130 give of one bank beside the other; a bank that was validated passes the checks (R124). -/
abbrev BankLawAt (s : State) (b : BankId) : Prop :=
  (bankState s b = .draining → bankState s b.other = .active ∧ bankNamed s b = true)
    ∧ (bankState s b = .armed → bankState s b.other ≠ .armed ∧ bankState s b.other ≠ .draining)
    ∧ (bankState s b = .active → bankState s b.other ≠ .active)
    ∧ (bankState s b ≠ .empty → bankState s b ≠ .staging → firstFailure (bankChecks (fieldsOf s b)) = none)

/-- R126, R130: every record names a bank in ACTIVE or DRAINING; at most one bank is ACTIVE, one DRAINING, one ARMED. -/
abbrev BankLaw (s : State) : Prop :=
  (∀ r ∈ s.chain.records, bankState s r.bank = .active ∨ bankState s r.bank = .draining)
    ∧ BankLawAt s .bank0 ∧ BankLawAt s .bank1

/-- R2, R3, R4, R5, R8, R13, R15: the ranges of the Shaft Tracker; R134, R136: the lock follows the line state, and
outside CONFIG the geometry passes its checks and is the one counted with. -/
abbrev ShaftLaw (s : State) : Prop :=
  (cppValid s.shaft.workingCpp = true ∧ s.shaft.count < s.shaft.workingCpp
      ∧ s.shaft.phase = s.shaft.count * 4096 / s.shaft.workingCpp ∧ s.shaft.highWater ≤ 4095
      ∧ s.shaft.reverseDebt ≤ 255 ∧ s.shaft.pitchTimer ≤ 2000001 ∧ s.shaft.lastPeriod ≤ 2000001
      ∧ s.shaft.mismatchRun ≤ 1 ∧ s.shaft.boundariesSinceIndex ≤ 1)
    ∧ (cppValid s.geometry.cpp = true → s.shaft.workingCpp = s.geometry.cpp)
    ∧ (s.line.locked = true ↔ s.line.state ≠ .config)
    ∧ (s.line.state ≠ .config → firstFailure (geometryChecks s.geometry) = none)

/-- R55, R57, R60, R63, R82, R85: outside RUN and DRAIN nothing is held, no window is open and no gum is in progress;
R139: the close flag is held in DRAIN alone; R89: in a pitch in which a LINE RESET was taken the fold window is SHUT. -/
abbrev QuietLaw (s : State) : Prop :=
  (s.line.state.running = false →
      s.firing.held = .all [] ∧ s.firing.planningContinuous = false ∧ s.firing.gateHold = false
        ∧ s.registration.markWindow = .shut ∧ s.registration.patchOpen = false
        ∧ s.gumFold.foldOpen = false ∧ s.gumFold.progress = [])
    ∧ (s.line.closeFlag.isSome = true ↔ s.line.state = .drain)
    ∧ (s.gumFold.foldBarred = true → s.gumFold.foldOpen = false)

/-- R75, R83, R114: a supply or backlog cause is in the feed-inhibit set exactly while its condition holds. -/
abbrev SupplyLaw (s : State) : Prop :=
  maskHas s.line.feedInhibit FeedCause.gumLow.index = gumLow s
    ∧ maskHas s.line.feedInhibit FeedCause.patchSupply.index = patchSupplyLow s
    ∧ maskHas s.line.feedInhibit FeedCause.packerBacklog.index = s.batch.backlog
    ∧ (s.batch.backlog = true → 9 ≤ s.batch.queue.length)
    ∧ (s.batch.backlog = false → s.batch.queue.length ≤ 11)

/-- R109, R111: every closed batch has counted, and no more than its size unless it carries OVERFILL; the open batch has
counted and is below its size unless it carries OVERFILL; R108, R117: the ranges of the next number and size. -/
abbrev BatchLaw (s : State) : Prop :=
  (∀ b ∈ s.batch.queue, 1 ≤ b.count ∧ (b.count ≤ b.size ∨ b.overfill = true))
    ∧ (∀ o ∈ s.batch.openBatch, 1 ≤ o.count ∧ (o.count < o.size ∨ o.overfill = true))
    ∧ (1 ≤ s.batch.nextSize ∧ s.batch.nextSize ≤ 2000)
    ∧ (1 ≤ s.batch.nextNumber ∧ s.batch.nextNumber ≤ 65535)

/-- R151, R152: what the state of a port says of its exchange and its request in work; the buffer's bound; what the
data-out line has carried in an exchange: its frame, then bytes of 0x00. -/
abbrev Port.Law (p : Port) : Prop :=
  (p.exchange = none → (p.state = .idle ∧ p.work = none) ∨ (p.state = .working ∧ p.work.isSome = true))
    ∧ (∀ x ∈ p.exchange,
        ((x.busy = true ∧ p.state = .working) ∨ (x.busy = false ∧ p.state = .receiving ∧ p.work = none))
          ∧ p.shifted = (List.range x.clocked).map fun k => x.frame.getD k 0)
    ∧ p.buffer.length ≤ 60

/-- The law of every port, and the bounds of the trigger log (R92) and the drift filter (R68). -/
abbrev PortLaw (s : State) : Prop :=
  s.ports.line.Law ∧ s.ports.inspection.Law ∧ s.ports.packer.Law
    ∧ s.verdicts.triggerLog.length ≤ 16
    ∧ -32767 ≤ s.registration.m16 ∧ s.registration.m16 ≤ 32767

/-! ## Answers and events -/

/-- An answer as R153 describes it: the held response, no request in work, and IDLE unless an exchange goes on. -/
def Port.afterAnswer (r : Response) (p : Port) : Port :=
  { p with held := some r, work := none, state := if p.exchange.isSome then p.state else .idle }

/-- The ports after events were posted to all three (R159). -/
def portsPosted (events : List Event) (ports : PerLink Port) : PerLink Port :=
  PerLink.ofFn fun k =>
    { ports.get k with pending := events.foldl (fun m e => maskAdd m e.index) (ports.get k).pending }

/-- The ports after events were posted and one link was answered. -/
def portsAnswered (l : Link) (c : Command) (status : Status) (payload : List Byte) (events : List Event)
    (ports : PerLink Port) : PerLink Port :=
  (portsPosted events ports).set l (((portsPosted events ports).get l).afterAnswer ⟨status, c.code, payload⟩)

/-! ## How a record may change (R23, R24, R91, R101) -/

/-- The verdict moves only as the table of R91 says. -/
abbrev Verdict.MovesTo (v w : Verdict) : Prop :=
  v = w ∨ (v = .uninspected ∧ w = .pending) ∨ (v = .pending ∧ (w = .good ∨ w = .bad))

/-- A record after a step: the same seq and bank, moved on by one position at most, its reasons kept and closed with its
fate, its verdict moved as R91 says, counted kept. -/
abbrev Record.Follows (r r' : Record) : Prop :=
  r'.seq = r.seq ∧ r'.bank = r.bank
    ∧ r.position ≤ r'.position ∧ r'.position ≤ r.position + 1
    ∧ r.reasons &&& ~~~r'.reasons = 0
    ∧ (r.fate ≠ .undecided → r'.fate = r.fate ∧ r'.reasons = r.reasons)
    ∧ r.verdict.MovesTo r'.verdict
    ∧ (r.counted = true → r'.counted = true)

/-! ## Requests (R153, R166) -/

/-- A state in which one link was answered and nothing else changed but the pins: what a read or a refusal leaves. -/
def State.answered (s : State) (l : Link) (c : Command) (status : Status) (payload : List Byte) : State :=
  conclude { s with ports := portsAnswered l c status payload [] s.ports }

/-- Whether a payload has the length and the ranges that the catalogue gives a command (R166 and the rules it names). -/
def commandFits (c : Command) (p : List Byte) : Bool :=
  match c with
  | .collect => p.length == 0
  | .readStatus => p.length == 0
  | .readEvents => p.length == 0
  | .ackEvents => p.length == 2 && decide (wordAt p 0 < 8192)
  | .enableEvents => p.length == 2 && decide (wordAt p 0 < 8192)
  | .disableEvents => p.length == 2 && decide (wordAt p 0 < 8192)
  | .readCounters => p.length == 1 && decide (byteAt p 0 ≤ 4)
  | .feedHold => p.length == 0
  | .feedRelease => p.length == 0
  | .inhibitStation => p.length == 1 && decide (byteAt p 0 ≤ 3)
  | .releaseStation => p.length == 1 && decide (byteAt p 0 ≤ 3)
  | .halt => p.length == 0
  | .readRecord => p.length == 4 && (byteAt p 0 == 1 || (byteAt p 0 == 0 && decide (tripleAt p 1 ≤ 47)))
  | .writeGeometry => p.length == 55
  | .commitGeometry => p.length == 0
  | .releaseGeometry => p.length == 0
  | .writeBank =>
    decide (2 ≤ p.length) && decide (byteAt p 0 ≤ 1)
      && ((byteAt p 1 == 0 && p.length == 10) || (byteAt p 1 == 1 && p.length == 19)
        || (byteAt p 1 == 2 && p.length == 10)
        || (decide (3 ≤ byteAt p 1 ∧ byteAt p 1 ≤ 12) && p.length == 7))
  | .validateBank => p.length == 1 && decide (byteAt p 0 ≤ 1)
  | .readBank => p.length == 2 && decide (byteAt p 0 ≤ 1) && decide (byteAt p 1 ≤ 12)
  | .armChangeover => p.length == 1 && decide (byteAt p 0 ≤ 1)
  | .disarm => p.length == 1 && decide (byteAt p 0 ≤ 1)
  | .start => p.length == 0
  | .drain => p.length == 1 && decide (byteAt p 0 ≤ 1)
  | .clearHalt => p.length == 0
  | .lineReset => p.length == 0
  | .readHaltRecord => p.length == 0
  | .readDrift => p.length == 0
  | .clearHolds => p.length == 0
  | .readTriggers => p.length == 0
  | .verdict => p.length == 5 && decide (byteAt p 3 ≤ 1) && decide (byteAt p 4 ≤ 15)
  | .setBatchSize => p.length == 2 && decide (1 ≤ wordAt p 0) && decide (wordAt p 0 ≤ 2000)
  | .closeBatch => p.length == 0
  | .peekBatch => p.length == 0
  | .takeBatch => p.length == 2 && decide (1 ≤ wordAt p 0)

/-- The statuses that an owning block gives (R154); the others are the port's. -/
def Status.ofOwner : Status → Bool
  | .ok => true
  | .frameError => false
  | .unknownCommand => false
  | .notPermitted => false
  | .badArgument => true
  | .wrongState => true
  | .bankInUse => true
  | .locked => true
  | .tooLate => true
  | .unknownSeq => true
  | .duplicate => true
  | .notExpected => true
  | .mismatch => true
  | .empty => true
  | .alreadyPending => true
  | .invalidBank => true
  | .noResponse => false
  | .busy => false

/-! ## The data-out line (R152, R156, R157) -/

/-- The bytes that an exchange shifts out as the next `n` bytes are clocked: its frame, then bytes of 0x00. -/
def carriedOut (x : Exchange) (n : Nat) : List Byte := (List.range n).map fun k => x.frame.getD (x.clocked + k) 0#8

/-! ## Crossings and boundaries (R6, R7) -/

/-- The phases that a forward change of the count up to a phase crosses, in ascending order: those above both the phase
and the high-water phase it left (R6). -/
def phasesCrossed (s : State) (upTo : Nat) : List Nat :=
  (List.range 4096).filter fun p => decide (s.shaft.phase < p) && decide (s.shaft.highWater < p) && decide (p ≤ upTo)

/-- Tasks taken one after another, each with the free-order index as it stands when it is taken (log 2). -/
def takenInOrder {α : Type} (act : α → State → State) (order : List (α × Nat)) (s : State) : State :=
  order.foldl (fun s x => act x.1 { s with choices := x.2 }) s

/-- A forward boundary taken from this state raises no halt cause: neither a missing index (R15) nor an overspeed (R10). -/
abbrev BoundaryWithoutCause (s : State) : Prop :=
  (s.geometry.indexCheck = 1 → s.line.state ≠ .config → s.shaft.boundariesSinceIndex = 0)
    ∧ ((s.line.state = .run ∨ s.line.state = .drain) → s.shaft.timingQualified = true → 30000 ≤ s.shaft.pitchTimer)

/-- R26 to R30, R33, R103: the chain and its counters before and after a forward boundary at which no halt cause is
raised. -/
abbrev ChainMoved (s t : State) : Prop :=
  let gate := s.chain.records.filter fun r =>
    r.position == s.geometry.posGate && (r.fate == .reject || r.fate == .undecided)
  let rest := s.chain.records.filter fun r =>
    !(r.position == s.geometry.posGate && (r.fate == .reject || r.fate == .undecided))
  let feeds := s.line.state == .run && s.line.feedInhibit == 0 && (activeBank s).isSome
  t.chain.records.map (fun r => (r.seq, some r.bank, r.position))
      = (if feeds then
           [(s.chain.nextSeq, (match armedBank s with | some b => some b | none => activeBank s), 0)] else [])
        ++ ((rest.filter fun r => r.position != s.geometry.posCount).map fun r => (r.seq, some r.bank, r.position + 1))
    ∧ t.chain.fed = s.chain.fed + (if feeds then 1 else 0)
    ∧ t.chain.nextSeq = s.chain.nextSeq + (if feeds then 1 else 0)
    ∧ t.chain.good = s.chain.good + BitVec.ofNat 32 (rest.filter fun r => r.position == s.geometry.posCount).length
    ∧ t.chain.rejected = s.chain.rejected + BitVec.ofNat 32 gate.length
    ∧ t.chain.purged = s.chain.purged
    ∧ t.verdicts.reasonCounts = gate.foldl (fun c r => c.count r.reasons) s.verdicts.reasonCounts

/-! ## A drain completed (R139) -/

/-- Whether the drain's completion closes a batch (R118). -/
abbrev drainCloses (close : Bool) (s : State) : Bool := close && s.batch.openBatch.isSome

/-- Whether that close starts the backlog (R114). -/
abbrev drainStartsBacklog (close : Bool) (s : State) : Bool :=
  drainCloses close s && !s.batch.backlog && decide (11 ≤ s.batch.queue.length)

/-- Whether the queue after that close ends the backlog (R114). -/
abbrev drainEndsBacklog (close : Bool) (s : State) : Bool :=
  drainCloses close s && s.batch.backlog && decide (s.batch.queue.length + 1 ≤ 8)

/-- The levels of ESTOP and JAM as the halt causes that an entry to READY raises (R140). -/
abbrev levelCauses (s : State) : List HaltCause :=
  (if s.sensors.estop then [.estop] else []) ++ (if s.sensors.jam then [.jam] else [])

/-- What a drain completed with the chain empty posts to all three ports (R111, R114, R130, R139, R141). -/
def drainEvents (close : Bool) (s : State) : List Event :=
  (if drainCloses close s then [.batchClosed] else []) ++ (if drainStartsBacklog close s then [.backlog] else [])
    ++ [.drained] ++ (if (armedBank s).isSome && (activeBank s).isSome then [.bankReleased] else [])
    ++ (if (armedBank s).isSome then [.changeoverTaken] else []) ++ (if levelCauses s ≠ [] then [.halted] else [])

/-- What every block holds after a drain completed with the chain empty (R55, R57, R63, R77, R82, R85, R118, R130, R139,
R140), but for the ports. -/
abbrev DrainCompleted (close : Bool) (s t : State) : Prop :=
  let armed := (armedBank s).isSome
  (t.line.state = (if levelCauses s ≠ [] then .halt else .ready) ∧ t.line.closeFlag = none
      ∧ t.line.locked = s.line.locked ∧ t.line.holders = s.line.holders)
    ∧ (t.chain = s.chain ∧ t.geometry = s.geometry ∧ t.sensors = s.sensors ∧ t.verdicts = s.verdicts)
    ∧ t.shaft = (if levelCauses s ≠ [] then { s.shaft with periodValid := false, timingQualified := false } else s.shaft)
    ∧ t.firing = { s.firing with held := .all [], planningContinuous := false, gateHold := false }
    ∧ t.registration = { s.registration with
        markSubject := none, patchSubject := none, markWindow := .shut, patchOpen := false
        m16 := if armed then 0 else s.registration.m16
        driftAlert := if armed then false else s.registration.driftAlert
        accepted := if armed then 0 else s.registration.accepted }
    ∧ t.gumFold = { s.gumFold with progress := [], foldOpen := false }
    ∧ t.batch = { s.batch with
        openBatch := (s.batch.openBatch.filter fun _ => !close).map fun o =>
          { o with superseded := o.superseded || armedBank s == some o.bank }
        closeRequest := s.batch.closeRequest && !drainCloses close s
        backlog := (s.batch.backlog || drainStartsBacklog close s) && !drainEndsBacklog close s
        queue := s.batch.queue ++ ((s.batch.openBatch.filter fun _ => close).map (OpenBatch.closed · .drain)).toList }
    ∧ (∀ b, fieldsOf t b = fieldsOf s b
        ∧ bankState t b = (if armedBank s = some b then .active
            else if armed = true ∧ activeBank s = some b then .valid else bankState s b))
    ∧ (t.line.feedInhibit &&& 0x38 = s.line.feedInhibit &&& 0x38
      ∧ maskHas t.line.feedInhibit FeedCause.packerBacklog.index
          = ((maskHas s.line.feedInhibit FeedCause.packerBacklog.index || drainStartsBacklog close s)
              && !drainEndsBacklog close s)
      ∧ maskHas t.line.feedInhibit FeedCause.gumLow.index
          = (if armed then gumLow t else maskHas s.line.feedInhibit FeedCause.gumLow.index)
      ∧ maskHas t.line.feedInhibit FeedCause.patchSupply.index
          = (if armed then patchSupplyLow t else maskHas s.line.feedInhibit FeedCause.patchSupply.index))
    ∧ (levelCauses s = [] → t.line.haltRecord = s.line.haltRecord)
    ∧ (levelCauses s ≠ [] → ∃ first ∈ levelCauses s, t.line.haltRecord =
        { firstCause := some first, haltingLink := none, stateLeft := some .ready, phaseAtEntry := some s.shaft.phase
          seqAtGate := none, further := ((levelCauses s).erase first).foldl (fun m c => maskAdd m c.index) 0
          count := s.line.haltRecord.count + 1 })

/-! ## Held firings (R47) -/

/-- The firing that a channel holds for an anchor record, put into a state. -/
def firingBecomes (ch : Channel) (q : Seq) (st : FiringState) (s : State) : State :=
  let held := (s.firing.held.get ch).map fun f => if f.anchorSeq = q then { f with state := st } else f
  { s with firing.held := s.firing.held.set ch held }

/-- The firing that a channel holds for an anchor record, gone from its list. -/
def firingLeaves (ch : Channel) (q : Seq) (s : State) : State :=
  { s with firing.held := s.firing.held.set ch ((s.firing.held.get ch).filter fun f => f.anchorSeq != q) }

/-! ## The moves of the line state (R134 to R144, R149) -/

/-- The commands at which a boundary can be taken (R3, R14). -/
def turnsForward : Instr → Prop
  | .forwardCountStep _ _ => True
  | .indexEdge _ _ => True
  | _ => False

/-- The commands at which a halt cause can be raised: shaft events, ESTOP and JAM, HALT, and the requests that enter
READY (R140). -/
def canHalt : Instr → Prop
  | .forwardCountStep _ _ => True
  | .backwardCountStep => True
  | .indexEdge _ _ => True
  | .estopChange level => level = true
  | .jamChange level => level = true
  | .halt _ _ => True
  | .drain _ => True
  | .commitGeometry _ => True
  | .lineReset _ => True
  | _ => False

/-- The commands that take the line to READY of their own (R136, R139, R144, R149), from a state. -/
def readies (a : LineState) : Instr → Prop
  | .commitGeometry _ => a = .config
  | .clearHalt _ => a = .halt
  | .lineReset _ => a = .halt
  | .drain _ => a = .run
  | i => a = .drain ∧ turnsForward i

/-- The line state moves from one state to another only at the commands that the rules name. -/
def LineState.Moves (i : Instr) (a b : LineState) : Prop :=
  match b with
  | .config => a = .config ∨ (∃ x y, i = .powerOnReset x y) ∨ (a = .ready ∧ ∃ p, i = .releaseGeometry p)
  | .ready => a = .ready ∨ readies a i
  | .run => a = .run ∨ (a = .ready ∧ ∃ p, i = .start p)
  | .drain => a = .drain ∨ (a = .run ∧ ∃ p, i = .drain p)
  | .halt => a = .halt ∨ (canHalt i ∧ (a = .config → ∃ p, i = .commitGeometry p))

end Sys2Proof.Machine
end

