-- ==== Sys2Proof/Certificates/Slice0/Obligations.lean ====
section
/-! DEFINITION. The statements for the provers: what each command does and leaves, the decisions of the units, and the laws
that every step keeps. -/

open Sys2Proof Sys2Proof.Machine

/-! ## The queue, reset and every command -/

/-- A step runs the command at the front of the queue with the queue's rest (log 3, log 24); on an empty queue a microsecond
passes and nothing else, and nothing at all while the reset pin is asserted, which is the model's choice (logs 1, 28). -/
def Obligations.StepRunsTheFrontCommand : Prop :=
  (∀ (c : Instr) (rest : List Instr) (s : State),
      step { s with pending := c :: rest } = exec c { s with pending := rest })
  ∧ (∀ s : State, s.pending = [] →
      step s = .next (if s.sensors.resetPin then s
        else { s with shaft.pitchTimer := min (s.shaft.pitchTimer + 1) 2000001 }))

/-- POWER_ON_RESET puts every block at its power-on values, whatever the state, with the reset pin left asserted or released
(R17, log 28): while it is asserted every ready line is deasserted and every data-out line low (R151). The levels of
the sensors and the queue are outside the part (log 5). State.reset is that state with the pin released and every field
line inactive (log 5). -/
def Obligations.PowerOnResetGivesThePowerOnValues : Prop :=
  (∀ (pin a b : Bool) (s : State), ∃ t, exec (.powerOnReset pin (a, b)) s = .next t
    ∧ t.shaft =
        { workingCpp := 4096, pairA := a, pairB := b, count := 0, phase := 0, highWater := 0, reverseDebt := 0
          pitchTimer := 0, lastPeriod := 0, periodValid := false, timingQualified := false, mismatchRun := 0
          boundariesSinceIndex := 0, lastStep := none }
    ∧ t.geometry =
        { cpp := 4096, indexCheck := 0, indexCount := 0, posMark := 1, posCut := 2, posPatch := 4, posGum := 7
          posFold := 10, posInspect := 13, posGate := 16, posCount := 20, zoneFirst := 2, zoneLast := 15
          dtOn := .all 0, dtOff := .all 0 }
    ∧ t.chain = { records := [], nextSeq := 0, fed := 0, good := 0, rejected := 0, purged := 0 }
    ∧ t.firing =
        { leadOn := .all 0, leadOff := .all 0, held := .all [], planningContinuous := false, gateHold := false
          lateOpens := 0, leadClamps := 0, widthClamps := 0 }
    ∧ t.registration =
        { markSubject := none, markSettled := false, markWindow := .shut, patchSubject := none, patchSettled := false
          patchOpen := false, patchSeen := false, m16 := 0, driftAlert := false, accepted := 0, strayMarks := 0
          strayPatches := 0 }
    ∧ t.gumFold =
        { progress := [], foldTarget := .absent, foldSettled := false, foldOpen := false, foldSeen := false
          foldBarred := false, strayBlanks := 0 }
    ∧ t.verdicts =
        { triggerLog := [], reasonCounts := ⟨0, 0, 0, 0, 0, 0, 0, 0, 0, 0, 0⟩, unverifiedPasses := 0
          lateVerdicts := 0, verdictsRefused := 0, triggerOverflows := 0 }
    ∧ t.batch =
        { openBatch := none, nextSize := 100, nextNumber := 1, closeRequest := false, kickMark := none, queue := []
          backlog := false, separationMissed := 0 }
    ∧ (∀ k, t.banks.get k = { state := .empty, fields := .zero })
    ∧ t.line =
        { state := .config, locked := false, closeFlag := none, feedInhibit := 0, holders := ⟨0, 0, 0⟩
          haltRecord := ⟨none, none, none, none, none, 0, 0⟩ }
    ∧ (∀ l, t.ports.get l =
        { state := .idle, buffer := [], work := none, held := none, exchange := none, shifted := [], flags := 0
          pending := 0, enable := 1, frameErrors := 0, overruns := 0, timeouts := 0 })
    ∧ t.pins =
        (let dataOut := if pin then DataOut.low else .bytes []
         { outputs := .all false, ready := ⟨!pin, !pin, !pin⟩, attention := ⟨false, false, false⟩
           dataOut := ⟨dataOut, dataOut, dataOut⟩ })
    ∧ t.sensors = { s.sensors with resetPin := pin } ∧ t.pending = s.pending ∧ t.choices = s.choices)
  ∧ ∃ s, exec (.powerOnReset false (false, false)) s = .next State.reset
      ∧ s.sensors = ⟨false, false, false, false, false⟩ ∧ State.reset.pending = []

/-- The state after reset meets every law that the steps keep. -/
def Obligations.ResetMeetsEveryLaw : Prop :=
  Accounts State.reset ∧ ChainLaw State.reset ∧ RecordsSound State.reset ∧ BankLaw State.reset ∧ ShaftLaw State.reset
    ∧ QuietLaw State.reset ∧ SupplyLaw State.reset ∧ BatchLaw State.reset ∧ PortLaw State.reset

/-- Every command completes in every state: it answers a next state, with the queue as it was and with the pins driven
to what that state asks: the outputs as R54, R56 and R57 give them, the ready lines as R151, the attention lines as R159,
the data-out lines as R151 and R152 (log 29). While the reset pin is asserted (R17, R151, log 28) the state after every
command but POWER_ON_RESET is one at power-on values, which POWER_ON_RESET with the pin left asserted leaves as it is.
With the pin released the pins are all that is concluded. -/
def Obligations.EveryCommandCompletesAndDrivesThePins : Prop :=
  ∀ (i : Instr) (s : State), ∃ t, exec i s = .next t ∧ t.pending = s.pending
    ∧ (∀ ch : Channel, t.pins.outputs.get ch = true ↔
        ((t.line.state = .ready ∨ t.line.state = .halt) ∧ ch = .rejectGate)
          ∨ ((t.line.state = .run ∨ t.line.state = .drain)
              ∧ ((∃ f ∈ t.firing.held.get ch, f.state = .on) ∨ (ch = .rejectGate ∧ t.firing.gateHold = true))))
    ∧ ((∀ pin pair, i ≠ .powerOnReset pin pair) → s.sensors.resetPin = true →
        t.sensors.resetPin = true ∧ exec (.powerOnReset true (t.shaft.pairA, t.shaft.pairB)) t = .next t)
    ∧ (s.sensors.resetPin = false → conclude s = { s with pins := (conclude s).pins })
    ∧ (∀ l : Link, (t.pins.ready.get l = true ↔ t.sensors.resetPin = false ∧ (t.ports.get l).state = .idle)
        ∧ t.pins.dataOut.get l = (if t.sensors.resetPin then .low else .bytes (t.ports.get l).shifted)
        ∧ (t.pins.attention.get l = true ↔
            ∃ e : Event, maskHas (t.ports.get l).pending e.index = true ∧ maskHas (t.ports.get l).enable e.index = true))

/-- With the reset pin released the line state moves only as R134 lists: each move at the commands that the rules name. -/
def Obligations.LineStateMovesOnlyAtNamedCommands : Prop :=
  ∀ (i : Instr) (s t : State), s.sensors.resetPin = false → exec i s = .next t → LineState.Moves i s.line.state t.line.state

/-- With the reset pin released, what only the commands of its own rule change: the geometry record (R135), the bank
fields (R123), the levels of the sensors, the station holder sets (R147, R148), the next batch size (R117), the event
enables (R160), the link counters and flags (R163), the production and quality counters (R33, R104), the stray counters
(R76, R88), and that the fold window is barred after a LINE RESET (R89, log 30). -/
def Obligations.OnlyItsOwnCommandsChangeIt : Prop :=
  (∀ (i : Instr) (s t : State), s.sensors.resetPin = false → exec i s = .next t →
      (∀ pin pair, i ≠ .powerOnReset pin pair) →
      (t.geometry = s.geometry ∨ (s.line.state = .config ∧ ∃ p, i = .writeGeometry p))
      ∧ (∀ b, fieldsOf t b = fieldsOf s b
          ∨ ((bankState s b = .empty ∨ bankState s b = .staging ∨ bankState s b = .valid) ∧ ∃ p, i = .writeBank p))
      ∧ (t.sensors.gumOk = s.sensors.gumOk ∨ i = .gumOkChange t.sensors.gumOk)
      ∧ (t.sensors.patchWebOk = s.sensors.patchWebOk ∨ i = .patchWebOkChange t.sensors.patchWebOk)
      ∧ (t.sensors.estop = s.sensors.estop ∨ i = .estopChange t.sensors.estop)
      ∧ (t.sensors.jam = s.sensors.jam ∨ i = .jamChange t.sensors.jam)
      ∧ t.sensors.resetPin = false
      ∧ (t.line.holders = s.line.holders
          ∨ (∃ l p, i = .inhibitStation l p ∨ i = .releaseStation l p) ∨ ∃ p, i = .clearHolds p)
      ∧ (t.batch.nextSize = s.batch.nextSize ∨ ∃ p, i = .setBatchSize p)
      ∧ ∀ l, ((t.ports.get l).enable = (s.ports.get l).enable ∨ ∃ p, i = .enableEvents l p ∨ i = .disableEvents l p)
          ∧ ((t.ports.get l).frameErrors = (s.ports.get l).frameErrors ∨ ∃ bs, i = .exchangeEnd l bs)
          ∧ ((t.ports.get l).overruns = (s.ports.get l).overruns ∨ i = .exchangeStart l)
          ∧ ((t.ports.get l).timeouts = (s.ports.get l).timeouts ∨ ∃ bs, i = .linkTimeout l bs)
          ∧ ((t.ports.get l).flags = (s.ports.get l).flags
              ∨ (∃ bs, i = .exchangeEnd l bs ∨ i = .linkTimeout l bs) ∨ i = .exchangeStart l))
  ∧ (∀ (i : Instr) (s t : State), s.sensors.resetPin = false → exec i s = .next t →
      (∀ pin pair, i ≠ .powerOnReset pin pair) →
      (t.chain.purged = s.chain.purged ∨ ∃ p, i = .lineReset p)
      ∧ ((t.chain.fed = s.chain.fed ∧ t.chain.good = s.chain.good ∧ t.chain.rejected = s.chain.rejected
            ∧ t.chain.nextSeq = s.chain.nextSeq ∧ t.verdicts.reasonCounts = s.verdicts.reasonCounts) ∨ turnsForward i)
      ∧ ((t.verdicts.verdictsRefused = s.verdicts.verdictsRefused
            ∧ t.verdicts.lateVerdicts = s.verdicts.lateVerdicts) ∨ ∃ p, i = .verdict p)
      ∧ ((t.verdicts.unverifiedPasses = s.verdicts.unverifiedPasses
            ∧ t.verdicts.triggerOverflows = s.verdicts.triggerOverflows
            ∧ t.gumFold.strayBlanks = s.gumFold.strayBlanks) ∨ turnsForward i
          ∨ (i = .foldCheckEdge ∧ t.verdicts = s.verdicts))
      ∧ (t.registration.strayMarks = s.registration.strayMarks ∨ i = .markEdge)
      ∧ (t.registration.strayPatches = s.registration.strayPatches ∨ i = .patchPresentEdge)
      ∧ (t.gumFold.foldBarred = s.gumFold.foldBarred ∨ (∃ p, i = .lineReset p) ∨ turnsForward i))

/-! ## The laws that every step keeps -/

/-- R34, with the next seq of R21: fed accounts for every record, and the next seq is fed in 24 bits. It holds after every
power-on reset and every step keeps it, so it holds at every moment after power-on reset. -/
def Obligations.StepsKeepTheAccounts : Prop :=
  (∀ (pin : Bool) (pair : Bool × Bool) (s t : State), exec (.powerOnReset pin pair) s = .next t → Accounts t)
  ∧ ∀ s t : State, Accounts s → step s = .next t → Accounts t

/-- R20, R37: records at rising positions in the order of their creation, none in CONFIG; every step keeps it. -/
def Obligations.StepsKeepTheChainLaw : Prop :=
  ∀ s t : State, ChainLaw s → step s = .next t → ChainLaw t

/-- R25, R27, R65, R97, R101, R106: what the fields of a record say of one another; every step keeps it. -/
def Obligations.StepsKeepRecordsSound : Prop :=
  ∀ s t : State, ChainLaw s → RecordsSound s → step s = .next t → RecordsSound t

/-- R23, R24, R29, R30, R91, R101: after a step every record in the chain is one that stood there, changed as a record may
change, or the one just created, with the seq that was next, at position 0. -/
def Obligations.RecordsChangeAsTheRulesAllow : Prop :=
  ∀ s t : State, ChainLaw s → step s = .next t →
    ∀ r' ∈ t.chain.records,
      (∃ r ∈ s.chain.records, r.Follows r') ∨ (r'.seq = s.chain.nextSeq ∧ r'.position = 0)

/-- R126, R130, R131: the bank states and the records that name a bank; every step keeps it. -/
def Obligations.StepsKeepTheBankLaw : Prop :=
  ∀ s t : State, BankLaw s → step s = .next t → BankLaw t

/-- R2 to R8, R13, R15, R134, R136: the ranges of the Shaft Tracker and the geometry lock; every step keeps it. -/
def Obligations.StepsKeepTheShaftLaw : Prop :=
  ∀ s t : State, ShaftLaw s → step s = .next t → ShaftLaw t

/-- R55, R57, R63, R82, R85, R89, R139: outside RUN and DRAIN no firing is held and no window is open, and in a pitch in
which a LINE RESET was taken the fold window is SHUT (log 30); every step keeps it. -/
def Obligations.StepsKeepTheQuietLaw : Prop :=
  ∀ s t : State, QuietLaw s → step s = .next t → QuietLaw t

/-- R75, R83, R114: the supply and backlog causes stand in the feed-inhibit set exactly while their conditions hold; every
step keeps it. -/
def Obligations.StepsKeepTheSupplyLaw : Prop :=
  ∀ s t : State, SupplyLaw s → step s = .next t → SupplyLaw t

/-- R108 to R111, R117: the counts, sizes and numbers of batches; every step keeps it. -/
def Obligations.StepsKeepTheBatchLaw : Prop :=
  ∀ s t : State, BatchLaw s → step s = .next t → BatchLaw t

/-- R68, R92, R151, R152, R156, R157: the states of the ports, the bytes that a data-out line has carried in an exchange
(the frame shifted out, then bytes of 0x00), the trigger log and the drift filter; every step keeps it. -/
def Obligations.StepsKeepThePortLaw : Prop :=
  ∀ s t : State, PortLaw s → step s = .next t → PortLaw t

/-! ## The shaft -/

/-- FORWARD_COUNT_STEP (R1, R3, R5, R7, R8, R15): the Shaft Tracker after it, within the pitch, at a wrap that repays
debt and at a forward boundary. The microseconds that passed come with the command (log 1). -/
def Obligations.ForwardStepMovesTheShaftTracker : Prop :=
  ∀ (elapsed : Nat) (level : Bool) (s : State), s.sensors.resetPin = false →
    ∃ t, exec (.forwardCountStep elapsed level) s = .next t
    ∧ t.shaft =
        (let passed := min (s.shaft.pitchTimer + elapsed) 2000001
         let stepped := { s.shaft with
            pairA := !s.shaft.pairB, pairB := s.shaft.pairA, lastStep := some .forward, pitchTimer := passed }
         if s.shaft.count + 1 < s.shaft.workingCpp then
           let phase := (s.shaft.count + 1) * 4096 / s.shaft.workingCpp
           { stepped with
             count := s.shaft.count + 1, phase := phase
             highWater := if s.shaft.reverseDebt = 0 then max s.shaft.highWater phase else s.shaft.highWater }
         else if s.shaft.reverseDebt = 0 then
           let running := s.line.state == .run || s.line.state == .drain
           let checked := s.geometry.indexCheck == 1 && s.line.state != .config
           { stepped with
             count := 0, phase := 0, highWater := 0, pitchTimer := 0, lastPeriod := passed
             periodValid := running && s.shaft.timingQualified && decide (passed ≤ 2000000) && t.line.state != .halt
             timingQualified := running && t.line.state != .halt
             boundariesSinceIndex :=
               if checked then (if s.shaft.boundariesSinceIndex = 0 then 1 else 0)
               else s.shaft.boundariesSinceIndex }
         else { stepped with count := 0, phase := 0, reverseDebt := s.shaft.reverseDebt - 1 })

/-- A forward count step within the pitch. With reverse debt it crosses no phase and changes the Shaft Tracker alone (R3, R6).
Without, it raises the crossings of the phases above both the old phase and the high-water phase, up to the new one, in
ascending order (R6). At a crossing each unit that has work at that phase takes it once, in an order that no rule gives
(log 2): the on edge of each PLANNED firing and the off edge of each other held firing that fall there (R44, R47, R51),
the opening and closing phases of the mark, patch and fold windows (R63, R67, R74, R85, R87), the gate decision (R99) and
the count event (R106). No crossing moves a record, and none changes the geometry, the banks, the line state, the halt
record, the holder sets, the exchanges of the links (R29) or that the fold window is barred (log 30). -/
def Obligations.ForwardStepWithinThePitch : Prop :=
  (∀ (elapsed : Nat) (level : Bool) (s : State), 0 < s.shaft.reverseDebt →
      ∃ x : Shaft, exec (.forwardCountStep elapsed level) s = .next (conclude { s with shaft := x }))
  ∧ (∀ (elapsed : Nat) (level : Bool) (s : State),
      s.shaft.count + 1 < s.shaft.workingCpp → s.shaft.reverseDebt = 0 →
      (s.shaft.count + 1) * 4096 / s.shaft.workingCpp ≤ 4095 →
      ∃ x : Shaft, x.phase = (s.shaft.count + 1) * 4096 / s.shaft.workingCpp
        ∧ exec (.forwardCountStep elapsed level) s
          = .next (conclude ((phasesCrossed s x.phase).foldl (crossing level) { s with shaft := x })))
  ∧ (∀ (level : Bool) (p : Nat) (s : State),
      (∃ order, (order.map Prod.fst).Perm (crossingTasks p s)
        ∧ crossing level s p = takenInOrder (doCrossing level p) order s)
      ∧ (let named := fun (subject : Option Seq) (field : BankFields → Nat) =>
          ∃ q r, subject = some q ∧ recordBySeq s q = some r ∧ field (fieldsOf s r.bank) = p
         (∀ e, .edge e ∈ crossingTasks p s ↔ ∃ f ∈ s.firing.held.get e.channel, f.anchorSeq = e.seq
            ∧ ((f.state = .planned ∧ e.isOn = true ∧ f.effOn + 4096 * f.anchorPitch = p)
              ∨ (f.state ≠ .planned ∧ e.isOn = false ∧ f.effOff + 4096 * f.anchorPitch = p)))
         ∧ (.mark ∈ crossingTasks p s ↔ named s.registration.markSubject BankFields.markOpen
              ∨ named s.registration.markSubject BankFields.markClose)
         ∧ (.patch ∈ crossingTasks p s ↔ named s.registration.patchSubject BankFields.patchCheckOpen
              ∨ named s.registration.patchSubject BankFields.patchCheckClose)
         ∧ (.fold ∈ crossingTasks p s ↔ ∃ b, (s.gumFold.foldTarget = .empty b
                ∨ ∃ q r, s.gumFold.foldTarget = .record q ∧ recordBySeq s q = some r ∧ r.bank = b)
              ∧ ((fieldsOf s b).foldOpen = p ∨ (fieldsOf s b).foldClose = p))
         ∧ (.gate ∈ crossingTasks p s ↔ s.line.state ≠ .config ∧ ∃ r, recordBefore s s.geometry.posGate = some r
              ∧ r.fate = .undecided ∧ (fieldsOf s r.bank).gateDecide = p)
         ∧ (.count ∈ crossingTasks p s ↔ ∃ r, recordAt s s.geometry.posCount = some r ∧ r.counted = false
              ∧ (fieldsOf s r.bank).countPhase = p))
      ∧ (∀ e, doCrossing level p (.edge e) s
          = if e.isOn then onEdge e.channel e.seq s else offEdge e.channel e.seq s)
      ∧ doCrossing level p .mark s = markCrossing p s ∧ doCrossing level p .patch s = patchCrossing p s
      ∧ doCrossing level p .fold s = foldCrossing level p s ∧ doCrossing level p .gate s = gateCrossing p s
      ∧ doCrossing level p .count s = countCrossing p s)
  ∧ (∀ (elapsed : Nat) (level : Bool) (s : State), s.sensors.resetPin = false →
      s.shaft.count + 1 < s.shaft.workingCpp →
      ∃ t, exec (.forwardCountStep elapsed level) s = .next t
        ∧ t.chain.records.map (fun r => (r.seq, r.bank, r.position))
            = s.chain.records.map (fun r => (r.seq, r.bank, r.position))
        ∧ t.chain.nextSeq = s.chain.nextSeq ∧ t.chain.fed = s.chain.fed ∧ t.chain.good = s.chain.good
        ∧ t.chain.rejected = s.chain.rejected ∧ t.chain.purged = s.chain.purged
        ∧ t.geometry = s.geometry ∧ t.banks = s.banks ∧ t.sensors = s.sensors
        ∧ t.gumFold.foldBarred = s.gumFold.foldBarred
        ∧ t.line = { s.line with feedInhibit := t.line.feedInhibit }
        ∧ ∀ l, t.ports.get l = { s.ports.get l with pending := (t.ports.get l).pending })

/-- A forward boundary (R3, R7): the Shaft Tracker closes the pitch (R7, R8, R15); then the causes it raised (R10, R15), the
Pitch Chain's operation, and after it, each once, the Firing Unit (R45), the Registration Unit (R62), the Gum and Fold
Unit (R84), the gate decision of phase 0 (R99), the Batch Unit (R106) and, where the operation emptied the chain, the
chain-empty notice (R31), in an order that no rule gives (logs 2, 13, 14); the Gum and Fold Unit acts on the active bank
after any changeover (R84). The chain operation (R22, R26 to R33, R103): records leave at GATE and at COUNT, the rest move
up one position, a bank that no record names any longer is released, and in RUN, with the feed not inhibited and a bank
active, a record is created under the bank ARMED, which is then ACTIVE, if there is one. -/
def Obligations.ForwardBoundaryMovesTheChain : Prop :=
  (∀ (elapsed : Nat) (level : Bool) (s : State), s.sensors.resetPin = false →
    s.shaft.workingCpp ≤ s.shaft.count + 1 → s.shaft.reverseDebt = 0 →
    (let s1 := { s with shaft := { s.shaft with
        pairA := !s.shaft.pairB, pairB := s.shaft.pairA, lastStep := some .forward, count := 0, phase := 0
        pitchTimer := min (s.shaft.pitchTimer + elapsed) 2000001 } }
     exec (.forwardCountStep elapsed level) s = .next (conclude (pitchBoundary level s1))
      ∧ (BoundaryWithoutCause s1 → ∃ t, exec (.forwardCountStep elapsed level) s = .next t ∧ ChainMoved s t)))
  ∧ (∀ (level : Bool) (s : State),
      (let running := s.line.state = .run ∨ s.line.state = .drain
       let checked := s.geometry.indexCheck = 1 ∧ s.line.state ≠ .config
       let valid := decide (running ∧ s.shaft.timingQualified = true ∧ s.shaft.pitchTimer ≤ 2000000)
       let causes :=
         (if checked ∧ 1 ≤ s.shaft.boundariesSinceIndex then [BoundaryTask.cause .encoderFault] else [])
           ++ (if running ∧ s.shaft.timingQualified = true ∧ s.shaft.pitchTimer < 30000 then [.cause .overspeed] else [])
       let closed : State := { s with shaft := { s.shaft with
          lastPeriod := s.shaft.pitchTimer, periodValid := valid, timingQualified := decide running, pitchTimer := 0
          highWater := 0
          boundariesSinceIndex := if checked then (if s.shaft.boundariesSinceIndex = 0 then 1 else 0)
            else s.shaft.boundariesSinceIndex } }
       let act := fun (task : BoundaryTask) (x : State) => match task with
         | .cause c => raiseCause c none x
         | .chain => chainBoundary x
         | .firing => firingBoundary s.shaft.pitchTimer valid x
         | .registration => registrationBoundary x
         | .gumFold => gumFoldBoundary level x
         | .gate => gateCrossing 0 x
         | .batch => batchBoundary x
         | .emptyNotice => chainEmptyNotice x
       ∃ (before after : List (BoundaryTask × Nat)) (index : Nat),
        (let moved := takenInOrder act (before ++ [(.chain, index)]) closed
         pitchBoundary level s = takenInOrder act after moved
         ∧ (before.map Prod.fst ++ after.map Prod.fst).Perm (causes
             ++ [.firing, .registration, .gumFold, .gate, .batch]
             ++ (if s.chain.records ≠ [] ∧ moved.chain.records = [] then [.emptyNotice] else []))
         ∧ (∀ x ∈ before, x.1 ∈ causes)
         ∧ ∀ first last k, after = first ++ (.gumFold, k) :: last → .emptyNotice ∈ last.map Prod.fst →
             armedBank (takenInOrder act first moved) = none)))
  ∧ (∀ s : State,
      (let t := chainBoundary s
       let kept := s.chain.records.filter fun r => r.position != s.geometry.posCount
          && !(r.position == s.geometry.posGate && (r.fate == .reject || r.fate == .undecided))
       let feeds := s.line.state == .run && s.line.feedInhibit == 0 && (activeBank s).isSome
       let bank := if (armedBank s).isSome then armedBank s else activeBank s
       let created := fun (b : BankId) =>
         (let f := fieldsOf s b
          ({ seq := s.chain.nextSeq, bank := b, position := 0, reasons := 0, regError := none, shift := none
             patched := if f.windowEnable = 1 then .due else .notDue
             gummed := if f.gumSeamEnable = 1 ∨ f.gumFlapEnable = 1 then .due else .notDue
             verdict := if f.inspectEnable = 1 then .uninspected else .notRequired
             verdictCause := none, fate := .undecided, counted := false } : Record))
       ChainMoved s t
       ∧ t.chain.records = (if feeds then (bank.map created).toList else [])
           ++ kept.map (fun r => { r with position := r.position + 1 })
       ∧ (∀ b, fieldsOf t b = fieldsOf s b)
       ∧ (feeds = true → ∀ b, bank = some b → bankState t b = .active)
       ∧ (feeds = false → ∀ b, bankState s b ≠ .draining → bankState t b = bankState s b)
       ∧ (∀ b, bankState s b = .draining → bankNamed s b = true → kept.all (fun r => r.bank != b) = true →
           bankState t b = .valid ∧ ∀ l, maskHas (t.ports.get l).pending Event.bankReleased.index = true)))

/-- The causes of a forward boundary in each line state (R10, R15, R16, R141, R143): OVERSPEED in RUN and DRAIN after a
qualified period below 30 000 µs, ENCODER_FAULT outside CONFIG where it is the second boundary without an index edge.
From READY, RUN and DRAIN they halt the line; when both are raised, the one taken first is first. In HALT ENCODER_FAULT
joins the further causes. A boundary in DRAIN that empties the chain may complete the drain before a cause is taken
(R139), and the line is then halted from READY. -/
def Obligations.BoundaryCausesHaltTheLine : Prop :=
  ∀ (elapsed : Nat) (level : Bool) (s : State),
    s.sensors.resetPin = false → s.shaft.workingCpp ≤ s.shaft.count + 1 → s.shaft.reverseDebt = 0 →
    (let overspeed := (s.line.state = .run ∨ s.line.state = .drain) ∧ s.shaft.timingQualified = true
        ∧ min (s.shaft.pitchTimer + elapsed) 2000001 < 30000
     let missing := s.geometry.indexCheck = 1 ∧ s.line.state ≠ .config ∧ 1 ≤ s.shaft.boundariesSinceIndex
     ∃ t, exec (.forwardCountStep elapsed level) s = .next t
      ∧ (let record := t.line.haltRecord
         let drained := s.line.state = .drain ∧ s.chain.records ≠ [] ∧ t.chain.records = []
         let holds := fun (c : HaltCause) => record.firstCause = some c ∨ maskHas record.further c.index = true
         (¬overspeed → ¬missing → ¬drained → t.line.state = s.line.state ∧ record = s.line.haltRecord)
         ∧ (missing → s.line.state = .halt → t.line.state = .halt ∧ record = { s.line.haltRecord with
              further := maskAdd s.line.haltRecord.further HaltCause.encoderFault.index })
         ∧ (overspeed ∨ missing → s.line.state ≠ .halt →
              t.line.state = .halt ∧ t.line.closeFlag = none ∧ record.phaseAtEntry = some 0
              ∧ record.haltingLink = none ∧ record.count = s.line.haltRecord.count + 1
              ∧ t.shaft.periodValid = false ∧ t.shaft.timingQualified = false
              ∧ (overspeed → holds .overspeed) ∧ (missing → holds .encoderFault)
              ∧ (drained → record.stateLeft = some .drain ∨ record.stateLeft = some .ready)
              ∧ (¬drained → record.stateLeft = some s.line.state
                  ∧ (overspeed → ¬missing → record.firstCause = some .overspeed ∧ record.further = 0)
                  ∧ (missing → ¬overspeed → record.firstCause = some .encoderFault ∧ record.further = 0)
                  ∧ (overspeed → missing →
                      (record.firstCause = some .overspeed ∧ record.further = maskAdd 0 HaltCause.encoderFault.index)
                      ∨ (record.firstCause = some .encoderFault
                          ∧ record.further = maskAdd 0 HaltCause.overspeed.index))))))

/-- BACKWARD_COUNT_STEP (R1, R4, R5, R9, R11, R16): the Shaft Tracker after it, and what becomes of the line: REVERSE in RUN
and DRAIN; ENCODER_FAULT at a wrap with the debt at 255, outside CONFIG. For a step that is no wrap no rule says whether the
phase at entry is the one before or after it (log 10). -/
def Obligations.BackwardStepOwesAndReverses : Prop :=
  ∀ s : State, s.sensors.resetPin = false → ∃ t, exec .backwardCountStep s = .next t
    ∧ t.shaft =
        (let count := if s.shaft.count = 0 then s.shaft.workingCpp - 1 else s.shaft.count - 1
         { s.shaft with
           pairA := s.shaft.pairB, pairB := !s.shaft.pairA, lastStep := some .backward, count := count
           phase := count * 4096 / s.shaft.workingCpp, periodValid := false, timingQualified := false
           reverseDebt :=
             if s.shaft.count = 0 ∧ s.shaft.reverseDebt < 255 then s.shaft.reverseDebt + 1
             else s.shaft.reverseDebt })
    ∧ (let fault := s.shaft.count = 0 ∧ 255 ≤ s.shaft.reverseDebt
       (s.line.state = .config → t = conclude { s with shaft := t.shaft })
       ∧ (s.line.state = .ready ∨ s.line.state = .halt → ¬fault → t = conclude { s with shaft := t.shaft })
       ∧ (s.line.state = .ready → fault → t.line.state = .halt
            ∧ t.line.haltRecord.firstCause = some .encoderFault ∧ t.line.haltRecord.stateLeft = some .ready
            ∧ t.line.haltRecord.phaseAtEntry = some t.shaft.phase)
       ∧ (s.line.state = .halt → fault →
            t.line = { s.line with
              haltRecord.further := maskAdd s.line.haltRecord.further HaltCause.encoderFault.index })
       ∧ (s.line.state = .run ∨ s.line.state = .drain → t.line.state = .halt
            ∧ t.line.haltRecord.firstCause = some .reverse ∧ t.line.haltRecord.stateLeft = some s.line.state
            ∧ t.line.haltRecord.count = s.line.haltRecord.count + 1
            ∧ (fault → t.line.haltRecord.further = maskAdd 0 HaltCause.encoderFault.index)
            ∧ (¬fault → t.line.haltRecord.further = 0)
            ∧ (s.shaft.count = 0 → t.line.haltRecord.phaseAtEntry = some s.shaft.phase)
            ∧ (t.line.haltRecord.phaseAtEntry = some s.shaft.phase
                ∨ t.line.haltRecord.phaseAtEntry = some t.shaft.phase)))

/-- ILLEGAL_TRANSITION (R1) makes no count step, and the decoder pair takes the new levels. PITCH_TIMER_HOLD (R8) leaves
the pitch timer at 2 000 001. INDEX_EDGE: one that R12 ignores changes nothing but the time that passed (log 1); one
taken for checking (R13, R14) realigns the count to index_count, the mismatch run follows the signed difference, and a
second mismatch in a row raises ENCODER_FAULT before the count moves (DEDUCED, log 11). Forward, the phases passed are
crossed; across the wrap, the phases left of this pitch are crossed, the boundary is taken with the period recorded and
the chain moved, and then, with the count set, the phases of the new pitch are crossed (that the count is set after the
boundary is the model's, DEDUCED, log 11). Backward, no phase is crossed, and across the wrap one debt is owed.
Boundaries since index return to 0 (R15). -/
def Obligations.IndexEdgeRealignsTheCount : Prop :=
  (∀ (elapsed : Nat) (level : Bool) (s : State), ShaftLaw s → s.sensors.resetPin = false →
      s.geometry.indexCheck = 1 → s.line.state ≠ .config → s.shaft.reverseDebt = 0 →
      s.shaft.lastStep ≠ some .backward →
      (let cpp : Int := s.shaft.workingCpp
       let d : Int := ((s.geometry.indexCount : Int) - s.shaft.count + cpp / 2) % cpp - cpp / 2
       let far := 2 < d ∨ d < -2
       let phase := s.geometry.indexCount * 4096 / s.shaft.workingCpp
       let passed := min (s.shaft.pitchTimer + elapsed) 2000001
       let checked := fun (run : Nat) => { s with shaft := { s.shaft with pitchTimer := passed, mismatchRun := run } }
       let s1 := if far then
            (if s.shaft.mismatchRun = 0 then checked 1 else raiseCause .encoderFault none (checked 0)) else checked 0
       let moved := fun (highWater debt : Nat) (x : State) => { x with shaft := { x.shaft with
            count := s.geometry.indexCount, phase := phase, highWater := highWater, reverseDebt := debt } }
       let found := fun (x : State) => { x with shaft := { x.shaft with boundariesSinceIndex := 0 } }
       let opened := pitchBoundary level ((phasesCrossed s 4095).foldl (crossing level) s1)
       let run := exec (.indexEdge elapsed level) s
       (d = 0 → run = .next (conclude (found s1)))
       ∧ (d < 0 → 0 ≤ s.shaft.count + d → run = .next (conclude (found (moved s.shaft.highWater 0 s1))))
       ∧ (s.shaft.count + d < 0 → run = .next (conclude (found (moved s.shaft.highWater 1 s1))))
       ∧ (0 < d → s.shaft.count + d < cpp → run = .next (conclude (found
            ((phasesCrossed s phase).foldl (crossing level) (moved (max s.shaft.highWater phase) 0 s1)))))
       ∧ (cpp ≤ s.shaft.count + d → run = .next (conclude (found
            (((List.range 4096).filter fun p => decide (0 < p) && decide (p ≤ phase)).foldl (crossing level)
              (moved phase 0 opened)))))
       ∧ ∃ t, run = .next t ∧ t.shaft.count = s.geometry.indexCount ∧ t.shaft.phase = phase
        ∧ t.shaft.boundariesSinceIndex = 0
        ∧ t.shaft.mismatchRun = (if far then 1 - s.shaft.mismatchRun else 0)
        ∧ t.shaft.reverseDebt = (if (s.shaft.count : Int) + d < 0 then 1 else 0)
        ∧ (t.shaft.pairA, t.shaft.pairB, t.shaft.lastStep) = (s.shaft.pairA, s.shaft.pairB, s.shaft.lastStep)
        ∧ t.shaft.pitchTimer = (if cpp ≤ s.shaft.count + d then 0 else passed)
        ∧ t.shaft.lastPeriod = (if cpp ≤ s.shaft.count + d then passed else s.shaft.lastPeriod)
        ∧ (cpp ≤ s.shaft.count + d → BoundaryWithoutCause s1 →
            ChainMoved ((phasesCrossed s 4095).foldl (crossing level) s1) t
            ∧ t.shaft.periodValid
              = (s1.line.state.running && s1.shaft.timingQualified && decide (passed ≤ 2000000) && t.line.state != .halt))
        ∧ (far → s.shaft.mismatchRun = 1 →
            t.line.state = .halt
            ∧ (s.line.state ≠ .halt → t.line.haltRecord.firstCause = some .encoderFault
                ∧ t.line.haltRecord.stateLeft = some s.line.state)
            ∧ (s.line.state = .halt → maskHas t.line.haltRecord.further HaltCause.encoderFault.index = true))))
  ∧ (∀ (elapsed : Nat) (level : Bool) (s : State),
      exec .illegalTransition s
          = .next (conclude { s with shaft := { s.shaft with pairA := !s.shaft.pairA, pairB := !s.shaft.pairB } })
      ∧ exec .pitchTimerHold s = .next (conclude { s with shaft := { s.shaft with pitchTimer := 2000001 } })
      ∧ (s.geometry.indexCheck ≠ 1 ∨ s.line.state = .config ∨ s.shaft.reverseDebt ≠ 0
            ∨ s.shaft.lastStep = some .backward →
          exec (.indexEdge elapsed level) s
            = .next (conclude
                { s with shaft := { s.shaft with pitchTimer := min (s.shaft.pitchTimer + elapsed) 2000001 } })))

/-! ## The sensors -/

/-- MARK_EDGE (R64 to R66, R68, R69), by the line state and the mark window: ignored, stray, a capture, a second mark. -/
def Obligations.MarkEdgeCapturesOrCounts : Prop :=
  ∀ s : State,
    (s.line.state ≠ .run → s.line.state ≠ .drain → exec .markEdge s = .next (conclude s))
    ∧ (s.line.state = .run ∨ s.line.state = .drain →
        (s.registration.markWindow = .shut →
          exec .markEdge s = .next (conclude
            { s with registration.strayMarks := s.registration.strayMarks + 1 }))
        ∧ (∀ q, s.registration.markWindow = .captured → s.registration.markSubject = some q →
          exec .markEdge s = .next (conclude
            { s with chain.records := s.chain.records.map fun x =>
                if x.seq = q ∧ x.fate = .undecided then
                  { x with reasons := maskAdd x.reasons Reason.doubleMark.index } else x }))
        ∧ (∀ q r, s.registration.markWindow = .opened → s.registration.markSubject = some q →
            recordBySeq s q = some r →
          (let f := fieldsOf s r.bank
           let e : Int := ((s.shaft.phase : Int) - f.markExpected + 2048) % 4096 - 2048
           let m16 := max (-32767) (min 32767 (s.registration.m16 + (16 * e - s.registration.m16).tdiv 8))
           let alert := decide (16 * (f.driftAlert : Int) < max m16 (-m16))
           (max e (-e) ≤ f.tol →
            exec .markEdge s = .next (conclude { s with
              chain.records := s.chain.records.map fun x =>
                if x.seq = q then
                  { x with
                    regError := some e
                    shift := some (if e < -(f.shiftMax : Int) then -(f.shiftMax : Int)
                      else if (f.shiftMax : Int) < e then f.shiftMax else e) }
                else x
              registration := { s.registration with
                markWindow := .captured, m16 := m16, driftAlert := alert
                accepted := s.registration.accepted + 1 }
              ports := if alert = true ∧ s.registration.driftAlert = false then portsPosted [.driftAlert] s.ports
                else s.ports }))
           ∧ (f.tol < max e (-e) →
            exec .markEdge s = .next (conclude { s with
              chain.records := s.chain.records.map fun x =>
                if x.seq = q then
                  { x with
                    regError := some e
                    reasons := if x.fate = .undecided then maskAdd x.reasons Reason.regOutOfTol.index else x.reasons }
                else x
              registration := { s.registration with markWindow := .captured } })))))

/-- The registration error (R65) and the signed difference of an index edge (R13) lie in their ranges and measure the short way
round the pitch; the drift filter (R68) never lies further from zero than the largest 16 × |e| it has taken, and a
constant error draws it no further away. -/
def Obligations.MeasurementsGoTheShortWayRound : Prop :=
  (∀ c x : Nat, -2048 ≤ registrationError c x ∧ registrationError c x ≤ 2047
      ∧ ((c : Int) - x - registrationError c x) % 4096 = 0)
  ∧ (∀ s : State, 0 < s.shaft.workingCpp → s.shaft.workingCpp % 2 = 0 →
      -((s.shaft.workingCpp : Int) / 2) ≤ indexDifference s
      ∧ indexDifference s ≤ (s.shaft.workingCpp : Int) / 2 - 1
      ∧ ((s.shaft.count : Int) + indexDifference s - s.geometry.indexCount) % s.shaft.workingCpp = 0)
  ∧ (∀ m e b : Int, b ≤ 32767 → -b ≤ m → m ≤ b → -b ≤ 16 * e → 16 * e ≤ b →
      (-b ≤ driftFilter m e ∧ driftFilter m e ≤ b)
      ∧ (m ≤ 16 * e → m ≤ driftFilter m e ∧ driftFilter m e ≤ 16 * e)
      ∧ (16 * e ≤ m → 16 * e ≤ driftFilter m e ∧ driftFilter m e ≤ m))

/-- PATCH_PRESENT_EDGE (R73): seen in the open window of a patched subject, stray otherwise, ignored outside RUN and DRAIN.
FOLD_CHECK_EDGE (R86, R88), by the line state, the window, the target and fold seen. -/
def Obligations.PatchAndFoldEdgesAreSeenOrStray : Prop :=
  (∀ s : State,
      (s.line.state ≠ .run → s.line.state ≠ .drain → exec .patchPresentEdge s = .next (conclude s))
      ∧ (s.line.state = .run ∨ s.line.state = .drain →
          (∀ q r, s.registration.patchOpen = true → s.registration.patchSubject = some q → recordBySeq s q = some r →
              r.patched = .done →
            exec .patchPresentEdge s = .next (conclude { s with registration.patchSeen := true }))
          ∧ ((s.registration.patchOpen = false ∨ s.registration.patchSubject = none
              ∨ ∃ q, s.registration.patchSubject = some q ∧ ∀ r, recordBySeq s q = some r → r.patched ≠ .done) →
            exec .patchPresentEdge s = .next (conclude
              { s with registration.strayPatches := s.registration.strayPatches + 1 }))))
  ∧ (∀ s : State,
      ((s.line.state ≠ .run ∧ s.line.state ≠ .drain) ∨ s.gumFold.foldOpen = false ∨ s.gumFold.foldSeen = true
          ∨ s.gumFold.foldTarget = .absent →
        exec .foldCheckEdge s = .next (conclude s))
      ∧ ((s.line.state = .run ∨ s.line.state = .drain) → s.gumFold.foldOpen = true → s.gumFold.foldSeen = false →
          (∀ q, s.gumFold.foldTarget = .record q →
            exec .foldCheckEdge s = .next (conclude { s with gumFold.foldSeen := true }))
          ∧ (∀ b, s.gumFold.foldTarget = .empty b →
            exec .foldCheckEdge s = .next (conclude { s with
              gumFold := { s.gumFold with foldSeen := true, strayBlanks := s.gumFold.strayBlanks + 1 }
              ports := portsPosted [.stray] s.ports }))))

/-- GUM_OK_CHANGE (R83) and PATCH_WEB_OK_CHANGE (R75): the supply cause follows the level and the active bank;
FEED_INHIBITED is posted when the set leaves empty in RUN (R145). -/
def Obligations.SupplyLevelsSetTheirCauses : Prop :=
  ∀ (level : Bool) (s : State),
    (let low := !level && (match activeBank s with
        | none => false
        | some b => (fieldsOf s b).gumSeamEnable == 1 || (fieldsOf s b).gumFlapEnable == 1)
     exec (.gumOkChange level) s = .next (conclude { s with
        sensors := { s.sensors with gumOk := level }
        line := { s.line with feedInhibit := if low then s.line.feedInhibit ||| 2 else s.line.feedInhibit &&& ~~~2 }
        ports := if low = true ∧ s.line.feedInhibit = 0 ∧ s.line.state = .run then portsPosted [.feedInhibited] s.ports
          else s.ports }))
    ∧ (let low := !level && (match activeBank s with
        | none => false
        | some b => (fieldsOf s b).windowEnable == 1)
     exec (.patchWebOkChange level) s = .next (conclude { s with
        sensors := { s.sensors with patchWebOk := level }
        line := { s.line with feedInhibit := if low then s.line.feedInhibit ||| 4 else s.line.feedInhibit &&& ~~~4 }
        ports := if low = true ∧ s.line.feedInhibit = 0 ∧ s.line.state = .run then portsPosted [.feedInhibited] s.ports
          else s.ports }))

/-! ## Halts -/

/-- A halt cause raised (R140 to R143, R9, R55, R57, R63, R82, R85): nothing in CONFIG; a further cause in HALT; from READY,
RUN and DRAIN the entry to HALT, written out, with the disturbed zone marked and everything in flight dropped where the
line was running. That patch seen and fold seen keep their values, which R77 and R89 do not say, is the model's (DEDUCED,
log 19). -/
def Obligations.HaltCauseEntersHalt : Prop :=
  ∀ (c : HaltCause) (l : Option Link) (s : State),
    (s.line.state = .config → raiseCause c l s = s)
    ∧ (s.line.state = .halt → raiseCause c l s = { s with
        line.haltRecord.further := s.line.haltRecord.further ||| BitVec.twoPow 6 c.index })
    ∧ (s.line.state ≠ .config → s.line.state ≠ .halt →
        (let running := s.line.state = .run ∨ s.line.state = .drain
         raiseCause c l s = { s with
          shaft := { s.shaft with periodValid := false, timingQualified := false }
          chain.records := if running then s.chain.records.map fun r =>
              if s.geometry.zoneFirst ≤ r.position ∧ r.position ≤ s.geometry.zoneLast ∧ r.fate = .undecided then
                { r with reasons := maskAdd r.reasons Reason.disturbed.index } else r
            else s.chain.records
          firing := if running then
              { s.firing with held := .all [], planningContinuous := false, gateHold := false } else s.firing
          registration := if running then { s.registration with markWindow := .shut, patchOpen := false }
            else s.registration
          gumFold := if running then { s.gumFold with foldOpen := false, progress := [] } else s.gumFold
          line := { s.line with
            state := .halt, closeFlag := none
            haltRecord :=
              { firstCause := some c, haltingLink := l, stateLeft := some s.line.state
                phaseAtEntry := some s.shaft.phase
                seqAtGate := (recordBefore s s.geometry.posGate).map Record.seq
                further := 0, count := s.line.haltRecord.count + 1 } }
          ports := portsPosted [.halted] s.ports }))

/-- ESTOP_CHANGE and JAM_CHANGE (R140): the level becoming active raises its cause; HALT (R140) raises HALT_COMMAND with its
link, and is answered WRONG_STATE in CONFIG. -/
def Obligations.EstopJamAndHaltRaiseTheirCauses : Prop :=
  ∀ (level : Bool) (l : Link) (s : State), s.sensors.resetPin = false →
    (∃ t, exec (.estopChange level) s = .next t ∧ t.sensors = { s.sensors with estop := level }
      ∧ (level = true ∧ s.sensors.estop = false ∧ s.line.state ≠ .config → t.line.state = .halt
          ∧ (s.line.state ≠ .halt → t.line.haltRecord.firstCause = some .estop ∧ t.line.haltRecord.further = 0
              ∧ t.line.haltRecord.stateLeft = some s.line.state)
          ∧ (s.line.state = .halt → t.line.haltRecord.further = s.line.haltRecord.further ||| 1))
      ∧ (level = false ∨ s.sensors.estop = true ∨ s.line.state = .config → t = conclude { s with
          sensors := { s.sensors with estop := level } }))
    ∧ (∃ t, exec (.jamChange level) s = .next t ∧ t.sensors = { s.sensors with jam := level }
      ∧ (level = true ∧ s.sensors.jam = false ∧ s.line.state ≠ .config → t.line.state = .halt
          ∧ (s.line.state ≠ .halt → t.line.haltRecord.firstCause = some .jam ∧ t.line.haltRecord.further = 0
              ∧ t.line.haltRecord.stateLeft = some s.line.state)
          ∧ (s.line.state = .halt → t.line.haltRecord.further = s.line.haltRecord.further ||| 2))
      ∧ (level = false ∨ s.sensors.jam = true ∨ s.line.state = .config → t = conclude { s with
          sensors := { s.sensors with jam := level } }))
    ∧ (s.line.state = .config → exec (.halt l []) s = .next (s.answered l .halt .wrongState []))
    ∧ (s.line.state = .halt → exec (.halt l []) s = .next (State.answered
        { s with line.haltRecord.further := s.line.haltRecord.further ||| 4 } l .halt .ok []))
    ∧ (s.line.state ≠ .config → s.line.state ≠ .halt →
        ∃ t, exec (.halt l []) s = .next t ∧ t.line.state = .halt
          ∧ t.line.haltRecord.firstCause = some .haltCommand ∧ t.line.haltRecord.haltingLink = some l
          ∧ t.line.haltRecord.stateLeft = some s.line.state
          ∧ t.ports = portsAnswered l .halt .ok [] [.halted] s.ports)

/-! ## The links -/

/-- EXCHANGE_START (R151, R152, R156, R158, R164): in IDLE the port shifts out the held response, or NO_RESPONSE, with the
flags as they stand; in WORKING it shifts out BUSY, adds OVERRUN_SEEN and counts; a link whose exchange is in progress
is left as it is (log 8). The data-out line starts with no byte carried (log 29). -/
def Obligations.ExchangeStartShiftsOutTheResponse : Prop :=
  ∀ (l : Link) (s : State),
    (let p := s.ports.get l
     (p.exchange ≠ none → exec (.exchangeStart l) s = .next (conclude s))
     ∧ (p.exchange = none → p.state = .idle →
        ∃ body, body = (match p.held with
            | none => [0x10#8, 0#8, p.flags.setWidth 8, 0#8]
            | some r => [r.status.code, r.echo, p.flags.setWidth 8, BitVec.ofNat 8 r.payload.length] ++ r.payload)
          ∧ exec (.exchangeStart l) s = .next (conclude { s with ports := s.ports.set l { p with
            state := .receiving, buffer := [], shifted := []
            exchange := some
              { busy := false, abandoned := false, frame := 0xB5#8 :: (body ++ [crc8 body]), reported := p.flags
                own := 0, clocked := 0 } } }))
     ∧ (p.exchange = none → p.state = .working →
        ∃ body, body = [0x11#8, 0#8, p.flags.setWidth 8, 0#8]
          ∧ exec (.exchangeStart l) s = .next (conclude { s with ports := s.ports.set l { p with
            flags := p.flags ||| 1, overruns := p.overruns + 1, shifted := []
            exchange := some
              { busy := true, abandoned := false, frame := 0xB5#8 :: (body ++ [crc8 body]), reported := p.flags
                own := 1, clocked := 0 } } })))

/-- EXCHANGE_END of an exchange begun in IDLE (R152, R153, R155, R164). A sound request frame of a command that its link
accepts is handed on with its payload, whatever bytes were clocked after it, and the port is WORKING. As many bytes as
arrive are shifted out: those of the response frame, then bytes of 0x00 (log 29). A byte that names no command, a command
that the link does not accept and a frame that fails one of the checks 1 to 4 are turned away; only the last is counted
and posted. -/
def Obligations.ExchangeEndChecksTheFrame : Prop :=
  (∀ (l : Link) (c : Command) (payload arrived extra : List Byte) (x : Exchange) (s : State),
      c.acceptedOn l = true → payload.length ≤ 56 →
      (s.ports.get l).exchange = some x → x.busy = false → x.abandoned = false → x.own = 0 →
      (s.ports.get l).buffer ++ arrived = requestFrame c.code payload ++ extra →
      exec (.exchangeEnd l arrived) s = .next (conclude { s with ports := s.ports.set l { s.ports.get l with
        state := .working, exchange := none, buffer := [], held := none, work := some ⟨c, payload⟩
        shifted := (s.ports.get l).shifted ++ carriedOut x arrived.length
        flags := if x.frame.length ≤ x.clocked + arrived.length then (s.ports.get l).flags &&& ~~~x.reported
          else (s.ports.get l).flags } })
      ∧ (c.toInstr l payload).request? = some (l, c, payload))
  ∧ (∀ (l : Link) (arrived : List Byte) (x : Exchange) (s : State),
      (s.ports.get l).exchange = some x → x.busy = false → x.abandoned = false → x.own = 0 →
      (let p := s.ports.get l
       let bytes := (p.buffer ++ arrived).take 60
       let idle := { p with
         state := .idle, exchange := none, buffer := [], shifted := p.shifted ++ carriedOut x arrived.length
         flags := if x.frame.length ≤ x.clocked + arrived.length then p.flags &&& ~~~x.reported else p.flags }
       (∀ code payload extra, p.buffer ++ arrived = requestFrame code payload ++ extra → (∀ c : Command, c.code ≠ code) →
          payload.length ≤ 56 →
          exec (.exchangeEnd l arrived) s = .next (conclude { s with ports := s.ports.set l { idle with
            held := some ⟨.unknownCommand, code, []⟩ } }))
       ∧ (∀ (c : Command) payload extra, p.buffer ++ arrived = requestFrame c.code payload ++ extra →
          c.acceptedOn l = false → payload.length ≤ 56 →
          exec (.exchangeEnd l arrived) s = .next (conclude { s with ports := s.ports.set l { idle with
            held := some ⟨.notPermitted, c.code, []⟩ } }))
       ∧ (bytes.head? ≠ some 0xB5#8 ∨ bytes.length < 3 ∨ 56 < (bytes.getD 2 0).toNat
            ∨ bytes.length < (bytes.getD 2 0).toNat + 4
            ∨ crc8 ((bytes.drop 1).take ((bytes.getD 2 0).toNat + 2)) ≠ bytes.getD ((bytes.getD 2 0).toNat + 3) 0 →
          exec (.exchangeEnd l arrived) s = .next (conclude { s with ports := s.ports.set l { idle with
            held := some ⟨.frameError, bytes.getD 1 0, []⟩, frameErrors := p.frameErrors + 1
            pending := maskAdd p.pending Event.linkError.index } }))))

/-- LINK_TIMEOUT (R152, R157): an exchange begun in IDLE whose request frame is not complete is abandoned; any other keeps what it
has received; in every exchange as many bytes as arrive are shifted out, those of its frame and then bytes of 0x00. EXCHANGE_END of a busy exchange (R151, R156) disturbs neither the request in work nor an answer that
came; of an abandoned one (R157) leaves the FRAME_ERROR response held; with no exchange in progress neither does
anything (log 8). The link flags at EXCHANGE_END (R158): when the whole response frame was shifted out the flags it
reported are removed, but a flag that the exchange added and did not report stays; when it was not, every flag stays. -/
def Obligations.BusyAndAbandonedExchanges : Prop :=
  ((∀ (l : Link) (arrived : List Byte) (s : State),
        (let p := s.ports.get l
         (p.exchange = none → exec (.linkTimeout l arrived) s = .next (conclude s))
         ∧ (∀ x, p.exchange = some x →
            (let clocked := x.clocked + arrived.length
             let bytes := (p.buffer ++ arrived).take 60
             let out := p.shifted ++ carriedOut x arrived.length
             (x.busy = true ∨ x.abandoned = true →
                exec (.linkTimeout l arrived) s = .next (conclude { s with ports := s.ports.set l { p with
                  shifted := out, exchange := some { x with clocked := clocked } } }))
             ∧ (x.busy = false → x.abandoned = false → 3 ≤ clocked → (bytes.getD 2 0).toNat + 4 ≤ clocked →
                exec (.linkTimeout l arrived) s = .next (conclude { s with ports := s.ports.set l { p with
                  buffer := bytes, shifted := out, exchange := some { x with clocked := clocked } } }))
             ∧ (x.busy = false → x.abandoned = false → clocked < 3 ∨ clocked < (bytes.getD 2 0).toNat + 4 →
                exec (.linkTimeout l arrived) s = .next (conclude { s with ports := s.ports.set l { p with
                  buffer := bytes, held := some ⟨.frameError, bytes.getD 1 0, []⟩, flags := p.flags ||| 2
                  timeouts := p.timeouts + 1, shifted := out
                  exchange := some { x with clocked := clocked, abandoned := true, own := x.own ||| 2 } } }))))))
    ∧ (∀ (l : Link) (arrived : List Byte) (s : State), s.sensors.resetPin = false →
        (let p := s.ports.get l
         (p.exchange = none → exec (.exchangeEnd l arrived) s = .next (conclude s))
         ∧ (∀ x, p.exchange = some x → x.busy = true →
            ∃ t, exec (.exchangeEnd l arrived) s = .next t
              ∧ t.ports.get l = { p with
                  exchange := none, state := (if p.work.isSome then .working else .idle), flags := (t.ports.get l).flags
                  shifted := p.shifted ++ carriedOut x arrived.length }
              ∧ t = conclude { s with ports := t.ports, choices := t.choices }
              ∧ ∀ k, k ≠ l → t.ports.get k = s.ports.get k)
         ∧ (∀ x, p.exchange = some x → x.busy = false → x.abandoned = true →
            ∃ t, exec (.exchangeEnd l arrived) s = .next t
              ∧ t.ports.get l = { p with
                  exchange := none, state := .idle, buffer := [], flags := (t.ports.get l).flags
                  shifted := p.shifted ++ carriedOut x arrived.length }
              ∧ t = conclude { s with ports := t.ports, choices := t.choices }
              ∧ ∀ k, k ≠ l → t.ports.get k = s.ports.get k))))
  ∧ (∀ (l : Link) (arrived : List Byte) (x : Exchange) (s : State), s.sensors.resetPin = false →
      (s.ports.get l).exchange = some x → ∃ t, exec (.exchangeEnd l arrived) s = .next t
        ∧ (x.clocked + arrived.length < x.frame.length → (t.ports.get l).flags = (s.ports.get l).flags)
        ∧ (x.frame.length ≤ x.clocked + arrived.length → ∀ k : Nat,
            (x.reported.getLsbD k = false → (t.ports.get l).flags.getLsbD k = (s.ports.get l).flags.getLsbD k)
            ∧ (x.reported.getLsbD k = true → x.own.getLsbD k = false → (t.ports.get l).flags.getLsbD k = false)))

/-- The CRC-8 (R165): byte by byte, eight steps each; every frame shifted out carries it and a frame is sound only with
it; the two worked frames. The CRC of a span followed by its own CRC is 0, and two spans that differ in one byte never
have the same CRC. The catalogue (R155, R166): each command has the byte of its row, no other byte names one, and the
links that accept it follow from the byte. The code tables and mask orders (R154, R164), each in its order from 0. -/
def Obligations.CrcAndCatalogue : Prop :=
  (crc8 [] = 0
    ∧ (∀ (bs : List Byte) (b : Byte), crc8 (bs ++ [b]) =
        (fun v : Byte => if 128 ≤ v.toNat then BitVec.ofNat 8 (2 * v.toNat) ^^^ 7#8 else BitVec.ofNat 8 (2 * v.toNat))^[8]
          (crc8 bs ^^^ b))
    ∧ (∀ (flags : BitVec 2) (r : Response), ∃ span, responseFrame flags r = 0xB5#8 :: (span ++ [crc8 span]))
    ∧ (∀ buffer : List Byte, frameSound buffer = true →
        crc8 ((buffer.drop 1).take ((buffer.getD 2 0).toNat + 2)) = buffer.getD ((buffer.getD 2 0).toNat + 3) 0)
    ∧ (∀ bs : List Byte, crc8 (bs ++ [crc8 bs]) = 0)
    ∧ ∀ (front back : List Byte) (x y : Byte), crc8 (front ++ x :: back) = crc8 (front ++ y :: back) → x = y)
  ∧ ((∀ c : Command, Command.ofCode c.code = some c)
    ∧ (∀ (b : Byte) (c : Command), Command.ofCode b = some c → c.code = b)
    ∧ (∀ c : Command, (c.acceptedOn .inspection = true ↔ c.code.toNat ≤ 0x0D ∨ (0x40 ≤ c.code.toNat ∧ c.code.toNat ≤ 0x41))
        ∧ (c.acceptedOn .packer = true ↔ c.code.toNat ≤ 0x0D ∨ 0x60 ≤ c.code.toNat)
        ∧ (c.acceptedOn .line = true ↔ c.code.toNat ≤ 0x2E))
    ∧ (∀ x ∈ ([
        (.collect, 0x01#8), (.readStatus, 0x02#8), (.readEvents, 0x03#8), (.ackEvents, 0x04#8),
        (.enableEvents, 0x05#8), (.disableEvents, 0x06#8), (.readCounters, 0x07#8), (.feedHold, 0x08#8),
        (.feedRelease, 0x09#8), (.inhibitStation, 0x0A#8), (.releaseStation, 0x0B#8), (.halt, 0x0C#8),
        (.readRecord, 0x0D#8), (.writeGeometry, 0x20#8), (.commitGeometry, 0x21#8), (.releaseGeometry, 0x22#8),
        (.writeBank, 0x23#8), (.validateBank, 0x24#8), (.readBank, 0x25#8), (.armChangeover, 0x26#8),
        (.disarm, 0x27#8), (.start, 0x28#8), (.drain, 0x29#8), (.clearHalt, 0x2A#8), (.lineReset, 0x2B#8),
        (.readHaltRecord, 0x2C#8), (.readDrift, 0x2D#8), (.clearHolds, 0x2E#8), (.readTriggers, 0x40#8),
        (.verdict, 0x41#8), (.setBatchSize, 0x60#8), (.closeBatch, 0x61#8), (.peekBatch, 0x62#8),
        (.takeBatch, 0x63#8)]
        : List (Command × Byte)), x.1.code = x.2)
    ∧ requestFrame Command.collect.code [] = [0xB5#8, 0x01#8, 0x00#8, 0x15#8]
    ∧ responseFrame 0 ⟨.noResponse, 0, []⟩ = [0xB5#8, 0x10#8, 0x00#8, 0x00#8, 0x00#8, 0x67#8])
  ∧ ((∀ x ∈ ([
        (.ok, 0x00#8), (.frameError, 0x01#8), (.unknownCommand, 0x02#8), (.notPermitted, 0x03#8),
        (.badArgument, 0x04#8), (.wrongState, 0x05#8), (.bankInUse, 0x06#8), (.locked, 0x07#8), (.tooLate, 0x08#8),
        (.unknownSeq, 0x09#8), (.duplicate, 0x0A#8), (.notExpected, 0x0B#8), (.mismatch, 0x0C#8), (.empty, 0x0D#8),
        (.alreadyPending, 0x0E#8), (.invalidBank, 0x0F#8), (.noResponse, 0x10#8), (.busy, 0x11#8)]
        : List (Status × Byte)), x.1.code = x.2)
    ∧ [LineState.config, .ready, .run, .drain, .halt].map LineState.code = List.range 5
    ∧ [BankState.empty, .staging, .valid, .armed, .active, .draining].map BankState.code = List.range 6
    ∧ [Work.notDue, .due, .done, .skipped].map Work.code = List.range 4
    ∧ [Verdict.notRequired, .pending, .uninspected, .good, .bad].map Verdict.code = List.range 5
    ∧ [Fate.undecided, .pass, .passUnverified, .reject].map Fate.code = List.range 4
    ∧ [CloseCause.full, .command, .changeover, .drain, .purge].map CloseCause.code = List.range 5
    ∧ [HaltCause.estop, .jam, .haltCommand, .encoderFault, .reverse, .overspeed].map HaltCause.index = List.range 6
    ∧ [Link.line, .inspection, .packer].map linkIndex = List.range 3
    ∧ [BankId.bank0, .bank1].map BankId.code = List.range 2
    ∧ [CounterGroup.production, .reasons, .quality, .timing, .link].map CounterGroup.code = List.range 5
    ∧ [Reason.markMissing, .doubleMark, .regOutOfTol, .patchMissing, .stationInhibited, .gumFault, .foldFault,
          .verdictBad, .verdictMissing, .disturbed, .jogged].map Reason.index = List.range 11
    ∧ [Event.halted, .drained, .batchClosed, .backlog, .overfill, .triggersWaiting, .triggerOverflow,
          .changeoverTaken, .bankReleased, .driftAlert, .feedInhibited, .stray, .linkError].map Event.index = List.range 13
    ∧ [FeedCause.packerBacklog, .gumLow, .patchSupply, .holdLine, .holdInspection, .holdPacker].map FeedCause.index = List.range 6
    ∧ [false, true].map yesNo = List.range 2
    ∧ (List.range 4).map (fun k => stationArgument [BitVec.ofNat 8 k])
          = [some [.patch], some [.gum], some [.inspect], some [.patch, .gum, .inspect]]
    ∧ (List.range 2).map (fun k => (verdictArgument [0, 0, 0, BitVec.ofNat 8 k, 0]).map fun x => x.2.1) = [some .good, some .bad]
    ∧ (List.range 5).map (fun k => groupArgument [BitVec.ofNat 8 k])
          = [some .production, some .reasons, some .quality, some .timing, some .link])

/-! ## Every request -/

/-- A request whose payload has not the length that R166 gives, or carries an argument out of its range, is answered
BAD_ARGUMENT in every state and changes nothing else (R153). -/
def Obligations.UnfitRequestsAreBadArguments : Prop :=
  ∀ (i : Instr) (l : Link) (c : Command) (p : List Byte) (s : State),
    i.request? = some (l, c, p) → commandFits c p = false → exec i s = .next (s.answered l c .badArgument [])

/-- Every request is answered (R151, R153, R154, R156): its link holds a response of one of the owner's statuses that
echoes the command, with no request in work; the other links only gain pending events; and an answer other than OK changes
nothing outside the port but the verdict counters of R96. -/
def Obligations.EveryRequestIsAnswered : Prop :=
  ∀ (i : Instr) (l : Link) (c : Command) (p : List Byte) (s : State), s.sensors.resetPin = false →
    i.request? = some (l, c, p) → ∃ t r, exec i s = .next t ∧ (t.ports.get l).held = some r ∧ r.echo = c.code ∧ r.status.ofOwner = true
      ∧ r.payload.length ≤ 45
      ∧ (t.ports.get l).work = none
      ∧ (t.ports.get l).state = (if (s.ports.get l).exchange.isSome then (s.ports.get l).state else .idle)
      ∧ (t.ports.get l).exchange = (s.ports.get l).exchange
      ∧ (∀ k, k ≠ l → t.ports.get k = { s.ports.get k with pending := (t.ports.get k).pending }
          ∧ (s.ports.get k).pending &&& ~~~(t.ports.get k).pending = 0)
      ∧ (r.status ≠ .ok → t = State.answered
          { s with verdicts := { s.verdicts with
              lateVerdicts := t.verdicts.lateVerdicts, verdictsRefused := t.verdicts.verdictsRefused } }
          l c r.status r.payload)
      ∧ (r.status ≠ .ok → c ≠ .verdict → t = s.answered l c r.status r.payload)

/-! ## The port's own requests and the reads -/

/-- COLLECT, READ STATUS, READ EVENTS and READ COUNTERS (R160 to R162, R169): the bytes they answer; they change nothing. ACK
EVENTS, ENABLE EVENTS and DISABLE EVENTS (R160) act on the sets of the port that receives them, and on nothing else. -/
def Obligations.PortRequestsReadAndAcknowledge : Prop :=
  (∀ (l : Link) (s : State),
      exec (.collect l []) s = .next (s.answered l .collect .ok [])
      ∧ exec (.readStatus l []) s = .next (s.answered l .readStatus .ok
          [BitVec.ofNat 8 s.line.state.code, s.line.feedInhibit.setWidth 8,
            BitVec.ofNat 8 ((if s.line.holders.patch = 0 then 0 else 1) + (if s.line.holders.gum = 0 then 0 else 2)
              + (if s.line.holders.inspect = 0 then 0 else 4)),
            (match activeBank s with | none => 0xFF#8 | some .bank0 => 0#8 | some .bank1 => 1#8),
            BitVec.ofNat 8 (bankState s .bank0).code, BitVec.ofNat 8 (bankState s .bank1).code,
            BitVec.ofNat 8 s.chain.records.length, BitVec.ofNat 8 s.batch.queue.length,
            (if s.batch.openBatch = none then 0#8 else 1#8),
            BitVec.ofNat 8 (s.batch.openBatch.elim 0 OpenBatch.count),
            BitVec.ofNat 8 (s.batch.openBatch.elim 0 OpenBatch.count / 256),
            BitVec.ofNat 8 s.shaft.reverseDebt, (if s.shaft.periodValid then 1#8 else 0#8)])
      ∧ exec (.readEvents l []) s = .next (s.answered l .readEvents .ok
          [(s.ports.get l).pending.setWidth 8, BitVec.ofNat 8 ((s.ports.get l).pending.toNat / 256),
            (s.ports.get l).enable.setWidth 8, BitVec.ofNat 8 ((s.ports.get l).enable.toNat / 256)])
      ∧ ∀ g : Nat, g ≤ 4 → exec (.readCounters l [BitVec.ofNat 8 g]) s = .next (s.answered l .readCounters .ok
          (BitVec.ofNat 8 g :: (match g with
            | 0 => [s.chain.fed, s.chain.good, s.chain.rejected, s.chain.purged]
            | 1 =>
              let c := s.verdicts.reasonCounts
              [c.markMissing, c.doubleMark, c.regOutOfTol, c.patchMissing, c.stationInhibited, c.gumFault, c.foldFault,
                c.verdictBad, c.verdictMissing, c.disturbed, c.jogged]
            | 2 =>
              [s.verdicts.unverifiedPasses, s.verdicts.lateVerdicts, s.verdicts.verdictsRefused,
                s.verdicts.triggerOverflows]
            | 3 =>
              [s.registration.strayMarks, s.registration.strayPatches, s.gumFold.strayBlanks, s.firing.lateOpens,
                s.firing.leadClamps, s.firing.widthClamps, s.batch.separationMissed]
            | _ => [(s.ports.get l).frameErrors, (s.ports.get l).overruns, (s.ports.get l).timeouts]).flatMap
              fun n : Counter => [n.setWidth 8, (n >>> 8).setWidth 8, (n >>> 16).setWidth 8, (n >>> 24).setWidth 8])))
  ∧ (∀ (l : Link) (lo hi : Byte) (s : State), hi.toNat < 32 →
      (let named := BitVec.ofNat 13 (lo.toNat + 256 * hi.toNat)
       let p := s.ports.get l
       exec (.ackEvents l [lo, hi]) s = .next (State.answered
          { s with ports := s.ports.set l { p with pending := p.pending &&& ~~~named } } l .ackEvents .ok [])
       ∧ exec (.enableEvents l [lo, hi]) s = .next (State.answered
          { s with ports := s.ports.set l { p with enable := p.enable ||| named } } l .enableEvents .ok [])
       ∧ exec (.disableEvents l [lo, hi]) s = .next (State.answered
          { s with ports := s.ports.set l { p with enable := p.enable &&& ~~~named } } l .disableEvents .ok [])))

/-- READ RECORD (R35), READ HALT RECORD (R143), READ DRIFT (R71), READ BANK (R125) and PEEK BATCH (R115): what they
answer; they change nothing. The layouts of the blank record, the batch record and the halt record (R167), byte by byte.
The byte of the drift alert is the model's choice (log 27). -/
def Obligations.RecordReadsAnswerInTheirLayouts : Prop :=
  (∀ (l : Link) (s : State),
      (∀ n : Nat, n ≤ 47 →
          exec (.readRecord l [0#8, BitVec.ofNat 8 n, 0#8, 0#8]) s = .next (match recordAt s n with
            | none => s.answered l .readRecord .empty []
            | some r => s.answered l .readRecord .ok (recordBytes r)))
      ∧ (∀ q : Seq,
          exec (.readRecord l [1#8, q.setWidth 8, (q >>> 8).setWidth 8, (q >>> 16).setWidth 8]) s
            = .next (match recordBySeq s q with
              | none => s.answered l .readRecord .unknownSeq []
              | some r => s.answered l .readRecord .ok (recordBytes r)))
      ∧ exec (.readHaltRecord []) s
          = .next (s.answered .line .readHaltRecord .ok (haltRecordBytes s.line.haltRecord))
      ∧ exec (.readDrift []) s = .next (s.answered .line .readDrift .ok
          ((leBytes 2 (BitVec.ofInt 16 s.registration.m16).toNat ++ [if s.registration.driftAlert then 1#8 else 0#8])
            ++ leBytes 4 s.registration.accepted.toNat))
      ∧ (∀ (b : BankId) (g : FieldGroup),
          exec (.readBank [BitVec.ofNat 8 b.code, BitVec.ofNat 8 g.number]) s = .next (s.answered .line .readBank .ok
            (BitVec.ofNat 8 (bankState s b).code :: BitVec.ofNat 8 g.number :: readGroup g (fieldsOf s b))))
      ∧ exec (.peekBatch []) s = .next (match s.batch.queue with
          | [] => s.answered .packer .peekBatch .empty []
          | b :: _ => s.answered .packer .peekBatch .ok (batchBytes b)))
  ∧ ((∀ r : Record, recordBytes r =
      [r.seq.setWidth 8, (r.seq >>> 8).setWidth 8, (r.seq >>> 16).setWidth 8, BitVec.ofNat 8 r.bank.code,
        BitVec.ofNat 8 r.position, r.reasons.setWidth 8, BitVec.ofNat 8 (r.reasons.toNat / 256),
        BitVec.ofNat 8 ((if r.regError = none then 0 else 1) + (if r.shift = none then 0 else 2)
          + (if r.verdictCause = none then 0 else 4)),
        (BitVec.ofInt 16 (r.regError.getD 0)).setWidth 8, ((BitVec.ofInt 16 (r.regError.getD 0)) >>> 8).setWidth 8,
        (BitVec.ofInt 16 (r.shift.getD 0)).setWidth 8, ((BitVec.ofInt 16 (r.shift.getD 0)) >>> 8).setWidth 8,
        BitVec.ofNat 8 r.patched.code, BitVec.ofNat 8 r.gummed.code, BitVec.ofNat 8 r.verdict.code,
        BitVec.ofNat 8 (r.verdictCause.getD 0), BitVec.ofNat 8 r.fate.code, if r.counted then 1#8 else 0#8])
    ∧ (∀ b : BatchRecord, batchBytes b =
      [BitVec.ofNat 8 b.number, BitVec.ofNat 8 (b.number / 256), BitVec.ofNat 8 b.bank.code,
        BitVec.ofNat 8 b.recipeTag, BitVec.ofNat 8 (b.recipeTag / 256), BitVec.ofNat 8 b.size,
        BitVec.ofNat 8 (b.size / 256), BitVec.ofNat 8 b.count, BitVec.ofNat 8 (b.count / 256),
        b.firstSeq.setWidth 8, (b.firstSeq >>> 8).setWidth 8, (b.firstSeq >>> 16).setWidth 8,
        b.lastSeq.setWidth 8, (b.lastSeq >>> 8).setWidth 8, (b.lastSeq >>> 16).setWidth 8,
        BitVec.ofNat 8 b.unverified, BitVec.ofNat 8 (b.unverified / 256), BitVec.ofNat 8 b.cause.code,
        BitVec.ofNat 8 ((if b.overfill then 1 else 0) + (if b.separationMissed then 2 else 0))])
    ∧ (∀ h : HaltRecord, haltRecordBytes h =
      [BitVec.ofNat 8 ((if h.firstCause = none then 0 else 1) + (if h.haltingLink = none then 0 else 2)
          + (if h.stateLeft = none then 0 else 4) + (if h.phaseAtEntry = none then 0 else 8)
          + (if h.seqAtGate = none then 0 else 16)),
        BitVec.ofNat 8 (h.firstCause.elim 0 HaltCause.index), BitVec.ofNat 8 (h.haltingLink.elim 0 linkIndex),
        BitVec.ofNat 8 (h.stateLeft.elim 0 LineState.code), BitVec.ofNat 8 (h.phaseAtEntry.getD 0),
        BitVec.ofNat 8 (h.phaseAtEntry.getD 0 / 256), (h.seqAtGate.getD 0).setWidth 8,
        ((h.seqAtGate.getD 0) >>> 8).setWidth 8, ((h.seqAtGate.getD 0) >>> 16).setWidth 8, h.further.setWidth 8,
        h.count.setWidth 8, (h.count >>> 8).setWidth 8]))

/-! ## Holds -/

/-- FEED HOLD and FEED RELEASE (R146): the sending link's hold alone is set or cleared. CLEAR HOLDS (R148): all three holds and
holder sets are cleared, PACKER_BACKLOG, GUM_LOW and PATCH_SUPPLY staying as they are; the line link alone may send it.
INHIBIT STATION and RELEASE STATION (R147): the sending link joins or leaves the holder set of the station named, or of
all three. -/
def Obligations.HoldsBelongToTheirLinks : Prop :=
  (∀ l : Link, Command.feedHold.acceptedOn l = true ∧ Command.feedRelease.acceptedOn l = true
      ∧ (Command.clearHolds.acceptedOn l = true ↔ l = .line)) ∧
  (∀ (l : Link) (s : State),
      (let hold := BitVec.twoPow 6 (3 + linkIndex l)
       exec (.feedHold l []) s = .next (conclude { s with
          line := { s.line with feedInhibit := s.line.feedInhibit ||| hold }
          ports := portsAnswered l .feedHold .ok []
            (if s.line.feedInhibit = 0 ∧ s.line.state = .run then [.feedInhibited] else []) s.ports })
       ∧ exec (.feedRelease l []) s = .next (State.answered
          { s with line := { s.line with feedInhibit := s.line.feedInhibit &&& ~~~hold } } l .feedRelease .ok [])
       ∧ exec (.clearHolds []) s = .next (State.answered
          { s with line := { s.line with feedInhibit := s.line.feedInhibit &&& 7, holders := ⟨0, 0, 0⟩ } }
          .line .clearHolds .ok [])))
  ∧ (∀ (l : Link) (k : Nat) (s : State), k ≤ 3 →
      (let me := BitVec.twoPow 3 (linkIndex l)
       let changed := fun (f : BitVec 3 → BitVec 3) => (
         { patch := if k = 0 ∨ k = 3 then f s.line.holders.patch else s.line.holders.patch
           gum := if k = 1 ∨ k = 3 then f s.line.holders.gum else s.line.holders.gum
           inspect := if k = 2 ∨ k = 3 then f s.line.holders.inspect else s.line.holders.inspect }
         : PerStation (BitVec 3))
       exec (.inhibitStation l [BitVec.ofNat 8 k]) s = .next (State.answered
          { s with line := { s.line with holders := changed (fun m => m ||| me) } } l .inhibitStation .ok [])
       ∧ exec (.releaseStation l [BitVec.ofNat 8 k]) s = .next (State.answered
          { s with line := { s.line with holders := changed (fun m => m &&& ~~~me) } } l .releaseStation .ok [])))

/-! ## The line link's requests: geometry -/

/-- The geometry record of WRITE GEOMETRY (R135, R168): every record whose fields fit the layout travels whole, each field at its
offset. A group of bank
fields (R123, R125, R168): what WRITE BANK stores of one group READ BANK answers again, and the other groups keep their
values; each field stands at its offset of the group's layout (R168), least significant byte first. -/
def Obligations.StoredRecordsTravelWhole : Prop :=
  (∀ g : Geometry,
      (∀ v ∈ [g.cpp, g.indexCount], v < 65536) →
      (∀ v ∈ [g.indexCheck, g.posMark, g.posCut, g.posPatch, g.posGum, g.posFold, g.posInspect, g.posGate, g.posCount,
        g.zoneFirst, g.zoneLast], v < 256) →
      (∀ ch : Channel, g.dtOn.get ch < 65536 ∧ g.dtOff.get ch < 65536) →
      geometryArgument
          (leBytes 2 g.cpp ++ leBytes 1 g.indexCheck ++ leBytes 2 g.indexCount
            ++ [g.posMark, g.posCut, g.posPatch, g.posGum, g.posFold, g.posInspect, g.posGate, g.posCount, g.zoneFirst,
                g.zoneLast].flatMap (leBytes 1)
            ++ Channel.all.flatMap fun ch => leBytes 2 (g.dtOn.get ch) ++ leBytes 2 (g.dtOff.get ch))
        = some g)
  ∧ (∀ (g : FieldGroup) (values : List Byte) (f : BankFields), values.length = g.size →
      readGroup g (writeGroup g values f) = values
      ∧ ∀ h : FieldGroup, h ≠ g → readGroup h (writeGroup g values f) = readGroup h f)
  ∧ (∀ (values : List Byte) (f : BankFields),
      (let one := fun i : Nat => (values.getD i 0).toNat
       let two := fun i : Nat => (values.getD i 0).toNat + 256 * (values.getD (i + 1) 0).toNat
       writeGroup .job values f = { f with
          recipeTag := two 0, inspectEnable := one 2, noVerdictFate := one 3, gateDecide := two 4, countPhase := two 6 }
       ∧ writeGroup .registration values f = { f with
          windowEnable := one 0, markExpected := two 1, markOpen := two 3, markClose := two 5, tol := two 7
          shiftMax := two 9, driftAlert := two 11, patchCheckOpen := two 13, patchCheckClose := two 15 }
       ∧ writeGroup .gumFold values f = { f with
          gumSeamEnable := one 0, gumFlapEnable := one 1, skipGumOnReject := one 2, foldCheckEnable := one 3
          foldOpen := two 4, foldClose := two 6 }
       ∧ (∀ ch : Channel, writeGroup (.channel ch) values f = { f with
          channels := f.channels.set ch { enable := one 0, onPhase := two 1, offPhase := two 3 } })
       ∧ (FieldGroup.job :: .registration :: .gumFold :: Channel.all.map .channel).map FieldGroup.number = List.range 13
       ∧ [FieldGroup.job.size, FieldGroup.registration.size, FieldGroup.gumFold.size] = [8, 17, 8]
       ∧ ∀ ch : Channel, (FieldGroup.channel ch).size = 5))

/-- WRITE GEOMETRY (R2, R135): in CONFIG every field takes the value sent, and a valid cpp that differs from the working cpp starts
the count, the phases, the debt and the index state again; elsewhere LOCKED. RELEASE GEOMETRY (R18, R77, R89, R137): in
READY with the chain empty the line goes to CONFIG, unlocked; elsewhere WRONG_STATE. That the settled flags of MARK and
PATCH, patch seen and fold seen keep their values, which R77 and R89 do not say, is the model's (DEDUCED, log 19). -/
def Obligations.GeometryIsWrittenAndReleased : Prop :=
  (∀ (p : List Byte) (g : Geometry) (s : State), geometryArgument p = some g →
      (s.line.state ≠ .config → exec (.writeGeometry p) s = .next (s.answered .line .writeGeometry .locked []))
      ∧ (s.line.state = .config →
          exec (.writeGeometry p) s = .next (State.answered { s with
            geometry := g
            shaft := if (512 ≤ g.cpp ∧ g.cpp ≤ 16384 ∧ g.cpp % 4 = 0) ∧ g.cpp ≠ s.shaft.workingCpp then
                { s.shaft with
                  workingCpp := g.cpp, count := 0, phase := 0, highWater := 0, reverseDebt := 0, mismatchRun := 0
                  boundariesSinceIndex := 0 }
              else s.shaft } .line .writeGeometry .ok [])))
  ∧ (∀ s : State,
      (s.line.state ≠ .ready ∨ s.chain.records ≠ [] →
        exec (.releaseGeometry []) s = .next (s.answered .line .releaseGeometry .wrongState []))
      ∧ (s.line.state = .ready → s.chain.records = [] →
        exec (.releaseGeometry []) s = .next (State.answered { s with
          shaft := { s.shaft with
            mismatchRun := 0, boundariesSinceIndex := 0, periodValid := false, timingQualified := false }
          registration := { s.registration with
            markWindow := .shut, patchOpen := false, markSubject := none, patchSubject := none }
          gumFold := { s.gumFold with foldOpen := false }
          line := { s.line with state := .config, locked := false } } .line .releaseGeometry .ok [])))

/-- The checks of COMMIT GEOMETRY (R136) and of VALIDATE BANK (R122, R124): none fails exactly when every field is in its range and
in its order; a failing check answers with its code, and no check of a lower code fails. Each code belongs to the check of
its row in the tables of R136 and R124. -/
def Obligations.ChecksFindTheFirstFailure : Prop :=
  (∀ g : Geometry,
      (firstFailure (geometryChecks g) = none ↔
        (512 ≤ g.cpp ∧ g.cpp ≤ 16384 ∧ 4 ∣ g.cpp) ∧ g.indexCheck ≤ 1 ∧ g.indexCount < g.cpp
        ∧ 1 ≤ g.posMark ∧ g.posMark < g.posCut ∧ g.posCut < g.posPatch ∧ g.posPatch < g.posGum ∧ g.posGum < g.posFold
        ∧ g.posFold < g.posInspect ∧ g.posInspect < g.posGate ∧ g.posGate < g.posCount ∧ g.posCount ≤ 47
        ∧ g.zoneFirst ≤ g.zoneLast ∧ g.zoneLast < g.posGate
        ∧ ∀ ch : Channel, g.dtOn.get ch ≤ 20000 ∧ g.dtOff.get ch ≤ 20000)
      ∧ ∀ code, firstFailure (geometryChecks g) = some code →
          (code, false) ∈ geometryChecks g ∧ ∀ x ∈ geometryChecks g, x.1 < code → x.2 = true)
  ∧ (∀ (g : Geometry) (code : Nat) (holds : Bool), (code, holds) ∈ geometryChecks g ↔
      (code, holds) ∈ [(1, decide (512 ≤ g.cpp ∧ g.cpp ≤ 16384 ∧ g.cpp % 4 = 0)), (2, decide (g.indexCheck ≤ 1)),
          (3, decide (g.indexCount < g.cpp)), (4, decide (1 ≤ g.posMark ∧ g.posMark ≤ 47)),
          (5, decide (1 ≤ g.posCut ∧ g.posCut ≤ 47 ∧ g.posMark < g.posCut)),
          (6, decide (1 ≤ g.posPatch ∧ g.posPatch ≤ 47 ∧ g.posCut < g.posPatch)),
          (7, decide (1 ≤ g.posGum ∧ g.posGum ≤ 47 ∧ g.posPatch < g.posGum)),
          (8, decide (1 ≤ g.posFold ∧ g.posFold ≤ 47 ∧ g.posGum < g.posFold)),
          (9, decide (1 ≤ g.posInspect ∧ g.posInspect ≤ 47 ∧ g.posFold < g.posInspect)),
          (10, decide (1 ≤ g.posGate ∧ g.posGate ≤ 47 ∧ g.posInspect < g.posGate)),
          (11, decide (1 ≤ g.posCount ∧ g.posCount ≤ 47 ∧ g.posGate < g.posCount)),
          (12, decide (g.zoneFirst ≤ g.zoneLast)), (13, decide (g.zoneLast < g.posGate))]
      ∨ ∃ ch : Channel, (code = 32 + 2 * ch.number ∧ holds = decide (g.dtOn.get ch ≤ 20000))
          ∨ (code = 33 + 2 * ch.number ∧ holds = decide (g.dtOff.get ch ≤ 20000)))
  ∧ (∀ f : BankFields,
      (firstFailure (bankChecks f) = none ↔
        (∀ v ∈ [f.inspectEnable, f.noVerdictFate, f.windowEnable, f.gumSeamEnable, f.gumFlapEnable, f.skipGumOnReject,
          f.foldCheckEnable], v ≤ 1)
        ∧ (∀ v ∈ [f.gateDecide, f.countPhase, f.markExpected], v ≤ 4095)
        ∧ (f.markOpen < f.markClose ∧ f.markClose ≤ 4095)
        ∧ (f.patchCheckOpen < f.patchCheckClose ∧ f.patchCheckClose ≤ 4095)
        ∧ (f.foldOpen < f.foldClose ∧ f.foldClose ≤ 4095)
        ∧ f.tol ≤ 1024 ∧ f.shiftMax ≤ 512 ∧ 1 ≤ f.driftAlert ∧ f.driftAlert ≤ 1024
        ∧ ∀ ch : Channel, (f.channels.get ch).enable ≤ 1 ∧ (f.channels.get ch).offPhase ≤ 4095
            ∧ (f.channels.get ch).onPhase + 16 ≤ (f.channels.get ch).offPhase
            ∧ (f.channels.get ch).offPhase ≤ (f.channels.get ch).onPhase + 2048)
      ∧ ∀ code, firstFailure (bankChecks f) = some code →
          (code, false) ∈ bankChecks f ∧ ∀ x ∈ bankChecks f, x.1 < code → x.2 = true)
  ∧ (∀ (f : BankFields) (code : Nat) (holds : Bool), (code, holds) ∈ bankChecks f ↔
      (code, holds) ∈ [(1, decide (f.inspectEnable ≤ 1)), (2, decide (f.noVerdictFate ≤ 1)),
          (3, decide (f.gateDecide ≤ 4095)), (4, decide (f.countPhase ≤ 4095)), (5, decide (f.windowEnable ≤ 1)),
          (6, decide (f.markExpected ≤ 4095)), (7, decide (f.markOpen < f.markClose ∧ f.markClose ≤ 4095)),
          (8, decide (f.tol ≤ 1024)), (9, decide (f.shiftMax ≤ 512)),
          (10, decide (1 ≤ f.driftAlert ∧ f.driftAlert ≤ 1024)),
          (11, decide (f.patchCheckOpen < f.patchCheckClose ∧ f.patchCheckClose ≤ 4095)),
          (12, decide (f.gumSeamEnable ≤ 1)), (13, decide (f.gumFlapEnable ≤ 1)),
          (14, decide (f.skipGumOnReject ≤ 1)), (15, decide (f.foldCheckEnable ≤ 1)),
          (16, decide (f.foldOpen < f.foldClose ∧ f.foldClose ≤ 4095))]
      ∨ ∃ ch : Channel,
          (let w := f.channels.get ch
           (code = 32 + 2 * ch.number ∧ holds = decide (w.enable ≤ 1))
           ∨ (code = 33 + 2 * ch.number ∧ holds = decide (w.onPhase < w.offPhase ∧ w.offPhase ≤ 4095
                ∧ 16 ≤ (w.offPhase : Int) - w.onPhase ∧ (w.offPhase : Int) - w.onPhase ≤ 2048))))
  ∧ (∀ ch : Channel, Channel.all[ch.number]? = some ch)

/-- COMMIT GEOMETRY (R18, R77, R89, R136, R140): LOCKED outside CONFIG; BAD_ARGUMENT with the code of the failing check;
otherwise READY with the geometry locked, and HALT at once where ESTOP or JAM is active; with both, the one taken first is
first. That the settled flags of MARK and PATCH, patch seen and fold seen keep their values, which R77 and R89 do not say,
is the model's (DEDUCED, log 19). -/
def Obligations.CommitGeometryLocksTheLine : Prop :=
  ∀ s : State,
    (s.line.state ≠ .config → exec (.commitGeometry []) s = .next (s.answered .line .commitGeometry .locked []))
    ∧ (s.line.state = .config →
        (∀ code, firstFailure (geometryChecks s.geometry) = some code →
          exec (.commitGeometry []) s
            = .next (s.answered .line .commitGeometry .badArgument [BitVec.ofNat 8 code]))
        ∧ (firstFailure (geometryChecks s.geometry) = none →
            (let ready := { s with
              shaft := { s.shaft with
                reverseDebt := 0, mismatchRun := 0, boundariesSinceIndex := 0, periodValid := false
                timingQualified := false }
              registration := { s.registration with
                markWindow := .shut, patchOpen := false, markSubject := none, patchSubject := none }
              gumFold := { s.gumFold with foldOpen := false }
              line := { s.line with state := .ready, locked := true } }
             (s.sensors.estop = false → s.sensors.jam = false →
                exec (.commitGeometry []) s = .next (ready.answered .line .commitGeometry .ok []))
             ∧ (s.sensors.estop = true → s.sensors.jam = false →
                exec (.commitGeometry []) s
                  = .next ((raiseCause .estop none ready).answered .line .commitGeometry .ok []))
             ∧ (s.sensors.estop = false → s.sensors.jam = true →
                exec (.commitGeometry []) s
                  = .next ((raiseCause .jam none ready).answered .line .commitGeometry .ok []))
             ∧ (s.sensors.estop = true → s.sensors.jam = true → s.sensors.resetPin = false →
                ∃ t, exec (.commitGeometry []) s = .next t ∧ t.line.state = .halt ∧ t.line.locked = true
                  ∧ ((t.line.haltRecord.firstCause = some .estop ∧ t.line.haltRecord.further = 2)
                    ∨ (t.line.haltRecord.firstCause = some .jam ∧ t.line.haltRecord.further = 1)))
             ∧ (s.sensors.estop = true → s.sensors.jam = true →
                ∃ x index, (x = raiseCause .jam none (raiseCause .estop none ready)
                    ∨ x = raiseCause .estop none (raiseCause .jam none ready))
                  ∧ exec (.commitGeometry []) s
                    = .next (State.answered { x with choices := index } .line .commitGeometry .ok [])))))

/-! ## The line link's requests: line states -/

/-- START (R9, R57, R138, R145): in READY with an active bank the line runs, with the period not valid and the gate hold on.
CLEAR HALT (R144): in HALT with ESTOP and JAM inactive the causes are forgotten and the line is READY, and an armed
changeover takes effect if the chain is empty. Elsewhere WRONG_STATE. The line link alone may send them. -/
def Obligations.StartRunsAndClearHaltReadies : Prop :=
  (∀ l : Link, (Command.start.acceptedOn l = true ↔ l = .line)
      ∧ (Command.clearHalt.acceptedOn l = true ↔ l = .line)) ∧
  (∀ s : State,
      (s.line.state ≠ .ready ∨ activeBank s = none →
        exec (.start []) s = .next (s.answered .line .start .wrongState []))
      ∧ (s.line.state = .ready → activeBank s ≠ none →
        exec (.start []) s = .next (conclude { s with
          shaft := { s.shaft with periodValid := false, timingQualified := false }
          firing := { s.firing with gateHold := true }
          line := { s.line with state := .run }
          ports := portsAnswered .line .start .ok []
            (if s.line.feedInhibit = 0 then [] else [.feedInhibited]) s.ports })))
  ∧ (∀ s : State,
      (s.line.state ≠ .halt ∨ s.sensors.estop = true ∨ s.sensors.jam = true →
        exec (.clearHalt []) s = .next (s.answered .line .clearHalt .wrongState []))
      ∧ (s.line.state = .halt → s.sensors.estop = false → s.sensors.jam = false →
        (let ready := { s with line := { s.line with
            state := .ready
            haltRecord := { s.line.haltRecord with firstCause := none, haltingLink := none, further := 0 } } }
         exec (.clearHalt []) s = .next (State.answered
            (if s.chain.records = [] then takeChangeover ready else ready) .line .clearHalt .ok []))))

/-- DRAIN (R139, R118): in RUN the close flag is stored and the line drains; with the chain empty the drain is completed
at once; elsewhere WRONG_STATE. The chain-empty notice (R31, R129, R139): in DRAIN it completes the drain, with the close
flag that DRAIN stored; in READY an armed changeover takes effect; in RUN, HALT and CONFIG it does nothing. A drain
completed (R118, R129, R139, R140): what every block holds after it, and the events posted, DRAINED among them, to all
three ports. The notice is given at the forward boundary that empties the chain (R31), here with no halt cause raised.
That patch seen and fold seen keep their values as a drain is completed, which no rule says, is the model's (DEDUCED,
log 19); the settled flags are kept as R63 and R85 say. -/
def Obligations.DrainEndsWithTheChainEmpty : Prop :=
  (∀ (close : Bool) (s : State),
    (let flag := if close then 1#8 else 0#8
     (s.line.state ≠ .run → exec (.drain [flag]) s = .next (s.answered .line .drain .wrongState []))
     ∧ (s.line.state = .run → s.chain.records ≠ [] →
        exec (.drain [flag]) s = .next (State.answered
          { s with line := { s.line with state := .drain, closeFlag := some close } } .line .drain .ok []))
     ∧ (s.line.state = .run → s.chain.records = [] → s.sensors.resetPin = false →
        ∃ t, exec (.drain [flag]) s = .next t ∧ DrainCompleted close s t
          ∧ t.ports = portsAnswered .line .drain .ok [] (drainEvents close s) s.ports)))
  ∧ (∀ s : State,
      (s.line.state = .config ∨ s.line.state = .run ∨ s.line.state = .halt → chainEmptyNotice s = s)
      ∧ (s.line.state = .ready → chainEmptyNotice s = takeChangeover s ∧ (armedBank s = none → chainEmptyNotice s = s)
          ∧ ∀ b, armedBank s = some b → bankState (chainEmptyNotice s) b = .active)
      ∧ (s.line.state = .drain → s.chain.records = [] →
          (let close := s.line.closeFlag == some true
           DrainCompleted close s (chainEmptyNotice s)
           ∧ (chainEmptyNotice s).ports = portsPosted (drainEvents close s) s.ports)))
  ∧ (∀ (elapsed : Nat) (level : Bool) (s : State), s.sensors.resetPin = false →
      s.shaft.workingCpp ≤ s.shaft.count + 1 → s.shaft.reverseDebt = 0 →
      BoundaryWithoutCause { s with shaft.pitchTimer := min (s.shaft.pitchTimer + elapsed) 2000001 } →
      s.chain.records ≠ [] →
      ∃ t, exec (.forwardCountStep elapsed level) s = .next t
        ∧ (s.line.state = .drain → t.chain.records ≠ [] →
            t.line.state = .drain ∧ t.line.closeFlag = s.line.closeFlag)
        ∧ (s.line.state = .drain → t.chain.records = [] →
            t.line.state = (if s.sensors.estop = true ∨ s.sensors.jam = true then .halt else .ready)
            ∧ t.line.closeFlag = none ∧ (s.line.closeFlag = some true → t.batch.openBatch = none)
            ∧ ∀ l, maskHas (t.ports.get l).pending Event.drained.index = true)
        ∧ (s.line.state = .drain ∨ s.line.state = .ready → t.chain.records = [] →
            ∀ b, armedBank s = some b → bankState t b = .active))

/-- LINE RESET (R18, R36, R70, R82, R89, R94, R114, R119, R130 to R132, R143, R149): in READY and HALT, what every block
holds after it, with the events posted; in the other states WRONG_STATE. With a bank ARMED its changeover is taken, and
the bank that was ACTIVE goes to VALID; a DRAINING bank is released. The fold window cannot open again in that pitch
(R89, log 30). That the settled flag of the fold goes to no with a record target and is kept otherwise is the model's
choice (log 21). -/
def Obligations.LineResetStartsTheLineAgain : Prop :=
  ∀ s : State,
    (s.line.state ≠ .ready → s.line.state ≠ .halt →
      exec (.lineReset []) s = .next (s.answered .line .lineReset .wrongState []))
    ∧ (s.line.state = .ready ∨ s.line.state = .halt → s.sensors.resetPin = false →
      (let purged := s.batch.openBatch.isSome
       let starts := purged && !s.batch.backlog && decide (11 ≤ s.batch.queue.length)
       let ends := purged && s.batch.backlog && decide (s.batch.queue.length + 1 ≤ 8)
       let levels := s.sensors.estop = true ∨ s.sensors.jam = true
       let armed := (armedBank s).isSome
       let released := [BankId.bank0, .bank1].any (fun b => bankState s b == .draining && bankNamed s b)
          || (armed && (activeBank s).isSome)
       ∃ t, exec (.lineReset []) s = .next t
        ∧ t.line.state = (if levels then .halt else .ready)
        ∧ t.chain = { s.chain with
            records := [], purged := s.chain.purged + BitVec.ofNat 32 s.chain.records.length }
        ∧ t.firing = s.firing ∧ t.geometry = s.geometry ∧ t.sensors = s.sensors
        ∧ t.verdicts = { s.verdicts with triggerLog := [] }
        ∧ t.batch = { s.batch with
            openBatch := none, closeRequest := false, kickMark := none, backlog := (s.batch.backlog || starts) && !ends
            queue := s.batch.queue ++ (s.batch.openBatch.map (OpenBatch.closed · .purge)).toList }
        ∧ t.registration = { s.registration with
            markSubject := none, markSettled := false, markWindow := .shut, patchSubject := none
            patchSettled := false, patchOpen := false, patchSeen := false, m16 := 0, driftAlert := false
            accepted := 0 }
        ∧ t.gumFold = { s.gumFold with
            progress := [], foldOpen := false, foldSeen := false, foldBarred := true
            foldTarget := (match s.gumFold.foldTarget with | .record _ => .absent | x => x)
            foldSettled := (match s.gumFold.foldTarget with | .record _ => false | _ => s.gumFold.foldSettled) }
        ∧ t.shaft = { s.shaft with
            reverseDebt := 0, highWater := s.shaft.phase, periodValid := false, timingQualified := false }
        ∧ (∀ k, fieldsOf t k = fieldsOf s k)
        ∧ (∀ b, armedBank s = some b → bankState t b = .active)
        ∧ (∀ b, armedBank s ≠ some b → bankState t b =
            (if (bankState s b = .draining ∧ bankNamed s b = true) ∨ (armed = true ∧ activeBank s = some b) then .valid
              else bankState s b))
        ∧ t.line.holders = s.line.holders ∧ t.line.locked = s.line.locked
        ∧ t.line.feedInhibit &&& 0x38 = s.line.feedInhibit &&& 0x38
        ∧ maskHas t.line.feedInhibit FeedCause.packerBacklog.index
            = ((maskHas s.line.feedInhibit FeedCause.packerBacklog.index || starts) && !ends)
        ∧ maskHas t.line.feedInhibit FeedCause.gumLow.index
            = (if armed then gumLow t else maskHas s.line.feedInhibit FeedCause.gumLow.index)
        ∧ maskHas t.line.feedInhibit FeedCause.patchSupply.index
            = (if armed then patchSupplyLow t else maskHas s.line.feedInhibit FeedCause.patchSupply.index)
        ∧ (¬levels → t.line.haltRecord = ⟨none, none, none, none, none, 0, s.line.haltRecord.count⟩
            ∧ t.line.closeFlag = s.line.closeFlag)
        ∧ (levels → t.line.closeFlag = none ∧ ∃ first ∈ levelCauses s, t.line.haltRecord =
              { firstCause := some first, haltingLink := none, stateLeft := some .ready
                phaseAtEntry := some s.shaft.phase, seqAtGate := none
                further := ((levelCauses s).erase first).foldl (fun m c => maskAdd m c.index) 0
                count := s.line.haltRecord.count + 1 })
        ∧ t.ports = portsAnswered .line .lineReset .ok []
            ((if purged then [.batchClosed] else []) ++ (if starts then [.backlog] else [])
              ++ (if released then [.bankReleased] else []) ++ (if armed then [.changeoverTaken] else [])
              ++ (if levels then [.halted] else [])) s.ports))

/-! ## The line link's requests: banks -/

/-- WRITE BANK (R123, R126): a bank that is not in use takes the values sent and is STAGING; one in use is answered
BANK_IN_USE. VALIDATE BANK (R124): a bank in STAGING becomes VALID, or stays with the code of the failing check. -/
def Obligations.BanksAreStagedAndValidated : Prop :=
  ∀ (b : BankId) (g : FieldGroup) (values : List Byte) (s : State), values.length = g.size →
    (let code := BitVec.ofNat 8 b.code
     let write := exec (.writeBank (code :: BitVec.ofNat 8 g.number :: values)) s
     let validate := exec (.validateBank [code]) s
     (bankState s b = .armed ∨ bankState s b = .active ∨ bankState s b = .draining →
        write = .next (s.answered .line .writeBank .bankInUse []))
     ∧ (bankState s b = .empty ∨ bankState s b = .staging ∨ bankState s b = .valid →
        write = .next (State.answered
          { s with banks := s.banks.set b { state := .staging, fields := writeGroup g values (fieldsOf s b) } }
          .line .writeBank .ok []))
     ∧ (bankState s b = .valid → validate = .next (s.answered .line .validateBank .ok []))
     ∧ (bankState s b ≠ .valid → bankState s b ≠ .staging →
        validate = .next (s.answered .line .validateBank .wrongState []))
     ∧ (bankState s b = .staging →
        (∀ c, firstFailure (bankChecks (fieldsOf s b)) = some c →
          validate = .next (s.answered .line .validateBank .invalidBank [BitVec.ofNat 8 c]))
        ∧ (firstFailure (bankChecks (fieldsOf s b)) = none →
          validate = .next (State.answered
            { s with banks := s.banks.set b { state := .valid, fields := fieldsOf s b } }
            .line .validateBank .ok []))))

/-- ARM CHANGEOVER (R127) and DISARM (R128): a VALID bank is armed where the other is not, and the changeover takes effect
at once in CONFIG and in READY with the chain empty; an ARMED bank is VALID again; elsewhere WRONG_STATE. The line link
alone may send them, and a number that is no bank's is BAD_ARGUMENT. -/
def Obligations.ChangeoversAreArmedAndDisarmed : Prop :=
  (∀ l : Link, (Command.armChangeover.acceptedOn l = true ↔ l = .line)
      ∧ (Command.disarm.acceptedOn l = true ↔ l = .line))
  ∧ (∀ (x : Byte) (s : State), 2 ≤ x.toNat →
      exec (.armChangeover [x]) s = .next (s.answered .line .armChangeover .badArgument [])
      ∧ exec (.disarm [x]) s = .next (s.answered .line .disarm .badArgument []))
  ∧ ∀ (b : BankId) (s : State),
    (let code := BitVec.ofNat 8 b.code
     let arm := exec (.armChangeover [code]) s
     let disarm := exec (.disarm [code]) s
     let armed := { s with banks := s.banks.set b { state := .armed, fields := fieldsOf s b } }
     (bankState s b ≠ .valid ∨ bankState s b.other = .armed →
        arm = .next (s.answered .line .armChangeover .wrongState []))
     ∧ (bankState s b = .valid → bankState s b.other ≠ .armed →
        (s.line.state = .config ∨ (s.line.state = .ready ∧ s.chain.records = []) →
          arm = .next ((takeChangeover armed).answered .line .armChangeover .ok [4#8]))
        ∧ (¬(s.line.state = .config ∨ (s.line.state = .ready ∧ s.chain.records = [])) →
          arm = .next (armed.answered .line .armChangeover .ok [3#8])))
     ∧ (bankState s b = .armed → disarm = .next (State.answered
        { s with banks := s.banks.set b { state := .valid, fields := fieldsOf s b } } .line .disarm .ok []))
     ∧ (bankState s b ≠ .armed → disarm = .next (s.answered .line .disarm .wrongState [])))

/-- A changeover taking effect (R70, R107, R130): the armed bank is ACTIVE; the bank that was ACTIVE is DRAINING while a record
names it and VALID otherwise; the drift filter is zeroed; an open batch of the new bank is superseded; the fields, the
chain and the line state stay. -/
def Obligations.ChangeoverTakesEffect : Prop :=
  ∀ (b : BankId) (s : State), armedBank s = some b → bankState s b.other ≠ .armed →
    (let t := takeChangeover s
     let old := bankState s b.other = .active
     bankState t b = .active
     ∧ bankState t b.other = (if old then (if bankNamed s b.other then .draining else .valid) else bankState s b.other)
     ∧ (∀ k, fieldsOf t k = fieldsOf s k)
     ∧ t.chain = s.chain ∧ t.geometry = s.geometry ∧ t.shaft = s.shaft ∧ t.firing = s.firing ∧ t.gumFold = s.gumFold
     ∧ t.line = { s.line with feedInhibit := t.line.feedInhibit }
     ∧ t.registration = { s.registration with m16 := 0, driftAlert := false, accepted := 0 }
     ∧ t.batch = { s.batch with openBatch := s.batch.openBatch.map fun o =>
          { o with superseded := o.superseded || o.bank == b } }
     ∧ (∀ l, maskHas (t.ports.get l).pending Event.changeoverTaken.index = true)
     ∧ (old → bankNamed s b.other = false → ∀ l, maskHas (t.ports.get l).pending Event.bankReleased.index = true)
     ∧ maskHas t.line.feedInhibit FeedCause.gumLow.index = gumLow t
     ∧ maskHas t.line.feedInhibit FeedCause.patchSupply.index = patchSupplyLow t)

/-! ## The inspection link -/

/-- READ TRIGGERS (R93, R169): EMPTY, or the oldest eight entries at most, which leave the log, and how many are left. VERDICT (R95
to R97): the checks in order, with their answers and counters; the verdict applied to a PENDING record that is still to
be decided. The inspection link alone may send them. -/
def Obligations.InspectionLinkRequests : Prop :=
  (∀ l : Link, (Command.readTriggers.acceptedOn l = true ↔ l = .inspection)
      ∧ (Command.verdict.acceptedOn l = true ↔ l = .inspection)) ∧
  (∀ s : State,
      (s.verdicts.triggerLog = [] →
        exec (.readTriggers []) s = .next (s.answered .inspection .readTriggers .empty []))
      ∧ (s.verdicts.triggerLog ≠ [] →
        exec (.readTriggers []) s = .next (State.answered
          { s with verdicts := { s.verdicts with triggerLog := s.verdicts.triggerLog.drop 8 } }
          .inspection .readTriggers .ok
          ([BitVec.ofNat 8 (min 8 s.verdicts.triggerLog.length)]
            ++ ((s.verdicts.triggerLog.take 8).flatMap fun e : Trigger =>
              [e.seq.setWidth 8, (e.seq >>> 8).setWidth 8, (e.seq >>> 16).setWidth 8, BitVec.ofNat 8 e.bank.code])
            ++ [BitVec.ofNat 8 (s.verdicts.triggerLog.length - 8)]))))
  ∧ (∀ (q : Seq) (result cause : Byte) (s : State), result.toNat ≤ 1 → cause.toNat ≤ 15 →
      (let run := exec (.verdict [q.setWidth 8, (q >>> 8).setWidth 8, (q >>> 16).setWidth 8, result, cause]) s
       let refused := { s with verdicts := { s.verdicts with verdictsRefused := s.verdicts.verdictsRefused + 1 } }
       (recordBySeq s q = none → run = .next (refused.answered .inspection .verdict .unknownSeq []))
       ∧ ∀ r, recordBySeq s q = some r →
          (r.verdict = .notRequired ∨ r.verdict = .uninspected →
            run = .next (refused.answered .inspection .verdict .notExpected []))
          ∧ (r.verdict = .pending ∨ r.verdict = .good ∨ r.verdict = .bad →
            (r.fate ≠ .undecided ∨ r.position = s.geometry.posGate →
              run = .next (State.answered
                { s with verdicts := { s.verdicts with
                    verdictsRefused := s.verdicts.verdictsRefused + 1, lateVerdicts := s.verdicts.lateVerdicts + 1 } }
                .inspection .verdict .tooLate []))
            ∧ (r.fate = .undecided → r.position ≠ s.geometry.posGate →
              (r.verdict ≠ .pending → run = .next (refused.answered .inspection .verdict .duplicate []))
              ∧ (r.verdict = .pending → s.chain.records.Pairwise (fun x y => x.seq ≠ y.seq) →
                run = .next (State.answered
                  { s with chain.records := s.chain.records.map fun x =>
                      if x.seq = q then
                        (if result = 0 then { x with verdict := .good }
                          else { x with
                            verdict := .bad, verdictCause := some cause.toNat
                            reasons := maskAdd x.reasons Reason.verdictBad.index })
                      else x }
                  .inspection .verdict .ok []))))))

/-! ## The packer link -/

/-- SET BATCH SIZE and CLOSE BATCH (R117): the next size takes the value; the close request is set once. TAKE BATCH (R114, R116):
EMPTY, MISMATCH, or the head leaves with its number and the length after, and a backlog ends when eight records or
fewer are left. -/
def Obligations.PackerLinkRequests : Prop :=
  (∀ (n : Nat) (s : State), 1 ≤ n → n ≤ 2000 →
      exec (.setBatchSize [BitVec.ofNat 8 n, BitVec.ofNat 8 (n / 256)]) s
          = .next (State.answered { s with batch := { s.batch with nextSize := n } } .packer .setBatchSize .ok [])
      ∧ (s.batch.closeRequest = true →
          exec (.closeBatch []) s = .next (s.answered .packer .closeBatch .alreadyPending []))
      ∧ (s.batch.closeRequest = false →
          exec (.closeBatch []) s = .next (State.answered
            { s with batch := { s.batch with closeRequest := true } } .packer .closeBatch .ok [])))
  ∧ (∀ (n : Nat) (s : State), 1 ≤ n → n ≤ 65535 →
      (let take := exec (.takeBatch [BitVec.ofNat 8 n, BitVec.ofNat 8 (n / 256)]) s
       (s.batch.queue = [] → take = .next (s.answered .packer .takeBatch .empty []))
       ∧ ∀ b rest, s.batch.queue = b :: rest →
          (b.number ≠ n → take = .next (s.answered .packer .takeBatch .mismatch []))
          ∧ (b.number = n → (s.batch.backlog = false → rest.length ≤ 11) →
            (let ended := s.batch.backlog && decide (rest.length ≤ 8)
             take = .next (State.answered
              { s with
                batch := { s.batch with queue := rest, backlog := s.batch.backlog && !ended }
                line := { s.line with
                  feedInhibit := if ended then s.line.feedInhibit &&& ~~~1 else s.line.feedInhibit } }
              .packer .takeBatch .ok
              [BitVec.ofNat 8 n, BitVec.ofNat 8 (n / 256), BitVec.ofNat 8 rest.length])))))

/-! ## The Firing Unit -/

/-- A lead (R41): the nearest pu to what the dead time takes at the period, a half rounded up, and 2048 at most; 0 without a
valid period, and a period of 0 counting as 1. The effective edges of a firing planned for a window of a valid bank
(R42, R43): their ranges, the width of 16 to 3584, and, where no clamp is made, each edge brought forward by its own
lead. -/
def Obligations.LeadsAndEffectiveEdges : Prop :=
  (∀ (period deadTime : Nat), 0 < period →
      lead false period deadTime = 0
      ∧ lead true period deadTime ≤ 2048
      ∧ (lead true period deadTime < 2048 →
          2 * 4096 * deadTime < 2 * period * lead true period deadTime + period
          ∧ 2 * period * lead true period deadTime ≤ 2 * 4096 * deadTime + period)
      ∧ (leadClamped true period deadTime = true ↔ (2 * 2048 + 1) * period ≤ 2 * 4096 * deadTime)
      ∧ leadClamped false period deadTime = false
      ∧ lead true 0 deadTime = lead true 1 deadTime)
  ∧ (∀ (w : ChannelFields) (shift : Int) (leadOn leadOff : Nat),
      w.onPhase < w.offPhase → w.offPhase ≤ 4095 → w.onPhase + 16 ≤ w.offPhase → w.offPhase ≤ w.onPhase + 2048 →
      -512 ≤ shift → shift ≤ 512 → leadOn ≤ 2048 → leadOff ≤ 2048 →
      (let on := effectiveOn w shift leadOn
       let off := on + firingWidth w leadOn leadOff
       (-2560 ≤ on) ∧ on ≤ 4591 ∧ -2544 ≤ off ∧ off ≤ 8175 ∧ 16 ≤ off - on ∧ off - on ≤ 3584
       ∧ (widthClamped w leadOn leadOff = false → off = w.offPhase + shift - leadOff)
       ∧ (widthClamped w leadOn leadOff = true ↔
            (w.offPhase : Int) - w.onPhase - (leadOff - leadOn) < 16
            ∨ 3584 < (w.offPhase : Int) - w.onPhase - (leadOff - leadOn))))

/-- The Firing Unit at a forward boundary, its four steps (R45). First the overdue edges, lower phases first and an on edge before
an off edge at one phase (R47), after which no firing is WAITING (R53). Then the lead snapshot, with the clamped leads
counted (R41, R58). Then planning (R46): none outside RUN and DRAIN; in them, for the channels other than FEED_CLUTCH, the
record one position below the anchor for the next pitch and, after a gap, the record at the anchor for the pitch now
opening unless its eff_on is below 0; a clamped width is counted (R43). FEED_CLUTCH is planned for the record just created,
started late or skipped, and either is a late open (R52). The gate hold ends (R57). Last the edges at phase 0. Where no
rule orders two edges the order is free (log 2); a firing is anchored one pitch nearer at each boundary (log 15). The
anchor position of each channel, and the shift of the record for the patch channels alone (R39, R42). -/
def Obligations.PlanningHoldsTheNextPitch : Prop :=
  (∀ (period : Nat) (valid : Bool) (s : State),
      (∃ overdue edges,
        (overdue.map Prod.fst).Perm (overdueEdges s)
        ∧ (overdue.map Prod.fst).Pairwise (fun x y => x.phase < y.phase
            ∨ (x.phase = y.phase ∧ (x.edge.isOn = true ∨ y.edge.isOn = false)))
        ∧ (let taken := takenInOrder (fun x : OverdueEdge => takeEdge x.edge) overdue s
           let nearer : State := { taken with firing := { taken.firing with held := PerChannel.ofFn fun ch =>
              ((taken.firing.held.get ch).filter fun f => f.state != .waiting).map fun f =>
                ({ f with anchorPitch := f.anchorPitch - 1 } : Firing) } }
           let planned := planningStep { nearer with firing := { nearer.firing with
              leadOn := PerChannel.ofFn fun ch => lead valid period (s.geometry.dtOn.get ch)
              leadOff := PerChannel.ofFn fun ch => lead valid period (s.geometry.dtOff.get ch)
              leadClamps := nearer.firing.leadClamps + BitVec.ofNat 32
                ((Channel.all.filter fun ch => leadClamped valid period (s.geometry.dtOn.get ch)).length
                  + (Channel.all.filter fun ch => leadClamped valid period (s.geometry.dtOff.get ch)).length) } }
           (edges.map Prod.fst).Perm (edgesAt 0 planned)
           ∧ firingBoundary period valid s = takenInOrder takeEdge edges planned))
      ∧ (∀ x, x ∈ overdueEdges s ↔ ∃ f ∈ s.firing.held.get x.edge.channel, f.anchorSeq = x.edge.seq ∧ x.phase < 4096
          ∧ ((x.edge.isOn = true ∧ f.state = .planned ∧ x.phase = f.effOn + 4096 * f.anchorPitch)
            ∨ (x.edge.isOn = false
                ∧ (f.state = .on ∨ (f.state = .planned ∧ f.effOn + 4096 * f.anchorPitch < 4096))
                ∧ x.phase = f.effOff + 4096 * f.anchorPitch)))
      ∧ ∀ e, e ∈ edgesAt 0 s ↔ ∃ f ∈ s.firing.held.get e.channel, f.anchorSeq = e.seq
          ∧ ((f.state = .planned ∧ e.isOn = true ∧ f.effOn + 4096 * f.anchorPitch = 0)
            ∨ (f.state ≠ .planned ∧ e.isOn = false ∧ f.effOff + 4096 * f.anchorPitch = 0)))
  ∧ (∀ s : State,
    (s.line.state.running = false →
      planningStep s = { s with firing := { s.firing with planningContinuous := false } })
    ∧ (s.line.state.running = true →
      (let window := fun (ch : Channel) (r : Record) => (fieldsOf s r.bank).channels.get ch
       let plan := fun (ch : Channel) (x : Record × Int) =>
         (let on := effectiveOn (window ch x.1) (shiftApplied ch x.1) (s.firing.leadOn.get ch)
          ({ anchorSeq := x.1.seq, anchorPitch := x.2, effOn := on
             effOff := on + firingWidth (window ch x.1) (s.firing.leadOn.get ch) (s.firing.leadOff.get ch)
             state := .planned, offPassed := false } : Firing))
       let enabled := fun (ch : Channel) (r : Option Record) => r.toList.filter fun r => (window ch r).enable == 1
       let anchors := fun (ch : Channel) =>
         if ch = .feedClutch then (enabled ch (recordAt s 0)).map fun r => (r, (0 : Int))
         else
           (if s.firing.planningContinuous then [] else
              ((enabled ch (recordAt s (anchorPosition s.geometry ch))).map (fun r => (r, (0 : Int)))).filter
                (fun x => decide (0 ≤ (plan ch x).effOn)))
            ++ (enabled ch (recordBefore s (anchorPosition s.geometry ch))).map fun r => (r, (1 : Int))
       let clamps := fun (ch : Channel) => ((anchors ch).filter fun x =>
          widthClamped (window ch x.1) (s.firing.leadOn.get ch) (s.firing.leadOff.get ch)).length
       let late := fun (x : Record × Int) => decide ((plan .feedClutch x).effOn < 0)
       let started := fun (x : Record × Int) =>
         if late x = false then [plan .feedClutch x]
         else if 0 < (plan .feedClutch x).effOff then [{ plan .feedClutch x with state := .on }] else []
       planningStep s = { s with firing := { s.firing with
          held := PerChannel.ofFn fun ch => s.firing.held.get ch ++
            (if ch = .feedClutch then (anchors ch).flatMap started else (anchors ch).map (plan ch))
          widthClamps := s.firing.widthClamps + BitVec.ofNat 32 (Channel.all.map clamps).sum
          lateOpens := s.firing.lateOpens + BitVec.ofNat 32 ((anchors .feedClutch).filter late).length
          planningContinuous := true, gateHold := false } })))
  ∧ (∀ g : Geometry, [Channel.feedClutch, .cutKnife, .windowKnife, .patchGlue, .patchCut, .gumSeam, .gumFlap,
        .cameraTrigger, .rejectGate, .batchKicker].map (anchorPosition g)
      = [0, g.posCut, g.posPatch, g.posPatch, g.posPatch, g.posGum, g.posGum, g.posInspect, g.posGate, g.posCount])
  ∧ ∀ (ch : Channel) (r : Record), shiftApplied ch r
      = if ch = .windowKnife ∨ ch = .patchGlue ∨ ch = .patchCut then r.shift.getD 0 else 0

/-- The on edge of a PLANNED firing (R39, R48, R79, R112): without its anchor record it leaves the list and no record is changed;
FEED_CLUTCH and CUT_KNIFE go ahead for any record found, BATCH_KICKER for the record of the kick mark. The camera (R49,
R90 to R92): an UNINSPECTED record under inspection is triggered, becomes PENDING and enters the trigger log, from which
a full log drops its oldest entry; any other camera firing leaves the list and writes nothing. -/
def Obligations.FeedCutKickerAndCameraFirings : Prop :=
  (∀ (ch : Channel) (q : Seq) (s : State),
      (let gone := firingLeaves ch q s
       let ahead := firingBecomes ch q .on s
       (recordBySeq s q = none → onEdge ch q s = gone)
       ∧ (∀ r, recordBySeq s q = some r → ch = .feedClutch ∨ ch = .cutKnife → onEdge ch q s = ahead)
       ∧ (∀ r, recordBySeq s q = some r → ch = .batchKicker →
          onEdge ch q s = if s.batch.kickMark = some q then ahead else gone)))
  ∧ (∀ (r : Record) (s : State), recordBySeq s r.seq = some r → s.verdicts.triggerLog.length ≤ 16 →
      (let due := (fieldsOf s r.bank).inspectEnable = 1 ∧ s.line.holders.inspect = 0 ∧ r.verdict = .uninspected
       let log := s.verdicts.triggerLog
       (¬due → onEdge .cameraTrigger r.seq s = firingLeaves .cameraTrigger r.seq s)
       ∧ (due → onEdge .cameraTrigger r.seq s = firingBecomes .cameraTrigger r.seq .on { s with
          chain.records := s.chain.records.map fun x => if x.seq = r.seq then { x with verdict := .pending } else x
          verdicts := { s.verdicts with
            triggerLog := (if log.length = 16 then log.drop 1 else log) ++ [⟨r.seq, r.bank⟩]
            triggerOverflows := if log.length = 16 then s.verdicts.triggerOverflows + 1
              else s.verdicts.triggerOverflows }
          ports := if log = [] then portsPosted [.triggersWaiting] s.ports
            else if log.length = 16 then portsPosted [.triggerOverflow] s.ports else s.ports })))

/-- The patch channels (R49, R72): a record that is not due is passed over; an inhibited PATCH station skips it with
STATION_INHIBITED; a registration failure skips it with no reason; otherwise the firing goes ahead, and PATCH_GLUE makes
the record patched. -/
def Obligations.PatchFiringsAreDecided : Prop :=
  ∀ (ch : Channel) (r : Record) (s : State), ch = .windowKnife ∨ ch = .patchGlue ∨ ch = .patchCut →
    recordBySeq s r.seq = some r →
    (let goes := firingBecomes ch r.seq .on
     let drops := firingLeaves ch r.seq
     let writes := fun (f : Record → Record) =>
       { s with chain.records := s.chain.records.map fun x => if x.seq = r.seq then f x else x }
     let due := (fieldsOf s r.bank).windowEnable = 1 ∧ r.patched = .due
     let ready := r.regError ≠ none ∧ r.reasons &&& 7 = 0
     (¬due → onEdge ch r.seq s = drops s)
     ∧ (due → s.line.holders.patch ≠ 0 → onEdge ch r.seq s = drops (writes fun x =>
          { x with
            patched := .skipped
            reasons := if x.fate = .undecided then maskAdd x.reasons Reason.stationInhibited.index else x.reasons }))
     ∧ (due → s.line.holders.patch = 0 → ¬ready →
          onEdge ch r.seq s = drops (writes fun x => { x with patched := .skipped }))
     ∧ (due → s.line.holders.patch = 0 → ready →
          onEdge ch r.seq s = goes (if ch = .patchGlue then writes fun x => { x with patched := .done } else s)))

/-- The gum channels (R49, R80, R81): not due, inhibited, skipped for a reject, out of gum, or gone ahead; with both channels
enabled the record is gummed when the second has gone ahead. -/
def Obligations.GumFiringsAreDecided : Prop :=
  ∀ (ch : Channel) (r : Record) (s : State), ch = .gumSeam ∨ ch = .gumFlap → recordBySeq s r.seq = some r →
    (let f := fieldsOf s r.bank
     let goes := firingBecomes ch r.seq .on
     let drops := firingLeaves ch r.seq
     let settles := fun (g : Record → Record) => { s with
        chain.records := s.chain.records.map fun x => if x.seq = r.seq then g x else x
        gumFold := { s.gumFold with progress := s.gumFold.progress.filter (·.seq != r.seq) } }
     let adds := fun (e : Reason) (x : Record) =>
       if x.fate = .undecided then maskAdd x.reasons e.index else x.reasons
     let due := ((ch = .gumSeam ∧ f.gumSeamEnable = 1) ∨ (ch = .gumFlap ∧ f.gumFlapEnable = 1)) ∧ r.gummed = .due
     let skip := f.skipGumOnReject = 1 ∧ r.reasons ≠ 0
     let both := f.gumSeamEnable = 1 ∧ f.gumFlapEnable = 1
     (¬due → onEdge ch r.seq s = drops s)
     ∧ (due → s.line.holders.gum ≠ 0 → onEdge ch r.seq s
          = drops (settles fun x => { x with gummed := .skipped, reasons := adds .stationInhibited x }))
     ∧ (due → s.line.holders.gum = 0 → skip →
          onEdge ch r.seq s = drops (settles fun x => { x with gummed := .skipped }))
     ∧ (due → s.line.holders.gum = 0 → ¬skip → s.sensors.gumOk = false → onEdge ch r.seq s
          = drops (settles fun x => { x with gummed := .skipped, reasons := adds .gumFault x }))
     ∧ (due → s.line.holders.gum = 0 → ¬skip → s.sensors.gumOk = true →
          (¬both ∨ (∃ e ∈ s.gumFold.progress, e.seq = r.seq ∧ e.channel ≠ ch) →
            onEdge ch r.seq s = goes (settles fun x => { x with gummed := .done }))
          ∧ (both → (∀ e ∈ s.gumFold.progress, e.seq ≠ r.seq) → onEdge ch r.seq s = goes { s with
              gumFold := { s.gumFold with progress := s.gumFold.progress ++ [⟨r.seq, ch⟩] } })))

/-- The reject gate (R53, R58): decided by the fate at the on edge; a firing that waits is settled by the gate decision, and
counted as a late open where the fate is REJECT. The off edge, of every channel (R51): a firing that is ON leaves the
list, one that is WAITING keeps its place with its off edge noted (log 15), and one still PLANNED, or none, is left. -/
def Obligations.GateFiringsFollowTheFate : Prop :=
  (∀ (ch : Channel) (q : Seq) (s : State),
      (firingFor s ch q = none → offEdge ch q s = s)
      ∧ ∀ f, firingFor s ch q = some f →
        (f.state = .on → offEdge ch q s = firingLeaves ch q s)
        ∧ (f.state = .planned → offEdge ch q s = s)
        ∧ (f.state = .waiting → offEdge ch q s = { s with firing := { s.firing with
            held := s.firing.held.set ch ((s.firing.held.get ch).map fun g =>
              if g.anchorSeq = q then { g with offPassed := true } else g) } }))
  ∧ ∀ (r : Record) (s : State), recordBySeq s r.seq = some r →
    (let keeps := firingBecomes .rejectGate r.seq
     let drops := firingLeaves .rejectGate r.seq
     let late := { s with firing := { s.firing with lateOpens := s.firing.lateOpens + 1 } }
     (r.fate = .reject → onEdge .rejectGate r.seq s = keeps .on s)
     ∧ (r.fate = .pass ∨ r.fate = .passUnverified → onEdge .rejectGate r.seq s = drops s)
     ∧ (r.fate = .undecided → r.position + 1 = s.geometry.posGate → onEdge .rejectGate r.seq s = keeps .waiting s)
     ∧ (r.fate = .undecided → r.position = s.geometry.posGate → onEdge .rejectGate r.seq s = drops s)
     ∧ ∀ f, firingFor s .rejectGate r.seq = some f →
        (f.state ≠ .waiting → ∀ fate, settleWaiting r.seq fate s = s)
        ∧ (f.state = .waiting → (∀ fate, fate ≠ .reject → settleWaiting r.seq fate s = drops s)
            ∧ (f.offPassed = false → settleWaiting r.seq .reject s = keeps .on late)
            ∧ (f.offPassed = true → settleWaiting r.seq .reject s = drops late)))

/-! ## The Registration Unit, the Gum and Fold Unit -/

/-- Settlement (R67, R74, R87), outside CONFIG: MARK_MISSING for a mark subject with no error measured, PATCH_MISSING for
a patched subject whose patch was not seen, FOLD_FAULT for a fold target not seen; the window is SHUT and the subject
settled; a subject already settled is left alone. At a crossing of the closing phase alone the subject is settled; the fold window
becomes SHUT there for an EMPTY target too, which is not settled (R85). In CONFIG nothing is settled. -/
def Obligations.SettlementAddsTheMissingReason : Prop :=
  (∀ (q : Seq) (r : Record) (s : State), s.line.state ≠ .config → recordBySeq s q = some r →
    (let adds := fun (missing : Bool) (e : Reason) => s.chain.records.map fun x =>
        if missing = true ∧ x.seq = q ∧ x.fate = .undecided then { x with reasons := maskAdd x.reasons e.index } else x
     (s.registration.markSubject = some q →
        (s.registration.markSettled = true → settleMark s = s)
        ∧ (s.registration.markSettled = false → settleMark s = { s with
            chain.records := adds (r.regError == none) .markMissing
            registration := { s.registration with markWindow := .shut, markSettled := true } }))
     ∧ (s.registration.patchSubject = some q →
        (s.registration.patchSettled = true → settlePatch s = s)
        ∧ (s.registration.patchSettled = false → settlePatch s = { s with
            chain.records := adds (r.patched == .done && !s.registration.patchSeen) .patchMissing
            registration := { s.registration with patchOpen := false, patchSettled := true } }))
     ∧ (s.gumFold.foldTarget = .record q →
        (s.gumFold.foldSettled = true → settleFold s = s)
        ∧ (s.gumFold.foldSettled = false → settleFold s = { s with
            chain.records := adds (!s.gumFold.foldSeen) .foldFault
            gumFold := { s.gumFold with foldOpen := false, foldSettled := true } }))
     ∧ ∀ (level : Bool) (p : Nat),
        (let f := fieldsOf s r.bank
         (s.registration.markSubject = some q →
            (f.markOpen ≠ p → f.markClose ≠ p → markCrossing p s = s)
            ∧ (f.markOpen = p → f.markClose ≠ p → markCrossing p s = openMark s)
            ∧ (f.markOpen ≠ p → f.markClose = p → markCrossing p s = settleMark s))
         ∧ (s.registration.patchSubject = some q →
            (f.patchCheckOpen ≠ p → f.patchCheckClose ≠ p → patchCrossing p s = s)
            ∧ (f.patchCheckOpen = p → f.patchCheckClose ≠ p → patchCrossing p s = openPatch s)
            ∧ (f.patchCheckOpen ≠ p → f.patchCheckClose = p → patchCrossing p s = settlePatch s))
         ∧ (s.gumFold.foldTarget = .record q →
            (f.foldOpen ≠ p → f.foldClose ≠ p → foldCrossing level p s = s)
            ∧ (f.foldOpen = p → f.foldClose ≠ p → foldCrossing level p s = openFold level s)
            ∧ (f.foldOpen ≠ p → f.foldClose = p → foldCrossing level p s
                = { settleFold s with gumFold := { (settleFold s).gumFold with foldOpen := false } })))))
  ∧ (∀ s : State, s.line.state = .config → settleMark s = s ∧ settlePatch s = s ∧ settleFold s = s)
  ∧ ∀ (level : Bool) (p : Nat) (b : BankId) (s : State), s.gumFold.foldTarget = .empty b →
      settleFold s = s
      ∧ ((fieldsOf s b).foldOpen ≠ p → (fieldsOf s b).foldClose ≠ p → foldCrossing level p s = s)
      ∧ ((fieldsOf s b).foldOpen = p → (fieldsOf s b).foldClose ≠ p → foldCrossing level p s = openFold level s)
      ∧ ((fieldsOf s b).foldOpen ≠ p → (fieldsOf s b).foldClose = p → foldCrossing level p s
          = { s with gumFold := { s.gumFold with foldOpen := false } })

/-- The windows (R63, R85): in RUN and DRAIN, for a subject or target that is present and not settled, a window that is
SHUT opens, with nothing seen in it yet but an active FOLD_CHECK level; the fold window does not after a LINE RESET in
the same pitch (R89, log 30). The subjects and the fold target of the pitch that opens
(R62, R84): the records at pos_MARK, pos_PATCH and pos_FOLD whose banks ask for the work, or EMPTY at FOLD under an active
bank that checks folds; none settled yet; a window whose opening phase is 0 opens at once in RUN and DRAIN, and the others
are SHUT; an EMPTY target's that opens under an active FOLD_CHECK level counts a stray blank (R88). Before, a subject or a
record target of the pitch that closes is settled, if it was not (R62, R84 step 1). The gum progress list keeps the entries whose record stands in the chain below pos_GUM + 2 (R82). -/
def Obligations.WindowsAndSubjects : Prop :=
  (∀ (level : Bool) (s : State),
      (let running := s.line.state = .run ∨ s.line.state = .drain
       openMark s = (if running ∧ s.registration.markSubject ≠ none ∧ s.registration.markSettled = false
            ∧ s.registration.markWindow = .shut then
          { s with registration := { s.registration with markWindow := .opened } } else s)
       ∧ openPatch s = (if running ∧ s.registration.patchSubject ≠ none ∧ s.registration.patchSettled = false
            ∧ s.registration.patchOpen = false then
          { s with registration := { s.registration with patchOpen := true, patchSeen := false } } else s)
       ∧ openFold level s = (if running ∧ s.gumFold.foldTarget ≠ .absent ∧ s.gumFold.foldSettled = false
            ∧ s.gumFold.foldOpen = false ∧ s.gumFold.foldBarred = false then
          (let stray := level && (match s.gumFold.foldTarget with | .empty _ => true | _ => false)
           { s with
             gumFold := { s.gumFold with
               foldOpen := true, foldSeen := level
               strayBlanks := if stray then s.gumFold.strayBlanks + 1 else s.gumFold.strayBlanks }
             ports := if stray then portsPosted [.stray] s.ports else s.ports }) else s)))
  ∧ (∀ (level : Bool) (s : State),
      (let asked := fun (station : Nat) (field : BankFields → Nat) =>
          (recordAt s station).bind fun r => if field (fieldsOf s r.bank) = 1 then some r.seq else none
       let opensAtZero := fun (subject : Option Seq) (opening : BankFields → Nat) =>
          (subject.bind (recordBySeq s)).any fun r => opening (fieldsOf s r.bank) == 0
       let t := registrationBoundary s
       let u := gumFoldBoundary level s
       t.registration.markSubject = asked s.geometry.posMark BankFields.windowEnable
       ∧ t.registration.patchSubject = asked s.geometry.posPatch BankFields.windowEnable
       ∧ t.registration.markSettled = false ∧ t.registration.patchSettled = false ∧ t.registration.patchSeen = false
       ∧ t.registration.markWindow = (if s.line.state.running = true ∧ opensAtZero t.registration.markSubject BankFields.markOpen
            then .opened else .shut)
       ∧ t.registration.patchOpen
          = decide (s.line.state.running = true ∧ opensAtZero t.registration.patchSubject BankFields.patchCheckOpen)
       ∧ u.gumFold.foldTarget = (match recordAt s s.geometry.posFold with
          | some r => if (fieldsOf s r.bank).foldCheckEnable = 1 then .record r.seq else .absent
          | none => (match activeBank s with
            | none => .absent
            | some b => if (fieldsOf s b).foldCheckEnable = 1 then .empty b else .absent))
       ∧ u.gumFold.foldSettled = false ∧ u.gumFold.foldBarred = false
       ∧ u.gumFold.foldOpen = (s.line.state.running && (match u.gumFold.foldTarget with
          | .absent => false
          | .record q => opensAtZero (some q) BankFields.foldOpen
          | .empty b => (fieldsOf s b).foldOpen == 0))
       ∧ u.gumFold.foldSeen = (u.gumFold.foldOpen && level)
       ∧ u.gumFold.progress = s.gumFold.progress.filter (fun e =>
          (recordBySeq s e.seq).any fun r => decide (r.position < s.geometry.posGum + 2))))
  ∧ (∀ (level : Bool) (s : State),
      (let t := registrationBoundary s
       let u := gumFoldBoundary level s
       let stray := u.gumFold.foldOpen && level && (match u.gumFold.foldTarget with | .empty _ => true | _ => false)
       t = { s with chain := (settlePatch (settleMark s)).chain, registration := t.registration }
       ∧ t.registration = { s.registration with
           markSubject := t.registration.markSubject, markSettled := false, markWindow := t.registration.markWindow
           patchSubject := t.registration.patchSubject, patchSettled := false, patchOpen := t.registration.patchOpen
           patchSeen := false }
       ∧ u = { s with
           chain := (settleFold s).chain, gumFold := u.gumFold
           ports := if stray then portsPosted [.stray] s.ports else s.ports }
       ∧ u.gumFold.strayBlanks = (if stray then s.gumFold.strayBlanks + 1 else s.gumFold.strayBlanks)))

/-! ## The Verdict Unit and the Batch Unit -/

/-- The gate decision (R24, R99 to R101): the first case that applies gives the fate, the reason added and the count of an
unverified pass; it is taken for the record at pos_GATE − 1 at the crossing of its bank's gate_decide, and changes
nothing else outside RUN and DRAIN; in them it is handed to a REJECT_GATE firing of that record that waits (R53). With no
record there, with one whose fate is decided, and in CONFIG, the crossing does nothing. -/
def Obligations.GateDecision : Prop :=
  (∀ (state : LineState) (pass : Bool) (r : Record), r.fate = .undecided →
      (let d := decideRecord state pass r
       let jogging := state = .ready ∨ state = .halt
       let unseen := r.verdict = .pending ∨ r.verdict = .uninspected
       (jogging → d = { r with fate := .reject, reasons := maskAdd r.reasons Reason.jogged.index })
       ∧ (¬jogging → r.reasons ≠ 0 → d = { r with fate := .reject })
       ∧ (¬jogging → r.reasons = 0 → r.verdict = .good ∨ r.verdict = .notRequired → d = { r with fate := .pass })
       ∧ (¬jogging → r.reasons = 0 → unseen → pass = false →
            d = { r with fate := .reject, reasons := maskAdd 0 Reason.verdictMissing.index })
       ∧ (¬jogging → r.reasons = 0 → unseen → pass = true → d = { r with fate := .passUnverified })))
  ∧ (∀ (p : Nat) (r : Record) (s : State), s.line.state ≠ .config → recordBefore s s.geometry.posGate = some r →
      r.fate = .undecided →
      (let d := decideRecord s.line.state ((fieldsOf s r.bank).noVerdictFate == 1) r
       ((fieldsOf s r.bank).gateDecide ≠ p → gateCrossing p s = s)
       ∧ ((fieldsOf s r.bank).gateDecide = p → s.chain.records.Pairwise (fun x y => x.seq ≠ y.seq) →
          (gateCrossing p s).chain.records = s.chain.records.map (fun x => if x.seq = r.seq then d else x)
          ∧ (gateCrossing p s).verdicts = { s.verdicts with
              unverifiedPasses := if d.fate = .passUnverified then s.verdicts.unverifiedPasses + 1
                else s.verdicts.unverifiedPasses }
          ∧ (let decided := { s with
              chain.records := (gateCrossing p s).chain.records, verdicts := (gateCrossing p s).verdicts }
             (s.line.state = .ready ∨ s.line.state = .halt → gateCrossing p s = decided)
             ∧ (s.line.state = .run ∨ s.line.state = .drain → gateCrossing p s = settleWaiting r.seq d.fate decided)))))
  ∧ (∀ (p : Nat) (s : State),
      s.line.state = .config ∨ recordBefore s s.geometry.posGate = none
        ∨ (∃ r, recordBefore s s.geometry.posGate = some r ∧ r.fate ≠ .undecided) → gateCrossing p s = s)

/-- Closing a batch (R111, R114): the batch record joins the tail of the queue, the open batch and the close request are gone,
BATCH_CLOSED is posted, and the backlog becomes active with a queue of twelve or more. -/
def Obligations.ClosedBatchJoinsTheQueue : Prop :=
  ∀ (cause : CloseCause) (o : OpenBatch) (s : State), s.batch.openBatch = some o →
    (s.batch.backlog = true → 8 ≤ s.batch.queue.length) →
    (let starts := !s.batch.backlog && decide (11 ≤ s.batch.queue.length)
     closeBatch cause s = { s with
      batch := { s.batch with
        openBatch := none, closeRequest := false, backlog := s.batch.backlog || starts
        queue := s.batch.queue ++ [
          { number := o.number, bank := o.bank, recipeTag := o.recipeTag, size := o.size, count := o.count
            firstSeq := o.firstSeq, lastSeq := o.lastSeq, unverified := o.unverified, cause := cause
            overfill := o.overfill, separationMissed := o.separationMissed }] }
      line := { s.line with feedInhibit := if starts then s.line.feedInhibit ||| 1 else s.line.feedInhibit }
      ports := portsPosted ([.batchClosed] ++ (if starts then [.backlog] else [])
        ++ (if starts = true ∧ s.line.feedInhibit = 0 ∧ s.line.state = .run then [.feedInhibited] else [])) s.ports })

/-- The count event (R106 to R110, R112, R120), in every line state. A batch of another bank, or superseded, is closed with
CHANGEOVER whatever the queue; the record is counted into the open batch, or into a new one of the next number and size;
FULL and COMMAND close it while the queue is below sixteen, and a full batch that is not closed is overfilled. A count
event that closes or opens a batch makes a boundary: in RUN and DRAIN it sets the kick mark; in READY and HALT each batch
closed or opened has SEPARATION_MISSED and one missed separation is counted, the kick mark staying as it was. Each close
posts BATCH_CLOSED and checks the backlog (R111, R114); OVERFILL is posted once for a batch. The event is taken once for a
record, at the crossing of its bank's count_phase while it stands at pos_COUNT, and at phase 0 at the boundary, where the
kick mark is made absent first (R106, R112). -/
def Obligations.CountEventFillsTheBatch : Prop :=
  (∀ (p : Nat) (s : State),
      (recordAt s s.geometry.posCount = none → countCrossing p s = s)
      ∧ (∀ r, recordAt s s.geometry.posCount = some r → countCrossing p s
          = if r.counted = false ∧ (fieldsOf s r.bank).countPhase = p then countEvent r s else s)
      ∧ batchBoundary s = countCrossing 0 { s with batch := { s.batch with kickMark := none } })
  ∧ (∀ (r : Record) (s : State),
      (let running := s.line.state == .run || s.line.state == .drain
       let jogging := s.line.state == .ready || s.line.state == .halt
       let flagged := fun (o : OpenBatch) => ({ o with separationMissed := o.separationMissed || jogging } : OpenBatch)
       let changes := s.batch.openBatch.toList.filter fun o => o.bank != r.bank || o.superseded
       let queue : List BatchRecord := s.batch.queue ++ changes.map fun o => (flagged o).closed .changeover
       let opens := s.batch.openBatch.isNone || !changes.isEmpty
       let request := s.batch.closeRequest && changes.isEmpty
       let before : OpenBatch := (s.batch.openBatch.filter fun _ => changes.isEmpty).getD
          { number := s.batch.nextNumber, bank := r.bank, recipeTag := (fieldsOf s r.bank).recipeTag
            size := s.batch.nextSize, count := 0, firstSeq := r.seq, lastSeq := r.seq, unverified := 0
            overfill := false, separationMissed := jogging, superseded := false }
       let o : OpenBatch := { before with
          count := before.count + 1, lastSeq := r.seq
          unverified := if r.fate = .passUnverified then before.unverified + 1 else before.unverified }
       let room := decide (queue.length < 16)
       let full := decide (o.size ≤ o.count)
       let command := !full && request
       let boundary := opens || ((full || command) && room)
       let t := countEvent r s
       t.chain.records = s.chain.records.map (fun x => if x.seq = r.seq then { x with counted := true } else x)
       ∧ t.batch.nextNumber = (if opens then (if s.batch.nextNumber < 65535 then s.batch.nextNumber + 1 else 1)
            else s.batch.nextNumber)
       ∧ t.batch.nextSize = s.batch.nextSize
       ∧ (full = true → room = true → t.batch.openBatch = none
            ∧ t.batch.queue = queue ++ [(flagged o).closed .full]
            ∧ t.batch.closeRequest = false)
       ∧ (command = true → room = true → t.batch.openBatch = none
            ∧ t.batch.queue = queue ++ [(flagged o).closed .command]
            ∧ t.batch.closeRequest = false)
       ∧ (full = true → room = false → t.batch.openBatch = some { o with overfill := true } ∧ t.batch.queue = queue
            ∧ t.batch.closeRequest = request
            ∧ (o.overfill = false → ∀ l, maskHas (t.ports.get l).pending Event.overfill.index = true))
       ∧ (full = false → (command && room) = false → t.batch.openBatch = some o ∧ t.batch.queue = queue
            ∧ t.batch.closeRequest = request)
       ∧ t.batch.kickMark = (if boundary && running then some r.seq else s.batch.kickMark)
       ∧ t.batch.separationMissed
          = (if boundary && jogging then s.batch.separationMissed + 1 else s.batch.separationMissed)
       ∧ (let closes := changes.length + (if (full || command) && room then 1 else 0)
          let starts := !s.batch.backlog && decide (0 < closes ∧ 12 ≤ s.batch.queue.length + closes)
          let ends := s.batch.backlog && decide (0 < closes ∧ s.batch.queue.length + 1 ≤ 8)
          t.batch.backlog = ((s.batch.backlog || starts) && !ends)
          ∧ t.line = { s.line with feedInhibit := if starts then s.line.feedInhibit ||| 1
              else if ends then s.line.feedInhibit &&& ~~~1 else s.line.feedInhibit }
          ∧ t.ports = portsPosted ((if 0 < closes then [.batchClosed] else []) ++ (if starts then [.backlog] else [])
              ++ (if starts = true ∧ s.line.feedInhibit = 0 ∧ s.line.state = .run then [.feedInhibited] else [])
              ++ (if full && !room && !o.overfill then [.overfill] else [])) s.ports)))
end

