-- ==== Sys2Proof/Laws/State.lean ====
section
/-! SUPPORT. What a plain update of the state leaves as it was: one lemma for each field it does not write. -/

namespace Sys2Proof.Machine

/-! ### posting an event (R159) -/

@[simp] theorem post_shaft (e : Event) (s : State) : (post e s).shaft = s.shaft := rfl
@[simp] theorem post_geometry (e : Event) (s : State) : (post e s).geometry = s.geometry := rfl
@[simp] theorem post_chain (e : Event) (s : State) : (post e s).chain = s.chain := rfl
@[simp] theorem post_firing (e : Event) (s : State) : (post e s).firing = s.firing := rfl
@[simp] theorem post_registration (e : Event) (s : State) : (post e s).registration = s.registration := rfl
@[simp] theorem post_gumFold (e : Event) (s : State) : (post e s).gumFold = s.gumFold := rfl
@[simp] theorem post_verdicts (e : Event) (s : State) : (post e s).verdicts = s.verdicts := rfl
@[simp] theorem post_batch (e : Event) (s : State) : (post e s).batch = s.batch := rfl
@[simp] theorem post_banks (e : Event) (s : State) : (post e s).banks = s.banks := rfl
@[simp] theorem post_line (e : Event) (s : State) : (post e s).line = s.line := rfl
@[simp] theorem post_sensors (e : Event) (s : State) : (post e s).sensors = s.sensors := rfl
@[simp] theorem post_pins (e : Event) (s : State) : (post e s).pins = s.pins := rfl
@[simp] theorem post_choices (e : Event) (s : State) : (post e s).choices = s.choices := rfl
@[simp] theorem post_pending (e : Event) (s : State) : (post e s).pending = s.pending := rfl

/-! ### posting LINK_ERROR to one port (R159) -/

@[simp] theorem postTo_shaft (l : Link) (e : Event) (s : State) : (postTo l e s).shaft = s.shaft := rfl
@[simp] theorem postTo_geometry (l : Link) (e : Event) (s : State) : (postTo l e s).geometry = s.geometry := rfl
@[simp] theorem postTo_chain (l : Link) (e : Event) (s : State) : (postTo l e s).chain = s.chain := rfl
@[simp] theorem postTo_firing (l : Link) (e : Event) (s : State) : (postTo l e s).firing = s.firing := rfl
@[simp] theorem postTo_registration (l : Link) (e : Event) (s : State) : (postTo l e s).registration = s.registration := rfl
@[simp] theorem postTo_gumFold (l : Link) (e : Event) (s : State) : (postTo l e s).gumFold = s.gumFold := rfl
@[simp] theorem postTo_verdicts (l : Link) (e : Event) (s : State) : (postTo l e s).verdicts = s.verdicts := rfl
@[simp] theorem postTo_batch (l : Link) (e : Event) (s : State) : (postTo l e s).batch = s.batch := rfl
@[simp] theorem postTo_banks (l : Link) (e : Event) (s : State) : (postTo l e s).banks = s.banks := rfl
@[simp] theorem postTo_line (l : Link) (e : Event) (s : State) : (postTo l e s).line = s.line := rfl
@[simp] theorem postTo_sensors (l : Link) (e : Event) (s : State) : (postTo l e s).sensors = s.sensors := rfl
@[simp] theorem postTo_pins (l : Link) (e : Event) (s : State) : (postTo l e s).pins = s.pins := rfl
@[simp] theorem postTo_choices (l : Link) (e : Event) (s : State) : (postTo l e s).choices = s.choices := rfl
@[simp] theorem postTo_pending (l : Link) (e : Event) (s : State) : (postTo l e s).pending = s.pending := rfl

/-! ### removing a feed-inhibit cause (R145) -/

@[simp] theorem removeFeedCause_shaft (c : FeedCause) (s : State) : (removeFeedCause c s).shaft = s.shaft := rfl
@[simp] theorem removeFeedCause_geometry (c : FeedCause) (s : State) : (removeFeedCause c s).geometry = s.geometry := rfl
@[simp] theorem removeFeedCause_chain (c : FeedCause) (s : State) : (removeFeedCause c s).chain = s.chain := rfl
@[simp] theorem removeFeedCause_firing (c : FeedCause) (s : State) : (removeFeedCause c s).firing = s.firing := rfl
@[simp] theorem removeFeedCause_registration (c : FeedCause) (s : State) : (removeFeedCause c s).registration = s.registration := rfl
@[simp] theorem removeFeedCause_gumFold (c : FeedCause) (s : State) : (removeFeedCause c s).gumFold = s.gumFold := rfl
@[simp] theorem removeFeedCause_verdicts (c : FeedCause) (s : State) : (removeFeedCause c s).verdicts = s.verdicts := rfl
@[simp] theorem removeFeedCause_batch (c : FeedCause) (s : State) : (removeFeedCause c s).batch = s.batch := rfl
@[simp] theorem removeFeedCause_banks (c : FeedCause) (s : State) : (removeFeedCause c s).banks = s.banks := rfl
@[simp] theorem removeFeedCause_ports (c : FeedCause) (s : State) : (removeFeedCause c s).ports = s.ports := rfl
@[simp] theorem removeFeedCause_sensors (c : FeedCause) (s : State) : (removeFeedCause c s).sensors = s.sensors := rfl
@[simp] theorem removeFeedCause_pins (c : FeedCause) (s : State) : (removeFeedCause c s).pins = s.pins := rfl
@[simp] theorem removeFeedCause_choices (c : FeedCause) (s : State) : (removeFeedCause c s).choices = s.choices := rfl
@[simp] theorem removeFeedCause_pending (c : FeedCause) (s : State) : (removeFeedCause c s).pending = s.pending := rfl

/-! ### driving the pins (R54, R56, R151, R159) -/

@[simp] theorem conclude_shaft (s : State) (h : s.sensors.resetPin = false) : (conclude s).shaft = s.shaft := by
  simp [conclude, underReset, h]
@[simp] theorem conclude_geometry (s : State) (h : s.sensors.resetPin = false) : (conclude s).geometry = s.geometry := by
  simp [conclude, underReset, h]
@[simp] theorem conclude_chain (s : State) (h : s.sensors.resetPin = false) : (conclude s).chain = s.chain := by
  simp [conclude, underReset, h]
@[simp] theorem conclude_firing (s : State) (h : s.sensors.resetPin = false) : (conclude s).firing = s.firing := by
  simp [conclude, underReset, h]
@[simp] theorem conclude_registration (s : State) (h : s.sensors.resetPin = false) : (conclude s).registration = s.registration := by
  simp [conclude, underReset, h]
@[simp] theorem conclude_gumFold (s : State) (h : s.sensors.resetPin = false) : (conclude s).gumFold = s.gumFold := by
  simp [conclude, underReset, h]
@[simp] theorem conclude_verdicts (s : State) (h : s.sensors.resetPin = false) : (conclude s).verdicts = s.verdicts := by
  simp [conclude, underReset, h]
@[simp] theorem conclude_batch (s : State) (h : s.sensors.resetPin = false) : (conclude s).batch = s.batch := by
  simp [conclude, underReset, h]
@[simp] theorem conclude_banks (s : State) (h : s.sensors.resetPin = false) : (conclude s).banks = s.banks := by
  simp [conclude, underReset, h]
@[simp] theorem conclude_line (s : State) (h : s.sensors.resetPin = false) : (conclude s).line = s.line := by
  simp [conclude, underReset, h]
@[simp] theorem conclude_ports (s : State) (h : s.sensors.resetPin = false) : (conclude s).ports = s.ports := by
  simp [conclude, underReset, h]
@[simp] theorem conclude_sensors (s : State) : (conclude s).sensors = s.sensors := by
  simp only [conclude, underReset]; split <;> rfl
@[simp] theorem conclude_choices (s : State) : (conclude s).choices = s.choices := by
  simp only [conclude, underReset]; split <;> rfl
@[simp] theorem conclude_pending (s : State) : (conclude s).pending = s.pending := by
  simp only [conclude, underReset]; split <;> rfl
theorem conclude_eq (s : State) (h : s.sensors.resetPin = false) : conclude s = { s with pins := pinsOf s } := by
  simp [conclude, underReset, h]

/-! ### writing to a record (R23) -/

@[simp] theorem updateRecord_shaft (q : Seq) (f : Record → Record) (s : State) : (updateRecord q f s).shaft = s.shaft := rfl
@[simp] theorem updateRecord_geometry (q : Seq) (f : Record → Record) (s : State) : (updateRecord q f s).geometry = s.geometry := rfl
@[simp] theorem updateRecord_firing (q : Seq) (f : Record → Record) (s : State) : (updateRecord q f s).firing = s.firing := rfl
@[simp] theorem updateRecord_registration (q : Seq) (f : Record → Record) (s : State) : (updateRecord q f s).registration = s.registration := rfl
@[simp] theorem updateRecord_gumFold (q : Seq) (f : Record → Record) (s : State) : (updateRecord q f s).gumFold = s.gumFold := rfl
@[simp] theorem updateRecord_verdicts (q : Seq) (f : Record → Record) (s : State) : (updateRecord q f s).verdicts = s.verdicts := rfl
@[simp] theorem updateRecord_batch (q : Seq) (f : Record → Record) (s : State) : (updateRecord q f s).batch = s.batch := rfl
@[simp] theorem updateRecord_banks (q : Seq) (f : Record → Record) (s : State) : (updateRecord q f s).banks = s.banks := rfl
@[simp] theorem updateRecord_line (q : Seq) (f : Record → Record) (s : State) : (updateRecord q f s).line = s.line := rfl
@[simp] theorem updateRecord_ports (q : Seq) (f : Record → Record) (s : State) : (updateRecord q f s).ports = s.ports := rfl
@[simp] theorem updateRecord_sensors (q : Seq) (f : Record → Record) (s : State) : (updateRecord q f s).sensors = s.sensors := rfl
@[simp] theorem updateRecord_pins (q : Seq) (f : Record → Record) (s : State) : (updateRecord q f s).pins = s.pins := rfl
@[simp] theorem updateRecord_choices (q : Seq) (f : Record → Record) (s : State) : (updateRecord q f s).choices = s.choices := rfl
@[simp] theorem updateRecord_pending (q : Seq) (f : Record → Record) (s : State) : (updateRecord q f s).pending = s.pending := rfl

/-! ### adding a reason (R24) -/

@[simp] theorem addReason_shaft (q : Seq) (e : Reason) (s : State) : (addReason q e s).shaft = s.shaft := rfl
@[simp] theorem addReason_geometry (q : Seq) (e : Reason) (s : State) : (addReason q e s).geometry = s.geometry := rfl
@[simp] theorem addReason_firing (q : Seq) (e : Reason) (s : State) : (addReason q e s).firing = s.firing := rfl
@[simp] theorem addReason_registration (q : Seq) (e : Reason) (s : State) : (addReason q e s).registration = s.registration := rfl
@[simp] theorem addReason_gumFold (q : Seq) (e : Reason) (s : State) : (addReason q e s).gumFold = s.gumFold := rfl
@[simp] theorem addReason_verdicts (q : Seq) (e : Reason) (s : State) : (addReason q e s).verdicts = s.verdicts := rfl
@[simp] theorem addReason_batch (q : Seq) (e : Reason) (s : State) : (addReason q e s).batch = s.batch := rfl
@[simp] theorem addReason_banks (q : Seq) (e : Reason) (s : State) : (addReason q e s).banks = s.banks := rfl
@[simp] theorem addReason_line (q : Seq) (e : Reason) (s : State) : (addReason q e s).line = s.line := rfl
@[simp] theorem addReason_ports (q : Seq) (e : Reason) (s : State) : (addReason q e s).ports = s.ports := rfl
@[simp] theorem addReason_sensors (q : Seq) (e : Reason) (s : State) : (addReason q e s).sensors = s.sensors := rfl
@[simp] theorem addReason_pins (q : Seq) (e : Reason) (s : State) : (addReason q e s).pins = s.pins := rfl
@[simp] theorem addReason_choices (q : Seq) (e : Reason) (s : State) : (addReason q e s).choices = s.choices := rfl
@[simp] theorem addReason_pending (q : Seq) (e : Reason) (s : State) : (addReason q e s).pending = s.pending := rfl

/-! ### putting a bank into a state (R126) -/

@[simp] theorem setBankState_shaft (b : BankId) (st : BankState) (s : State) : (setBankState b st s).shaft = s.shaft := rfl
@[simp] theorem setBankState_geometry (b : BankId) (st : BankState) (s : State) : (setBankState b st s).geometry = s.geometry := rfl
@[simp] theorem setBankState_chain (b : BankId) (st : BankState) (s : State) : (setBankState b st s).chain = s.chain := rfl
@[simp] theorem setBankState_firing (b : BankId) (st : BankState) (s : State) : (setBankState b st s).firing = s.firing := rfl
@[simp] theorem setBankState_registration (b : BankId) (st : BankState) (s : State) : (setBankState b st s).registration = s.registration := rfl
@[simp] theorem setBankState_gumFold (b : BankId) (st : BankState) (s : State) : (setBankState b st s).gumFold = s.gumFold := rfl
@[simp] theorem setBankState_verdicts (b : BankId) (st : BankState) (s : State) : (setBankState b st s).verdicts = s.verdicts := rfl
@[simp] theorem setBankState_batch (b : BankId) (st : BankState) (s : State) : (setBankState b st s).batch = s.batch := rfl
@[simp] theorem setBankState_line (b : BankId) (st : BankState) (s : State) : (setBankState b st s).line = s.line := rfl
@[simp] theorem setBankState_ports (b : BankId) (st : BankState) (s : State) : (setBankState b st s).ports = s.ports := rfl
@[simp] theorem setBankState_sensors (b : BankId) (st : BankState) (s : State) : (setBankState b st s).sensors = s.sensors := rfl
@[simp] theorem setBankState_pins (b : BankId) (st : BankState) (s : State) : (setBankState b st s).pins = s.pins := rfl
@[simp] theorem setBankState_choices (b : BankId) (st : BankState) (s : State) : (setBankState b st s).choices = s.choices := rfl
@[simp] theorem setBankState_pending (b : BankId) (st : BankState) (s : State) : (setBankState b st s).pending = s.pending := rfl

/-! ### zeroing the drift filter (R70) -/

@[simp] theorem zeroDrift_shaft (s : State) : (zeroDrift s).shaft = s.shaft := rfl
@[simp] theorem zeroDrift_geometry (s : State) : (zeroDrift s).geometry = s.geometry := rfl
@[simp] theorem zeroDrift_chain (s : State) : (zeroDrift s).chain = s.chain := rfl
@[simp] theorem zeroDrift_firing (s : State) : (zeroDrift s).firing = s.firing := rfl
@[simp] theorem zeroDrift_gumFold (s : State) : (zeroDrift s).gumFold = s.gumFold := rfl
@[simp] theorem zeroDrift_verdicts (s : State) : (zeroDrift s).verdicts = s.verdicts := rfl
@[simp] theorem zeroDrift_batch (s : State) : (zeroDrift s).batch = s.batch := rfl
@[simp] theorem zeroDrift_banks (s : State) : (zeroDrift s).banks = s.banks := rfl
@[simp] theorem zeroDrift_line (s : State) : (zeroDrift s).line = s.line := rfl
@[simp] theorem zeroDrift_ports (s : State) : (zeroDrift s).ports = s.ports := rfl
@[simp] theorem zeroDrift_sensors (s : State) : (zeroDrift s).sensors = s.sensors := rfl
@[simp] theorem zeroDrift_pins (s : State) : (zeroDrift s).pins = s.pins := rfl
@[simp] theorem zeroDrift_choices (s : State) : (zeroDrift s).choices = s.choices := rfl
@[simp] theorem zeroDrift_pending (s : State) : (zeroDrift s).pending = s.pending := rfl

/-! ### marking the open batch superseded (R107) -/

@[simp] theorem supersede_shaft (b : BankId) (s : State) : (supersede b s).shaft = s.shaft := rfl
@[simp] theorem supersede_geometry (b : BankId) (s : State) : (supersede b s).geometry = s.geometry := rfl
@[simp] theorem supersede_chain (b : BankId) (s : State) : (supersede b s).chain = s.chain := rfl
@[simp] theorem supersede_firing (b : BankId) (s : State) : (supersede b s).firing = s.firing := rfl
@[simp] theorem supersede_registration (b : BankId) (s : State) : (supersede b s).registration = s.registration := rfl
@[simp] theorem supersede_gumFold (b : BankId) (s : State) : (supersede b s).gumFold = s.gumFold := rfl
@[simp] theorem supersede_verdicts (b : BankId) (s : State) : (supersede b s).verdicts = s.verdicts := rfl
@[simp] theorem supersede_banks (b : BankId) (s : State) : (supersede b s).banks = s.banks := rfl
@[simp] theorem supersede_line (b : BankId) (s : State) : (supersede b s).line = s.line := rfl
@[simp] theorem supersede_ports (b : BankId) (s : State) : (supersede b s).ports = s.ports := rfl
@[simp] theorem supersede_sensors (b : BankId) (s : State) : (supersede b s).sensors = s.sensors := rfl
@[simp] theorem supersede_pins (b : BankId) (s : State) : (supersede b s).pins = s.pins := rfl
@[simp] theorem supersede_choices (b : BankId) (s : State) : (supersede b s).choices = s.choices := rfl
@[simp] theorem supersede_pending (b : BankId) (s : State) : (supersede b s).pending = s.pending := rfl

/-! ### making the period not valid (R9) -/

@[simp] theorem spoilPeriod_geometry (s : State) : (spoilPeriod s).geometry = s.geometry := rfl
@[simp] theorem spoilPeriod_chain (s : State) : (spoilPeriod s).chain = s.chain := rfl
@[simp] theorem spoilPeriod_firing (s : State) : (spoilPeriod s).firing = s.firing := rfl
@[simp] theorem spoilPeriod_registration (s : State) : (spoilPeriod s).registration = s.registration := rfl
@[simp] theorem spoilPeriod_gumFold (s : State) : (spoilPeriod s).gumFold = s.gumFold := rfl
@[simp] theorem spoilPeriod_verdicts (s : State) : (spoilPeriod s).verdicts = s.verdicts := rfl
@[simp] theorem spoilPeriod_batch (s : State) : (spoilPeriod s).batch = s.batch := rfl
@[simp] theorem spoilPeriod_banks (s : State) : (spoilPeriod s).banks = s.banks := rfl
@[simp] theorem spoilPeriod_line (s : State) : (spoilPeriod s).line = s.line := rfl
@[simp] theorem spoilPeriod_ports (s : State) : (spoilPeriod s).ports = s.ports := rfl
@[simp] theorem spoilPeriod_sensors (s : State) : (spoilPeriod s).sensors = s.sensors := rfl
@[simp] theorem spoilPeriod_pins (s : State) : (spoilPeriod s).pins = s.pins := rfl
@[simp] theorem spoilPeriod_choices (s : State) : (spoilPeriod s).choices = s.choices := rfl
@[simp] theorem spoilPeriod_pending (s : State) : (spoilPeriod s).pending = s.pending := rfl

/-! ### shutting the windows (R63, R85) -/

@[simp] theorem shutWindows_shaft (s : State) : (shutWindows s).shaft = s.shaft := rfl
@[simp] theorem shutWindows_geometry (s : State) : (shutWindows s).geometry = s.geometry := rfl
@[simp] theorem shutWindows_chain (s : State) : (shutWindows s).chain = s.chain := rfl
@[simp] theorem shutWindows_firing (s : State) : (shutWindows s).firing = s.firing := rfl
@[simp] theorem shutWindows_verdicts (s : State) : (shutWindows s).verdicts = s.verdicts := rfl
@[simp] theorem shutWindows_batch (s : State) : (shutWindows s).batch = s.batch := rfl
@[simp] theorem shutWindows_banks (s : State) : (shutWindows s).banks = s.banks := rfl
@[simp] theorem shutWindows_line (s : State) : (shutWindows s).line = s.line := rfl
@[simp] theorem shutWindows_ports (s : State) : (shutWindows s).ports = s.ports := rfl
@[simp] theorem shutWindows_sensors (s : State) : (shutWindows s).sensors = s.sensors := rfl
@[simp] theorem shutWindows_pins (s : State) : (shutWindows s).pins = s.pins := rfl
@[simp] theorem shutWindows_choices (s : State) : (shutWindows s).choices = s.choices := rfl
@[simp] theorem shutWindows_pending (s : State) : (shutWindows s).pending = s.pending := rfl

/-! ### leaving RUN or DRAIN (R55) -/

@[simp] theorem leaveRunning_shaft (s : State) : (leaveRunning s).shaft = s.shaft := rfl
@[simp] theorem leaveRunning_geometry (s : State) : (leaveRunning s).geometry = s.geometry := rfl
@[simp] theorem leaveRunning_chain (s : State) : (leaveRunning s).chain = s.chain := rfl
@[simp] theorem leaveRunning_verdicts (s : State) : (leaveRunning s).verdicts = s.verdicts := rfl
@[simp] theorem leaveRunning_batch (s : State) : (leaveRunning s).batch = s.batch := rfl
@[simp] theorem leaveRunning_banks (s : State) : (leaveRunning s).banks = s.banks := rfl
@[simp] theorem leaveRunning_line (s : State) : (leaveRunning s).line = s.line := rfl
@[simp] theorem leaveRunning_ports (s : State) : (leaveRunning s).ports = s.ports := rfl
@[simp] theorem leaveRunning_sensors (s : State) : (leaveRunning s).sensors = s.sensors := rfl
@[simp] theorem leaveRunning_pins (s : State) : (leaveRunning s).pins = s.pins := rfl
@[simp] theorem leaveRunning_choices (s : State) : (leaveRunning s).choices = s.choices := rfl
@[simp] theorem leaveRunning_pending (s : State) : (leaveRunning s).pending = s.pending := rfl

/-! ### marking the disturbed zone (R142) -/

@[simp] theorem markZone_shaft (s : State) : (markZone s).shaft = s.shaft := rfl
@[simp] theorem markZone_geometry (s : State) : (markZone s).geometry = s.geometry := rfl
@[simp] theorem markZone_firing (s : State) : (markZone s).firing = s.firing := rfl
@[simp] theorem markZone_registration (s : State) : (markZone s).registration = s.registration := rfl
@[simp] theorem markZone_gumFold (s : State) : (markZone s).gumFold = s.gumFold := rfl
@[simp] theorem markZone_verdicts (s : State) : (markZone s).verdicts = s.verdicts := rfl
@[simp] theorem markZone_batch (s : State) : (markZone s).batch = s.batch := rfl
@[simp] theorem markZone_banks (s : State) : (markZone s).banks = s.banks := rfl
@[simp] theorem markZone_line (s : State) : (markZone s).line = s.line := rfl
@[simp] theorem markZone_ports (s : State) : (markZone s).ports = s.ports := rfl
@[simp] theorem markZone_sensors (s : State) : (markZone s).sensors = s.sensors := rfl
@[simp] theorem markZone_pins (s : State) : (markZone s).pins = s.pins := rfl
@[simp] theorem markZone_choices (s : State) : (markZone s).choices = s.choices := rfl
@[simp] theorem markZone_pending (s : State) : (markZone s).pending = s.pending := rfl

/-! ### making the subjects absent (R77) -/

@[simp] theorem noSubjects_shaft (s : State) : (noSubjects s).shaft = s.shaft := rfl
@[simp] theorem noSubjects_geometry (s : State) : (noSubjects s).geometry = s.geometry := rfl
@[simp] theorem noSubjects_chain (s : State) : (noSubjects s).chain = s.chain := rfl
@[simp] theorem noSubjects_firing (s : State) : (noSubjects s).firing = s.firing := rfl
@[simp] theorem noSubjects_gumFold (s : State) : (noSubjects s).gumFold = s.gumFold := rfl
@[simp] theorem noSubjects_verdicts (s : State) : (noSubjects s).verdicts = s.verdicts := rfl
@[simp] theorem noSubjects_batch (s : State) : (noSubjects s).batch = s.batch := rfl
@[simp] theorem noSubjects_banks (s : State) : (noSubjects s).banks = s.banks := rfl
@[simp] theorem noSubjects_line (s : State) : (noSubjects s).line = s.line := rfl
@[simp] theorem noSubjects_ports (s : State) : (noSubjects s).ports = s.ports := rfl
@[simp] theorem noSubjects_sensors (s : State) : (noSubjects s).sensors = s.sensors := rfl
@[simp] theorem noSubjects_pins (s : State) : (noSubjects s).pins = s.pins := rfl
@[simp] theorem noSubjects_choices (s : State) : (noSubjects s).choices = s.choices := rfl
@[simp] theorem noSubjects_pending (s : State) : (noSubjects s).pending = s.pending := rfl

/-! ### answering a request (R153) -/

@[simp] theorem answer_shaft (l : Link) (c : Command) (st : Status) (p : List Byte) (s : State) : (answer l c st p s).shaft = s.shaft := rfl
@[simp] theorem answer_geometry (l : Link) (c : Command) (st : Status) (p : List Byte) (s : State) : (answer l c st p s).geometry = s.geometry := rfl
@[simp] theorem answer_chain (l : Link) (c : Command) (st : Status) (p : List Byte) (s : State) : (answer l c st p s).chain = s.chain := rfl
@[simp] theorem answer_firing (l : Link) (c : Command) (st : Status) (p : List Byte) (s : State) : (answer l c st p s).firing = s.firing := rfl
@[simp] theorem answer_registration (l : Link) (c : Command) (st : Status) (p : List Byte) (s : State) : (answer l c st p s).registration = s.registration := rfl
@[simp] theorem answer_gumFold (l : Link) (c : Command) (st : Status) (p : List Byte) (s : State) : (answer l c st p s).gumFold = s.gumFold := rfl
@[simp] theorem answer_verdicts (l : Link) (c : Command) (st : Status) (p : List Byte) (s : State) : (answer l c st p s).verdicts = s.verdicts := rfl
@[simp] theorem answer_batch (l : Link) (c : Command) (st : Status) (p : List Byte) (s : State) : (answer l c st p s).batch = s.batch := rfl
@[simp] theorem answer_banks (l : Link) (c : Command) (st : Status) (p : List Byte) (s : State) : (answer l c st p s).banks = s.banks := rfl
@[simp] theorem answer_line (l : Link) (c : Command) (st : Status) (p : List Byte) (s : State) : (answer l c st p s).line = s.line := rfl
@[simp] theorem answer_sensors (l : Link) (c : Command) (st : Status) (p : List Byte) (s : State) : (answer l c st p s).sensors = s.sensors := rfl
@[simp] theorem answer_pins (l : Link) (c : Command) (st : Status) (p : List Byte) (s : State) : (answer l c st p s).pins = s.pins := rfl
@[simp] theorem answer_choices (l : Link) (c : Command) (st : Status) (p : List Byte) (s : State) : (answer l c st p s).choices = s.choices := rfl
@[simp] theorem answer_pending (l : Link) (c : Command) (st : Status) (p : List Byte) (s : State) : (answer l c st p s).pending = s.pending := rfl

/-! ### replacing a list of held firings (R47) -/

@[simp] theorem setHeld_shaft (ch : Channel) (fs : List Firing) (s : State) : (setHeld ch fs s).shaft = s.shaft := rfl
@[simp] theorem setHeld_geometry (ch : Channel) (fs : List Firing) (s : State) : (setHeld ch fs s).geometry = s.geometry := rfl
@[simp] theorem setHeld_chain (ch : Channel) (fs : List Firing) (s : State) : (setHeld ch fs s).chain = s.chain := rfl
@[simp] theorem setHeld_registration (ch : Channel) (fs : List Firing) (s : State) : (setHeld ch fs s).registration = s.registration := rfl
@[simp] theorem setHeld_gumFold (ch : Channel) (fs : List Firing) (s : State) : (setHeld ch fs s).gumFold = s.gumFold := rfl
@[simp] theorem setHeld_verdicts (ch : Channel) (fs : List Firing) (s : State) : (setHeld ch fs s).verdicts = s.verdicts := rfl
@[simp] theorem setHeld_batch (ch : Channel) (fs : List Firing) (s : State) : (setHeld ch fs s).batch = s.batch := rfl
@[simp] theorem setHeld_banks (ch : Channel) (fs : List Firing) (s : State) : (setHeld ch fs s).banks = s.banks := rfl
@[simp] theorem setHeld_line (ch : Channel) (fs : List Firing) (s : State) : (setHeld ch fs s).line = s.line := rfl
@[simp] theorem setHeld_ports (ch : Channel) (fs : List Firing) (s : State) : (setHeld ch fs s).ports = s.ports := rfl
@[simp] theorem setHeld_sensors (ch : Channel) (fs : List Firing) (s : State) : (setHeld ch fs s).sensors = s.sensors := rfl
@[simp] theorem setHeld_pins (ch : Channel) (fs : List Firing) (s : State) : (setHeld ch fs s).pins = s.pins := rfl
@[simp] theorem setHeld_choices (ch : Channel) (fs : List Firing) (s : State) : (setHeld ch fs s).choices = s.choices := rfl
@[simp] theorem setHeld_pending (ch : Channel) (fs : List Firing) (s : State) : (setHeld ch fs s).pending = s.pending := rfl

/-! ### writing to a held firing (R47) -/

@[simp] theorem updateFiring_shaft (ch : Channel) (q : Seq) (g : Firing → Firing) (s : State) : (updateFiring ch q g s).shaft = s.shaft := rfl
@[simp] theorem updateFiring_geometry (ch : Channel) (q : Seq) (g : Firing → Firing) (s : State) : (updateFiring ch q g s).geometry = s.geometry := rfl
@[simp] theorem updateFiring_chain (ch : Channel) (q : Seq) (g : Firing → Firing) (s : State) : (updateFiring ch q g s).chain = s.chain := rfl
@[simp] theorem updateFiring_registration (ch : Channel) (q : Seq) (g : Firing → Firing) (s : State) : (updateFiring ch q g s).registration = s.registration := rfl
@[simp] theorem updateFiring_gumFold (ch : Channel) (q : Seq) (g : Firing → Firing) (s : State) : (updateFiring ch q g s).gumFold = s.gumFold := rfl
@[simp] theorem updateFiring_verdicts (ch : Channel) (q : Seq) (g : Firing → Firing) (s : State) : (updateFiring ch q g s).verdicts = s.verdicts := rfl
@[simp] theorem updateFiring_batch (ch : Channel) (q : Seq) (g : Firing → Firing) (s : State) : (updateFiring ch q g s).batch = s.batch := rfl
@[simp] theorem updateFiring_banks (ch : Channel) (q : Seq) (g : Firing → Firing) (s : State) : (updateFiring ch q g s).banks = s.banks := rfl
@[simp] theorem updateFiring_line (ch : Channel) (q : Seq) (g : Firing → Firing) (s : State) : (updateFiring ch q g s).line = s.line := rfl
@[simp] theorem updateFiring_ports (ch : Channel) (q : Seq) (g : Firing → Firing) (s : State) : (updateFiring ch q g s).ports = s.ports := rfl
@[simp] theorem updateFiring_sensors (ch : Channel) (q : Seq) (g : Firing → Firing) (s : State) : (updateFiring ch q g s).sensors = s.sensors := rfl
@[simp] theorem updateFiring_pins (ch : Channel) (q : Seq) (g : Firing → Firing) (s : State) : (updateFiring ch q g s).pins = s.pins := rfl
@[simp] theorem updateFiring_choices (ch : Channel) (q : Seq) (g : Firing → Firing) (s : State) : (updateFiring ch q g s).choices = s.choices := rfl
@[simp] theorem updateFiring_pending (ch : Channel) (q : Seq) (g : Firing → Firing) (s : State) : (updateFiring ch q g s).pending = s.pending := rfl

/-! ### a firing leaving its list (R47) -/

@[simp] theorem dropFiring_shaft (ch : Channel) (q : Seq) (s : State) : (dropFiring ch q s).shaft = s.shaft := rfl
@[simp] theorem dropFiring_geometry (ch : Channel) (q : Seq) (s : State) : (dropFiring ch q s).geometry = s.geometry := rfl
@[simp] theorem dropFiring_chain (ch : Channel) (q : Seq) (s : State) : (dropFiring ch q s).chain = s.chain := rfl
@[simp] theorem dropFiring_registration (ch : Channel) (q : Seq) (s : State) : (dropFiring ch q s).registration = s.registration := rfl
@[simp] theorem dropFiring_gumFold (ch : Channel) (q : Seq) (s : State) : (dropFiring ch q s).gumFold = s.gumFold := rfl
@[simp] theorem dropFiring_verdicts (ch : Channel) (q : Seq) (s : State) : (dropFiring ch q s).verdicts = s.verdicts := rfl
@[simp] theorem dropFiring_batch (ch : Channel) (q : Seq) (s : State) : (dropFiring ch q s).batch = s.batch := rfl
@[simp] theorem dropFiring_banks (ch : Channel) (q : Seq) (s : State) : (dropFiring ch q s).banks = s.banks := rfl
@[simp] theorem dropFiring_line (ch : Channel) (q : Seq) (s : State) : (dropFiring ch q s).line = s.line := rfl
@[simp] theorem dropFiring_ports (ch : Channel) (q : Seq) (s : State) : (dropFiring ch q s).ports = s.ports := rfl
@[simp] theorem dropFiring_sensors (ch : Channel) (q : Seq) (s : State) : (dropFiring ch q s).sensors = s.sensors := rfl
@[simp] theorem dropFiring_pins (ch : Channel) (q : Seq) (s : State) : (dropFiring ch q s).pins = s.pins := rfl
@[simp] theorem dropFiring_choices (ch : Channel) (q : Seq) (s : State) : (dropFiring ch q s).choices = s.choices := rfl
@[simp] theorem dropFiring_pending (ch : Channel) (q : Seq) (s : State) : (dropFiring ch q s).pending = s.pending := rfl

/-! ### a firing going ahead (R48) -/

@[simp] theorem goAhead_shaft (ch : Channel) (q : Seq) (s : State) : (goAhead ch q s).shaft = s.shaft := rfl
@[simp] theorem goAhead_geometry (ch : Channel) (q : Seq) (s : State) : (goAhead ch q s).geometry = s.geometry := rfl
@[simp] theorem goAhead_chain (ch : Channel) (q : Seq) (s : State) : (goAhead ch q s).chain = s.chain := rfl
@[simp] theorem goAhead_registration (ch : Channel) (q : Seq) (s : State) : (goAhead ch q s).registration = s.registration := rfl
@[simp] theorem goAhead_gumFold (ch : Channel) (q : Seq) (s : State) : (goAhead ch q s).gumFold = s.gumFold := rfl
@[simp] theorem goAhead_verdicts (ch : Channel) (q : Seq) (s : State) : (goAhead ch q s).verdicts = s.verdicts := rfl
@[simp] theorem goAhead_batch (ch : Channel) (q : Seq) (s : State) : (goAhead ch q s).batch = s.batch := rfl
@[simp] theorem goAhead_banks (ch : Channel) (q : Seq) (s : State) : (goAhead ch q s).banks = s.banks := rfl
@[simp] theorem goAhead_line (ch : Channel) (q : Seq) (s : State) : (goAhead ch q s).line = s.line := rfl
@[simp] theorem goAhead_ports (ch : Channel) (q : Seq) (s : State) : (goAhead ch q s).ports = s.ports := rfl
@[simp] theorem goAhead_sensors (ch : Channel) (q : Seq) (s : State) : (goAhead ch q s).sensors = s.sensors := rfl
@[simp] theorem goAhead_pins (ch : Channel) (q : Seq) (s : State) : (goAhead ch q s).pins = s.pins := rfl
@[simp] theorem goAhead_choices (ch : Channel) (q : Seq) (s : State) : (goAhead ch q s).choices = s.choices := rfl
@[simp] theorem goAhead_pending (ch : Channel) (q : Seq) (s : State) : (goAhead ch q s).pending = s.pending := rfl

/-! ### counting a late open (R58) -/

@[simp] theorem countLateOpen_shaft (s : State) : (countLateOpen s).shaft = s.shaft := rfl
@[simp] theorem countLateOpen_geometry (s : State) : (countLateOpen s).geometry = s.geometry := rfl
@[simp] theorem countLateOpen_chain (s : State) : (countLateOpen s).chain = s.chain := rfl
@[simp] theorem countLateOpen_registration (s : State) : (countLateOpen s).registration = s.registration := rfl
@[simp] theorem countLateOpen_gumFold (s : State) : (countLateOpen s).gumFold = s.gumFold := rfl
@[simp] theorem countLateOpen_verdicts (s : State) : (countLateOpen s).verdicts = s.verdicts := rfl
@[simp] theorem countLateOpen_batch (s : State) : (countLateOpen s).batch = s.batch := rfl
@[simp] theorem countLateOpen_banks (s : State) : (countLateOpen s).banks = s.banks := rfl
@[simp] theorem countLateOpen_line (s : State) : (countLateOpen s).line = s.line := rfl
@[simp] theorem countLateOpen_ports (s : State) : (countLateOpen s).ports = s.ports := rfl
@[simp] theorem countLateOpen_sensors (s : State) : (countLateOpen s).sensors = s.sensors := rfl
@[simp] theorem countLateOpen_pins (s : State) : (countLateOpen s).pins = s.pins := rfl
@[simp] theorem countLateOpen_choices (s : State) : (countLateOpen s).choices = s.choices := rfl
@[simp] theorem countLateOpen_pending (s : State) : (countLateOpen s).pending = s.pending := rfl

/-! ### removing a gum progress entry (R81) -/

@[simp] theorem forgetGum_shaft (q : Seq) (s : State) : (forgetGum q s).shaft = s.shaft := rfl
@[simp] theorem forgetGum_geometry (q : Seq) (s : State) : (forgetGum q s).geometry = s.geometry := rfl
@[simp] theorem forgetGum_chain (q : Seq) (s : State) : (forgetGum q s).chain = s.chain := rfl
@[simp] theorem forgetGum_firing (q : Seq) (s : State) : (forgetGum q s).firing = s.firing := rfl
@[simp] theorem forgetGum_registration (q : Seq) (s : State) : (forgetGum q s).registration = s.registration := rfl
@[simp] theorem forgetGum_verdicts (q : Seq) (s : State) : (forgetGum q s).verdicts = s.verdicts := rfl
@[simp] theorem forgetGum_batch (q : Seq) (s : State) : (forgetGum q s).batch = s.batch := rfl
@[simp] theorem forgetGum_banks (q : Seq) (s : State) : (forgetGum q s).banks = s.banks := rfl
@[simp] theorem forgetGum_line (q : Seq) (s : State) : (forgetGum q s).line = s.line := rfl
@[simp] theorem forgetGum_ports (q : Seq) (s : State) : (forgetGum q s).ports = s.ports := rfl
@[simp] theorem forgetGum_sensors (q : Seq) (s : State) : (forgetGum q s).sensors = s.sensors := rfl
@[simp] theorem forgetGum_pins (q : Seq) (s : State) : (forgetGum q s).pins = s.pins := rfl
@[simp] theorem forgetGum_choices (q : Seq) (s : State) : (forgetGum q s).choices = s.choices := rfl
@[simp] theorem forgetGum_pending (q : Seq) (s : State) : (forgetGum q s).pending = s.pending := rfl

/-! ### writing gummed (R81) -/

@[simp] theorem setGummed_shaft (q : Seq) (w : Work) (s : State) : (setGummed q w s).shaft = s.shaft := rfl
@[simp] theorem setGummed_geometry (q : Seq) (w : Work) (s : State) : (setGummed q w s).geometry = s.geometry := rfl
@[simp] theorem setGummed_firing (q : Seq) (w : Work) (s : State) : (setGummed q w s).firing = s.firing := rfl
@[simp] theorem setGummed_registration (q : Seq) (w : Work) (s : State) : (setGummed q w s).registration = s.registration := rfl
@[simp] theorem setGummed_verdicts (q : Seq) (w : Work) (s : State) : (setGummed q w s).verdicts = s.verdicts := rfl
@[simp] theorem setGummed_batch (q : Seq) (w : Work) (s : State) : (setGummed q w s).batch = s.batch := rfl
@[simp] theorem setGummed_banks (q : Seq) (w : Work) (s : State) : (setGummed q w s).banks = s.banks := rfl
@[simp] theorem setGummed_line (q : Seq) (w : Work) (s : State) : (setGummed q w s).line = s.line := rfl
@[simp] theorem setGummed_ports (q : Seq) (w : Work) (s : State) : (setGummed q w s).ports = s.ports := rfl
@[simp] theorem setGummed_sensors (q : Seq) (w : Work) (s : State) : (setGummed q w s).sensors = s.sensors := rfl
@[simp] theorem setGummed_pins (q : Seq) (w : Work) (s : State) : (setGummed q w s).pins = s.pins := rfl
@[simp] theorem setGummed_choices (q : Seq) (w : Work) (s : State) : (setGummed q w s).choices = s.choices := rfl
@[simp] theorem setGummed_pending (q : Seq) (w : Work) (s : State) : (setGummed q w s).pending = s.pending := rfl

/-! ### cleaning the gum progress list (R82) -/

@[simp] theorem cleanProgress_shaft (s : State) : (cleanProgress s).shaft = s.shaft := rfl
@[simp] theorem cleanProgress_geometry (s : State) : (cleanProgress s).geometry = s.geometry := rfl
@[simp] theorem cleanProgress_chain (s : State) : (cleanProgress s).chain = s.chain := rfl
@[simp] theorem cleanProgress_firing (s : State) : (cleanProgress s).firing = s.firing := rfl
@[simp] theorem cleanProgress_registration (s : State) : (cleanProgress s).registration = s.registration := rfl
@[simp] theorem cleanProgress_verdicts (s : State) : (cleanProgress s).verdicts = s.verdicts := rfl
@[simp] theorem cleanProgress_batch (s : State) : (cleanProgress s).batch = s.batch := rfl
@[simp] theorem cleanProgress_banks (s : State) : (cleanProgress s).banks = s.banks := rfl
@[simp] theorem cleanProgress_line (s : State) : (cleanProgress s).line = s.line := rfl
@[simp] theorem cleanProgress_ports (s : State) : (cleanProgress s).ports = s.ports := rfl
@[simp] theorem cleanProgress_sensors (s : State) : (cleanProgress s).sensors = s.sensors := rfl
@[simp] theorem cleanProgress_pins (s : State) : (cleanProgress s).pins = s.pins := rfl
@[simp] theorem cleanProgress_choices (s : State) : (cleanProgress s).choices = s.choices := rfl
@[simp] theorem cleanProgress_pending (s : State) : (cleanProgress s).pending = s.pending := rfl

/-! ### counting a refused verdict (R96) -/

@[simp] theorem refuseVerdict_shaft (s : State) : (refuseVerdict s).shaft = s.shaft := rfl
@[simp] theorem refuseVerdict_geometry (s : State) : (refuseVerdict s).geometry = s.geometry := rfl
@[simp] theorem refuseVerdict_chain (s : State) : (refuseVerdict s).chain = s.chain := rfl
@[simp] theorem refuseVerdict_firing (s : State) : (refuseVerdict s).firing = s.firing := rfl
@[simp] theorem refuseVerdict_registration (s : State) : (refuseVerdict s).registration = s.registration := rfl
@[simp] theorem refuseVerdict_gumFold (s : State) : (refuseVerdict s).gumFold = s.gumFold := rfl
@[simp] theorem refuseVerdict_batch (s : State) : (refuseVerdict s).batch = s.batch := rfl
@[simp] theorem refuseVerdict_banks (s : State) : (refuseVerdict s).banks = s.banks := rfl
@[simp] theorem refuseVerdict_line (s : State) : (refuseVerdict s).line = s.line := rfl
@[simp] theorem refuseVerdict_ports (s : State) : (refuseVerdict s).ports = s.ports := rfl
@[simp] theorem refuseVerdict_sensors (s : State) : (refuseVerdict s).sensors = s.sensors := rfl
@[simp] theorem refuseVerdict_pins (s : State) : (refuseVerdict s).pins = s.pins := rfl
@[simp] theorem refuseVerdict_choices (s : State) : (refuseVerdict s).choices = s.choices := rfl
@[simp] theorem refuseVerdict_pending (s : State) : (refuseVerdict s).pending = s.pending := rfl

/-! ### opening a batch (R108) -/

@[simp] theorem openNewBatch_shaft (r : Record) (s : State) : (openNewBatch r s).shaft = s.shaft := rfl
@[simp] theorem openNewBatch_geometry (r : Record) (s : State) : (openNewBatch r s).geometry = s.geometry := rfl
@[simp] theorem openNewBatch_chain (r : Record) (s : State) : (openNewBatch r s).chain = s.chain := rfl
@[simp] theorem openNewBatch_firing (r : Record) (s : State) : (openNewBatch r s).firing = s.firing := rfl
@[simp] theorem openNewBatch_registration (r : Record) (s : State) : (openNewBatch r s).registration = s.registration := rfl
@[simp] theorem openNewBatch_gumFold (r : Record) (s : State) : (openNewBatch r s).gumFold = s.gumFold := rfl
@[simp] theorem openNewBatch_verdicts (r : Record) (s : State) : (openNewBatch r s).verdicts = s.verdicts := rfl
@[simp] theorem openNewBatch_banks (r : Record) (s : State) : (openNewBatch r s).banks = s.banks := rfl
@[simp] theorem openNewBatch_line (r : Record) (s : State) : (openNewBatch r s).line = s.line := rfl
@[simp] theorem openNewBatch_ports (r : Record) (s : State) : (openNewBatch r s).ports = s.ports := rfl
@[simp] theorem openNewBatch_sensors (r : Record) (s : State) : (openNewBatch r s).sensors = s.sensors := rfl
@[simp] theorem openNewBatch_pins (r : Record) (s : State) : (openNewBatch r s).pins = s.pins := rfl
@[simp] theorem openNewBatch_choices (r : Record) (s : State) : (openNewBatch r s).choices = s.choices := rfl
@[simp] theorem openNewBatch_pending (r : Record) (s : State) : (openNewBatch r s).pending = s.pending := rfl

/-! ### counting a record into the open batch (R109) -/

@[simp] theorem countInto_shaft (r : Record) (s : State) : (countInto r s).shaft = s.shaft := rfl
@[simp] theorem countInto_geometry (r : Record) (s : State) : (countInto r s).geometry = s.geometry := rfl
@[simp] theorem countInto_firing (r : Record) (s : State) : (countInto r s).firing = s.firing := rfl
@[simp] theorem countInto_registration (r : Record) (s : State) : (countInto r s).registration = s.registration := rfl
@[simp] theorem countInto_gumFold (r : Record) (s : State) : (countInto r s).gumFold = s.gumFold := rfl
@[simp] theorem countInto_verdicts (r : Record) (s : State) : (countInto r s).verdicts = s.verdicts := rfl
@[simp] theorem countInto_banks (r : Record) (s : State) : (countInto r s).banks = s.banks := rfl
@[simp] theorem countInto_line (r : Record) (s : State) : (countInto r s).line = s.line := rfl
@[simp] theorem countInto_ports (r : Record) (s : State) : (countInto r s).ports = s.ports := rfl
@[simp] theorem countInto_sensors (r : Record) (s : State) : (countInto r s).sensors = s.sensors := rfl
@[simp] theorem countInto_pins (r : Record) (s : State) : (countInto r s).pins = s.pins := rfl
@[simp] theorem countInto_choices (r : Record) (s : State) : (countInto r s).choices = s.choices := rfl
@[simp] theorem countInto_pending (r : Record) (s : State) : (countInto r s).pending = s.pending := rfl

/-! ### writing patched -/

@[simp] theorem setPatched_shaft (q : Seq) (w : Work) (s : State) : (setPatched q w s).shaft = s.shaft := rfl
@[simp] theorem setPatched_geometry (q : Seq) (w : Work) (s : State) : (setPatched q w s).geometry = s.geometry := rfl
@[simp] theorem setPatched_firing (q : Seq) (w : Work) (s : State) : (setPatched q w s).firing = s.firing := rfl
@[simp] theorem setPatched_registration (q : Seq) (w : Work) (s : State) : (setPatched q w s).registration = s.registration := rfl
@[simp] theorem setPatched_gumFold (q : Seq) (w : Work) (s : State) : (setPatched q w s).gumFold = s.gumFold := rfl
@[simp] theorem setPatched_verdicts (q : Seq) (w : Work) (s : State) : (setPatched q w s).verdicts = s.verdicts := rfl
@[simp] theorem setPatched_batch (q : Seq) (w : Work) (s : State) : (setPatched q w s).batch = s.batch := rfl
@[simp] theorem setPatched_banks (q : Seq) (w : Work) (s : State) : (setPatched q w s).banks = s.banks := rfl
@[simp] theorem setPatched_line (q : Seq) (w : Work) (s : State) : (setPatched q w s).line = s.line := rfl
@[simp] theorem setPatched_ports (q : Seq) (w : Work) (s : State) : (setPatched q w s).ports = s.ports := rfl
@[simp] theorem setPatched_sensors (q : Seq) (w : Work) (s : State) : (setPatched q w s).sensors = s.sensors := rfl
@[simp] theorem setPatched_pins (q : Seq) (w : Work) (s : State) : (setPatched q w s).pins = s.pins := rfl
@[simp] theorem setPatched_choices (q : Seq) (w : Work) (s : State) : (setPatched q w s).choices = s.choices := rfl
@[simp] theorem setPatched_pending (q : Seq) (w : Work) (s : State) : (setPatched q w s).pending = s.pending := rfl

/-! ### dropping WAITING firings (R53) -/

@[simp] theorem dropWaiting_shaft (s : State) : (dropWaiting s).shaft = s.shaft := rfl
@[simp] theorem dropWaiting_geometry (s : State) : (dropWaiting s).geometry = s.geometry := rfl
@[simp] theorem dropWaiting_chain (s : State) : (dropWaiting s).chain = s.chain := rfl
@[simp] theorem dropWaiting_registration (s : State) : (dropWaiting s).registration = s.registration := rfl
@[simp] theorem dropWaiting_gumFold (s : State) : (dropWaiting s).gumFold = s.gumFold := rfl
@[simp] theorem dropWaiting_verdicts (s : State) : (dropWaiting s).verdicts = s.verdicts := rfl
@[simp] theorem dropWaiting_batch (s : State) : (dropWaiting s).batch = s.batch := rfl
@[simp] theorem dropWaiting_banks (s : State) : (dropWaiting s).banks = s.banks := rfl
@[simp] theorem dropWaiting_line (s : State) : (dropWaiting s).line = s.line := rfl
@[simp] theorem dropWaiting_ports (s : State) : (dropWaiting s).ports = s.ports := rfl
@[simp] theorem dropWaiting_sensors (s : State) : (dropWaiting s).sensors = s.sensors := rfl
@[simp] theorem dropWaiting_pins (s : State) : (dropWaiting s).pins = s.pins := rfl
@[simp] theorem dropWaiting_choices (s : State) : (dropWaiting s).choices = s.choices := rfl
@[simp] theorem dropWaiting_pending (s : State) : (dropWaiting s).pending = s.pending := rfl

/-! ### opening a pitch for the held firings (R47) -/

@[simp] theorem openPitch_shaft (s : State) : (openPitch s).shaft = s.shaft := rfl
@[simp] theorem openPitch_geometry (s : State) : (openPitch s).geometry = s.geometry := rfl
@[simp] theorem openPitch_chain (s : State) : (openPitch s).chain = s.chain := rfl
@[simp] theorem openPitch_registration (s : State) : (openPitch s).registration = s.registration := rfl
@[simp] theorem openPitch_gumFold (s : State) : (openPitch s).gumFold = s.gumFold := rfl
@[simp] theorem openPitch_verdicts (s : State) : (openPitch s).verdicts = s.verdicts := rfl
@[simp] theorem openPitch_batch (s : State) : (openPitch s).batch = s.batch := rfl
@[simp] theorem openPitch_banks (s : State) : (openPitch s).banks = s.banks := rfl
@[simp] theorem openPitch_line (s : State) : (openPitch s).line = s.line := rfl
@[simp] theorem openPitch_ports (s : State) : (openPitch s).ports = s.ports := rfl
@[simp] theorem openPitch_sensors (s : State) : (openPitch s).sensors = s.sensors := rfl
@[simp] theorem openPitch_pins (s : State) : (openPitch s).pins = s.pins := rfl
@[simp] theorem openPitch_choices (s : State) : (openPitch s).choices = s.choices := rfl
@[simp] theorem openPitch_pending (s : State) : (openPitch s).pending = s.pending := rfl

/-! ### taking the lead snapshot (R41) -/

@[simp] theorem takeSnapshot_shaft (t : Nat) (v : Bool) (s : State) : (takeSnapshot t v s).shaft = s.shaft := rfl
@[simp] theorem takeSnapshot_geometry (t : Nat) (v : Bool) (s : State) : (takeSnapshot t v s).geometry = s.geometry := rfl
@[simp] theorem takeSnapshot_chain (t : Nat) (v : Bool) (s : State) : (takeSnapshot t v s).chain = s.chain := rfl
@[simp] theorem takeSnapshot_registration (t : Nat) (v : Bool) (s : State) : (takeSnapshot t v s).registration = s.registration := rfl
@[simp] theorem takeSnapshot_gumFold (t : Nat) (v : Bool) (s : State) : (takeSnapshot t v s).gumFold = s.gumFold := rfl
@[simp] theorem takeSnapshot_verdicts (t : Nat) (v : Bool) (s : State) : (takeSnapshot t v s).verdicts = s.verdicts := rfl
@[simp] theorem takeSnapshot_batch (t : Nat) (v : Bool) (s : State) : (takeSnapshot t v s).batch = s.batch := rfl
@[simp] theorem takeSnapshot_banks (t : Nat) (v : Bool) (s : State) : (takeSnapshot t v s).banks = s.banks := rfl
@[simp] theorem takeSnapshot_line (t : Nat) (v : Bool) (s : State) : (takeSnapshot t v s).line = s.line := rfl
@[simp] theorem takeSnapshot_ports (t : Nat) (v : Bool) (s : State) : (takeSnapshot t v s).ports = s.ports := rfl
@[simp] theorem takeSnapshot_sensors (t : Nat) (v : Bool) (s : State) : (takeSnapshot t v s).sensors = s.sensors := rfl
@[simp] theorem takeSnapshot_pins (t : Nat) (v : Bool) (s : State) : (takeSnapshot t v s).pins = s.pins := rfl
@[simp] theorem takeSnapshot_choices (t : Nat) (v : Bool) (s : State) : (takeSnapshot t v s).choices = s.choices := rfl
@[simp] theorem takeSnapshot_pending (t : Nat) (v : Bool) (s : State) : (takeSnapshot t v s).pending = s.pending := rfl

/-! ### a firing entering its list (R47) -/

@[simp] theorem hold_shaft (ch : Channel) (f : Firing) (s : State) : (hold ch f s).shaft = s.shaft := rfl
@[simp] theorem hold_geometry (ch : Channel) (f : Firing) (s : State) : (hold ch f s).geometry = s.geometry := rfl
@[simp] theorem hold_chain (ch : Channel) (f : Firing) (s : State) : (hold ch f s).chain = s.chain := rfl
@[simp] theorem hold_registration (ch : Channel) (f : Firing) (s : State) : (hold ch f s).registration = s.registration := rfl
@[simp] theorem hold_gumFold (ch : Channel) (f : Firing) (s : State) : (hold ch f s).gumFold = s.gumFold := rfl
@[simp] theorem hold_verdicts (ch : Channel) (f : Firing) (s : State) : (hold ch f s).verdicts = s.verdicts := rfl
@[simp] theorem hold_batch (ch : Channel) (f : Firing) (s : State) : (hold ch f s).batch = s.batch := rfl
@[simp] theorem hold_banks (ch : Channel) (f : Firing) (s : State) : (hold ch f s).banks = s.banks := rfl
@[simp] theorem hold_line (ch : Channel) (f : Firing) (s : State) : (hold ch f s).line = s.line := rfl
@[simp] theorem hold_ports (ch : Channel) (f : Firing) (s : State) : (hold ch f s).ports = s.ports := rfl
@[simp] theorem hold_sensors (ch : Channel) (f : Firing) (s : State) : (hold ch f s).sensors = s.sensors := rfl
@[simp] theorem hold_pins (ch : Channel) (f : Firing) (s : State) : (hold ch f s).pins = s.pins := rfl
@[simp] theorem hold_choices (ch : Channel) (f : Firing) (s : State) : (hold ch f s).choices = s.choices := rfl
@[simp] theorem hold_pending (ch : Channel) (f : Firing) (s : State) : (hold ch f s).pending = s.pending := rfl

/-! ### the advance (R29) -/

@[simp] theorem advanceStage_shaft (s : State) : (advanceStage s).shaft = s.shaft := rfl
@[simp] theorem advanceStage_geometry (s : State) : (advanceStage s).geometry = s.geometry := rfl
@[simp] theorem advanceStage_firing (s : State) : (advanceStage s).firing = s.firing := rfl
@[simp] theorem advanceStage_registration (s : State) : (advanceStage s).registration = s.registration := rfl
@[simp] theorem advanceStage_gumFold (s : State) : (advanceStage s).gumFold = s.gumFold := rfl
@[simp] theorem advanceStage_verdicts (s : State) : (advanceStage s).verdicts = s.verdicts := rfl
@[simp] theorem advanceStage_batch (s : State) : (advanceStage s).batch = s.batch := rfl
@[simp] theorem advanceStage_banks (s : State) : (advanceStage s).banks = s.banks := rfl
@[simp] theorem advanceStage_line (s : State) : (advanceStage s).line = s.line := rfl
@[simp] theorem advanceStage_ports (s : State) : (advanceStage s).ports = s.ports := rfl
@[simp] theorem advanceStage_sensors (s : State) : (advanceStage s).sensors = s.sensors := rfl
@[simp] theorem advanceStage_pins (s : State) : (advanceStage s).pins = s.pins := rfl
@[simp] theorem advanceStage_choices (s : State) : (advanceStage s).choices = s.choices := rfl
@[simp] theorem advanceStage_pending (s : State) : (advanceStage s).pending = s.pending := rfl

/-! ### microseconds passing (R8) -/

@[simp] theorem passTime_geometry (n : Nat) (s : State) : (passTime n s).geometry = s.geometry := rfl
@[simp] theorem passTime_chain (n : Nat) (s : State) : (passTime n s).chain = s.chain := rfl
@[simp] theorem passTime_firing (n : Nat) (s : State) : (passTime n s).firing = s.firing := rfl
@[simp] theorem passTime_registration (n : Nat) (s : State) : (passTime n s).registration = s.registration := rfl
@[simp] theorem passTime_gumFold (n : Nat) (s : State) : (passTime n s).gumFold = s.gumFold := rfl
@[simp] theorem passTime_verdicts (n : Nat) (s : State) : (passTime n s).verdicts = s.verdicts := rfl
@[simp] theorem passTime_batch (n : Nat) (s : State) : (passTime n s).batch = s.batch := rfl
@[simp] theorem passTime_banks (n : Nat) (s : State) : (passTime n s).banks = s.banks := rfl
@[simp] theorem passTime_line (n : Nat) (s : State) : (passTime n s).line = s.line := rfl
@[simp] theorem passTime_ports (n : Nat) (s : State) : (passTime n s).ports = s.ports := rfl
@[simp] theorem passTime_sensors (n : Nat) (s : State) : (passTime n s).sensors = s.sensors := rfl
@[simp] theorem passTime_pins (n : Nat) (s : State) : (passTime n s).pins = s.pins := rfl
@[simp] theorem passTime_choices (n : Nat) (s : State) : (passTime n s).choices = s.choices := rfl
@[simp] theorem passTime_pending (n : Nat) (s : State) : (passTime n s).pending = s.pending := rfl

/-! ### the decoder pair taking levels (R1) -/

@[simp] theorem setPair_geometry (p : Bool × Bool) (s : State) : (setPair p s).geometry = s.geometry := rfl
@[simp] theorem setPair_chain (p : Bool × Bool) (s : State) : (setPair p s).chain = s.chain := rfl
@[simp] theorem setPair_firing (p : Bool × Bool) (s : State) : (setPair p s).firing = s.firing := rfl
@[simp] theorem setPair_registration (p : Bool × Bool) (s : State) : (setPair p s).registration = s.registration := rfl
@[simp] theorem setPair_gumFold (p : Bool × Bool) (s : State) : (setPair p s).gumFold = s.gumFold := rfl
@[simp] theorem setPair_verdicts (p : Bool × Bool) (s : State) : (setPair p s).verdicts = s.verdicts := rfl
@[simp] theorem setPair_batch (p : Bool × Bool) (s : State) : (setPair p s).batch = s.batch := rfl
@[simp] theorem setPair_banks (p : Bool × Bool) (s : State) : (setPair p s).banks = s.banks := rfl
@[simp] theorem setPair_line (p : Bool × Bool) (s : State) : (setPair p s).line = s.line := rfl
@[simp] theorem setPair_ports (p : Bool × Bool) (s : State) : (setPair p s).ports = s.ports := rfl
@[simp] theorem setPair_sensors (p : Bool × Bool) (s : State) : (setPair p s).sensors = s.sensors := rfl
@[simp] theorem setPair_pins (p : Bool × Bool) (s : State) : (setPair p s).pins = s.pins := rfl
@[simp] theorem setPair_choices (p : Bool × Bool) (s : State) : (setPair p s).choices = s.choices := rfl
@[simp] theorem setPair_pending (p : Bool × Bool) (s : State) : (setPair p s).pending = s.pending := rfl

/-! ### noting the direction of a count step (R12) -/

@[simp] theorem setLastStep_geometry (d : Direction) (s : State) : (setLastStep d s).geometry = s.geometry := rfl
@[simp] theorem setLastStep_chain (d : Direction) (s : State) : (setLastStep d s).chain = s.chain := rfl
@[simp] theorem setLastStep_firing (d : Direction) (s : State) : (setLastStep d s).firing = s.firing := rfl
@[simp] theorem setLastStep_registration (d : Direction) (s : State) : (setLastStep d s).registration = s.registration := rfl
@[simp] theorem setLastStep_gumFold (d : Direction) (s : State) : (setLastStep d s).gumFold = s.gumFold := rfl
@[simp] theorem setLastStep_verdicts (d : Direction) (s : State) : (setLastStep d s).verdicts = s.verdicts := rfl
@[simp] theorem setLastStep_batch (d : Direction) (s : State) : (setLastStep d s).batch = s.batch := rfl
@[simp] theorem setLastStep_banks (d : Direction) (s : State) : (setLastStep d s).banks = s.banks := rfl
@[simp] theorem setLastStep_line (d : Direction) (s : State) : (setLastStep d s).line = s.line := rfl
@[simp] theorem setLastStep_ports (d : Direction) (s : State) : (setLastStep d s).ports = s.ports := rfl
@[simp] theorem setLastStep_sensors (d : Direction) (s : State) : (setLastStep d s).sensors = s.sensors := rfl
@[simp] theorem setLastStep_pins (d : Direction) (s : State) : (setLastStep d s).pins = s.pins := rfl
@[simp] theorem setLastStep_choices (d : Direction) (s : State) : (setLastStep d s).choices = s.choices := rfl
@[simp] theorem setLastStep_pending (d : Direction) (s : State) : (setLastStep d s).pending = s.pending := rfl

/-! ### setting the count (R5) -/

@[simp] theorem setCount_geometry (c : Nat) (s : State) : (setCount c s).geometry = s.geometry := rfl
@[simp] theorem setCount_chain (c : Nat) (s : State) : (setCount c s).chain = s.chain := rfl
@[simp] theorem setCount_firing (c : Nat) (s : State) : (setCount c s).firing = s.firing := rfl
@[simp] theorem setCount_registration (c : Nat) (s : State) : (setCount c s).registration = s.registration := rfl
@[simp] theorem setCount_gumFold (c : Nat) (s : State) : (setCount c s).gumFold = s.gumFold := rfl
@[simp] theorem setCount_verdicts (c : Nat) (s : State) : (setCount c s).verdicts = s.verdicts := rfl
@[simp] theorem setCount_batch (c : Nat) (s : State) : (setCount c s).batch = s.batch := rfl
@[simp] theorem setCount_banks (c : Nat) (s : State) : (setCount c s).banks = s.banks := rfl
@[simp] theorem setCount_line (c : Nat) (s : State) : (setCount c s).line = s.line := rfl
@[simp] theorem setCount_ports (c : Nat) (s : State) : (setCount c s).ports = s.ports := rfl
@[simp] theorem setCount_sensors (c : Nat) (s : State) : (setCount c s).sensors = s.sensors := rfl
@[simp] theorem setCount_pins (c : Nat) (s : State) : (setCount c s).pins = s.pins := rfl
@[simp] theorem setCount_choices (c : Nat) (s : State) : (setCount c s).choices = s.choices := rfl
@[simp] theorem setCount_pending (c : Nat) (s : State) : (setCount c s).pending = s.pending := rfl

/-! ### raising the high-water phase (R5) -/

@[simp] theorem raiseHighWater_geometry (s : State) : (raiseHighWater s).geometry = s.geometry := rfl
@[simp] theorem raiseHighWater_chain (s : State) : (raiseHighWater s).chain = s.chain := rfl
@[simp] theorem raiseHighWater_firing (s : State) : (raiseHighWater s).firing = s.firing := rfl
@[simp] theorem raiseHighWater_registration (s : State) : (raiseHighWater s).registration = s.registration := rfl
@[simp] theorem raiseHighWater_gumFold (s : State) : (raiseHighWater s).gumFold = s.gumFold := rfl
@[simp] theorem raiseHighWater_verdicts (s : State) : (raiseHighWater s).verdicts = s.verdicts := rfl
@[simp] theorem raiseHighWater_batch (s : State) : (raiseHighWater s).batch = s.batch := rfl
@[simp] theorem raiseHighWater_banks (s : State) : (raiseHighWater s).banks = s.banks := rfl
@[simp] theorem raiseHighWater_line (s : State) : (raiseHighWater s).line = s.line := rfl
@[simp] theorem raiseHighWater_ports (s : State) : (raiseHighWater s).ports = s.ports := rfl
@[simp] theorem raiseHighWater_sensors (s : State) : (raiseHighWater s).sensors = s.sensors := rfl
@[simp] theorem raiseHighWater_pins (s : State) : (raiseHighWater s).pins = s.pins := rfl
@[simp] theorem raiseHighWater_choices (s : State) : (raiseHighWater s).choices = s.choices := rfl
@[simp] theorem raiseHighWater_pending (s : State) : (raiseHighWater s).pending = s.pending := rfl

/-! ### closing a pitch (R7, R8) -/

@[simp] theorem closePitch_geometry (s : State) : (closePitch s).geometry = s.geometry := rfl
@[simp] theorem closePitch_chain (s : State) : (closePitch s).chain = s.chain := rfl
@[simp] theorem closePitch_firing (s : State) : (closePitch s).firing = s.firing := rfl
@[simp] theorem closePitch_registration (s : State) : (closePitch s).registration = s.registration := rfl
@[simp] theorem closePitch_gumFold (s : State) : (closePitch s).gumFold = s.gumFold := rfl
@[simp] theorem closePitch_verdicts (s : State) : (closePitch s).verdicts = s.verdicts := rfl
@[simp] theorem closePitch_batch (s : State) : (closePitch s).batch = s.batch := rfl
@[simp] theorem closePitch_banks (s : State) : (closePitch s).banks = s.banks := rfl
@[simp] theorem closePitch_line (s : State) : (closePitch s).line = s.line := rfl
@[simp] theorem closePitch_ports (s : State) : (closePitch s).ports = s.ports := rfl
@[simp] theorem closePitch_sensors (s : State) : (closePitch s).sensors = s.sensors := rfl
@[simp] theorem closePitch_pins (s : State) : (closePitch s).pins = s.pins := rfl
@[simp] theorem closePitch_choices (s : State) : (closePitch s).choices = s.choices := rfl
@[simp] theorem closePitch_pending (s : State) : (closePitch s).pending = s.pending := rfl

/-! ### replacing a port -/

@[simp] theorem setPort_shaft (l : Link) (p : Port) (s : State) : (setPort l p s).shaft = s.shaft := rfl
@[simp] theorem setPort_geometry (l : Link) (p : Port) (s : State) : (setPort l p s).geometry = s.geometry := rfl
@[simp] theorem setPort_chain (l : Link) (p : Port) (s : State) : (setPort l p s).chain = s.chain := rfl
@[simp] theorem setPort_firing (l : Link) (p : Port) (s : State) : (setPort l p s).firing = s.firing := rfl
@[simp] theorem setPort_registration (l : Link) (p : Port) (s : State) : (setPort l p s).registration = s.registration := rfl
@[simp] theorem setPort_gumFold (l : Link) (p : Port) (s : State) : (setPort l p s).gumFold = s.gumFold := rfl
@[simp] theorem setPort_verdicts (l : Link) (p : Port) (s : State) : (setPort l p s).verdicts = s.verdicts := rfl
@[simp] theorem setPort_batch (l : Link) (p : Port) (s : State) : (setPort l p s).batch = s.batch := rfl
@[simp] theorem setPort_banks (l : Link) (p : Port) (s : State) : (setPort l p s).banks = s.banks := rfl
@[simp] theorem setPort_line (l : Link) (p : Port) (s : State) : (setPort l p s).line = s.line := rfl
@[simp] theorem setPort_sensors (l : Link) (p : Port) (s : State) : (setPort l p s).sensors = s.sensors := rfl
@[simp] theorem setPort_pins (l : Link) (p : Port) (s : State) : (setPort l p s).pins = s.pins := rfl
@[simp] theorem setPort_choices (l : Link) (p : Port) (s : State) : (setPort l p s).choices = s.choices := rfl
@[simp] theorem setPort_pending (l : Link) (p : Port) (s : State) : (setPort l p s).pending = s.pending := rfl

/-! ### replacing the event sets of a port (R160) -/

@[simp] theorem setEvents_shaft (l : Link) (p e : BitVec 13) (s : State) : (setEvents l p e s).shaft = s.shaft := rfl
@[simp] theorem setEvents_geometry (l : Link) (p e : BitVec 13) (s : State) : (setEvents l p e s).geometry = s.geometry := rfl
@[simp] theorem setEvents_chain (l : Link) (p e : BitVec 13) (s : State) : (setEvents l p e s).chain = s.chain := rfl
@[simp] theorem setEvents_firing (l : Link) (p e : BitVec 13) (s : State) : (setEvents l p e s).firing = s.firing := rfl
@[simp] theorem setEvents_registration (l : Link) (p e : BitVec 13) (s : State) : (setEvents l p e s).registration = s.registration := rfl
@[simp] theorem setEvents_gumFold (l : Link) (p e : BitVec 13) (s : State) : (setEvents l p e s).gumFold = s.gumFold := rfl
@[simp] theorem setEvents_verdicts (l : Link) (p e : BitVec 13) (s : State) : (setEvents l p e s).verdicts = s.verdicts := rfl
@[simp] theorem setEvents_batch (l : Link) (p e : BitVec 13) (s : State) : (setEvents l p e s).batch = s.batch := rfl
@[simp] theorem setEvents_banks (l : Link) (p e : BitVec 13) (s : State) : (setEvents l p e s).banks = s.banks := rfl
@[simp] theorem setEvents_line (l : Link) (p e : BitVec 13) (s : State) : (setEvents l p e s).line = s.line := rfl
@[simp] theorem setEvents_sensors (l : Link) (p e : BitVec 13) (s : State) : (setEvents l p e s).sensors = s.sensors := rfl
@[simp] theorem setEvents_pins (l : Link) (p e : BitVec 13) (s : State) : (setEvents l p e s).pins = s.pins := rfl
@[simp] theorem setEvents_choices (l : Link) (p e : BitVec 13) (s : State) : (setEvents l p e s).choices = s.choices := rfl
@[simp] theorem setEvents_pending (l : Link) (p e : BitVec 13) (s : State) : (setEvents l p e s).pending = s.pending := rfl

/-! ### changing holder sets (R147) -/

@[simp] theorem changeHolders_shaft (f : BitVec 3 → BitVec 3) (sts : List Station) (s : State) : (changeHolders f sts s).shaft = s.shaft := rfl
@[simp] theorem changeHolders_geometry (f : BitVec 3 → BitVec 3) (sts : List Station) (s : State) : (changeHolders f sts s).geometry = s.geometry := rfl
@[simp] theorem changeHolders_chain (f : BitVec 3 → BitVec 3) (sts : List Station) (s : State) : (changeHolders f sts s).chain = s.chain := rfl
@[simp] theorem changeHolders_firing (f : BitVec 3 → BitVec 3) (sts : List Station) (s : State) : (changeHolders f sts s).firing = s.firing := rfl
@[simp] theorem changeHolders_registration (f : BitVec 3 → BitVec 3) (sts : List Station) (s : State) : (changeHolders f sts s).registration = s.registration := rfl
@[simp] theorem changeHolders_gumFold (f : BitVec 3 → BitVec 3) (sts : List Station) (s : State) : (changeHolders f sts s).gumFold = s.gumFold := rfl
@[simp] theorem changeHolders_verdicts (f : BitVec 3 → BitVec 3) (sts : List Station) (s : State) : (changeHolders f sts s).verdicts = s.verdicts := rfl
@[simp] theorem changeHolders_batch (f : BitVec 3 → BitVec 3) (sts : List Station) (s : State) : (changeHolders f sts s).batch = s.batch := rfl
@[simp] theorem changeHolders_banks (f : BitVec 3 → BitVec 3) (sts : List Station) (s : State) : (changeHolders f sts s).banks = s.banks := rfl
@[simp] theorem changeHolders_ports (f : BitVec 3 → BitVec 3) (sts : List Station) (s : State) : (changeHolders f sts s).ports = s.ports := rfl
@[simp] theorem changeHolders_sensors (f : BitVec 3 → BitVec 3) (sts : List Station) (s : State) : (changeHolders f sts s).sensors = s.sensors := rfl
@[simp] theorem changeHolders_pins (f : BitVec 3 → BitVec 3) (sts : List Station) (s : State) : (changeHolders f sts s).pins = s.pins := rfl
@[simp] theorem changeHolders_choices (f : BitVec 3 → BitVec 3) (sts : List Station) (s : State) : (changeHolders f sts s).choices = s.choices := rfl
@[simp] theorem changeHolders_pending (f : BitVec 3 → BitVec 3) (sts : List Station) (s : State) : (changeHolders f sts s).pending = s.pending := rfl

/-! ### clearing the holds (R148) -/

@[simp] theorem clearHolds_shaft (s : State) : (clearHolds s).shaft = s.shaft := rfl
@[simp] theorem clearHolds_geometry (s : State) : (clearHolds s).geometry = s.geometry := rfl
@[simp] theorem clearHolds_chain (s : State) : (clearHolds s).chain = s.chain := rfl
@[simp] theorem clearHolds_firing (s : State) : (clearHolds s).firing = s.firing := rfl
@[simp] theorem clearHolds_registration (s : State) : (clearHolds s).registration = s.registration := rfl
@[simp] theorem clearHolds_gumFold (s : State) : (clearHolds s).gumFold = s.gumFold := rfl
@[simp] theorem clearHolds_verdicts (s : State) : (clearHolds s).verdicts = s.verdicts := rfl
@[simp] theorem clearHolds_batch (s : State) : (clearHolds s).batch = s.batch := rfl
@[simp] theorem clearHolds_banks (s : State) : (clearHolds s).banks = s.banks := rfl
@[simp] theorem clearHolds_ports (s : State) : (clearHolds s).ports = s.ports := rfl
@[simp] theorem clearHolds_sensors (s : State) : (clearHolds s).sensors = s.sensors := rfl
@[simp] theorem clearHolds_pins (s : State) : (clearHolds s).pins = s.pins := rfl
@[simp] theorem clearHolds_choices (s : State) : (clearHolds s).choices = s.choices := rfl
@[simp] theorem clearHolds_pending (s : State) : (clearHolds s).pending = s.pending := rfl

/-! ### writing a bank (R123) -/

@[simp] theorem stageBank_shaft (b : BankId) (f : BankFields) (s : State) : (stageBank b f s).shaft = s.shaft := rfl
@[simp] theorem stageBank_geometry (b : BankId) (f : BankFields) (s : State) : (stageBank b f s).geometry = s.geometry := rfl
@[simp] theorem stageBank_chain (b : BankId) (f : BankFields) (s : State) : (stageBank b f s).chain = s.chain := rfl
@[simp] theorem stageBank_firing (b : BankId) (f : BankFields) (s : State) : (stageBank b f s).firing = s.firing := rfl
@[simp] theorem stageBank_registration (b : BankId) (f : BankFields) (s : State) : (stageBank b f s).registration = s.registration := rfl
@[simp] theorem stageBank_gumFold (b : BankId) (f : BankFields) (s : State) : (stageBank b f s).gumFold = s.gumFold := rfl
@[simp] theorem stageBank_verdicts (b : BankId) (f : BankFields) (s : State) : (stageBank b f s).verdicts = s.verdicts := rfl
@[simp] theorem stageBank_batch (b : BankId) (f : BankFields) (s : State) : (stageBank b f s).batch = s.batch := rfl
@[simp] theorem stageBank_line (b : BankId) (f : BankFields) (s : State) : (stageBank b f s).line = s.line := rfl
@[simp] theorem stageBank_ports (b : BankId) (f : BankFields) (s : State) : (stageBank b f s).ports = s.ports := rfl
@[simp] theorem stageBank_sensors (b : BankId) (f : BankFields) (s : State) : (stageBank b f s).sensors = s.sensors := rfl
@[simp] theorem stageBank_pins (b : BankId) (f : BankFields) (s : State) : (stageBank b f s).pins = s.pins := rfl
@[simp] theorem stageBank_choices (b : BankId) (f : BankFields) (s : State) : (stageBank b f s).choices = s.choices := rfl
@[simp] theorem stageBank_pending (b : BankId) (f : BankFields) (s : State) : (stageBank b f s).pending = s.pending := rfl

/-! ### LINE RESET in the Registration Unit (R77) -/

@[simp] theorem resetRegistration_shaft (s : State) : (resetRegistration s).shaft = s.shaft := rfl
@[simp] theorem resetRegistration_geometry (s : State) : (resetRegistration s).geometry = s.geometry := rfl
@[simp] theorem resetRegistration_chain (s : State) : (resetRegistration s).chain = s.chain := rfl
@[simp] theorem resetRegistration_firing (s : State) : (resetRegistration s).firing = s.firing := rfl
@[simp] theorem resetRegistration_gumFold (s : State) : (resetRegistration s).gumFold = s.gumFold := rfl
@[simp] theorem resetRegistration_verdicts (s : State) : (resetRegistration s).verdicts = s.verdicts := rfl
@[simp] theorem resetRegistration_batch (s : State) : (resetRegistration s).batch = s.batch := rfl
@[simp] theorem resetRegistration_banks (s : State) : (resetRegistration s).banks = s.banks := rfl
@[simp] theorem resetRegistration_line (s : State) : (resetRegistration s).line = s.line := rfl
@[simp] theorem resetRegistration_ports (s : State) : (resetRegistration s).ports = s.ports := rfl
@[simp] theorem resetRegistration_sensors (s : State) : (resetRegistration s).sensors = s.sensors := rfl
@[simp] theorem resetRegistration_pins (s : State) : (resetRegistration s).pins = s.pins := rfl
@[simp] theorem resetRegistration_choices (s : State) : (resetRegistration s).choices = s.choices := rfl
@[simp] theorem resetRegistration_pending (s : State) : (resetRegistration s).pending = s.pending := rfl

/-! ### LINE RESET in the Gum and Fold Unit (R89) -/

@[simp] theorem resetGumFold_shaft (s : State) : (resetGumFold s).shaft = s.shaft := rfl
@[simp] theorem resetGumFold_geometry (s : State) : (resetGumFold s).geometry = s.geometry := rfl
@[simp] theorem resetGumFold_chain (s : State) : (resetGumFold s).chain = s.chain := rfl
@[simp] theorem resetGumFold_firing (s : State) : (resetGumFold s).firing = s.firing := rfl
@[simp] theorem resetGumFold_registration (s : State) : (resetGumFold s).registration = s.registration := rfl
@[simp] theorem resetGumFold_verdicts (s : State) : (resetGumFold s).verdicts = s.verdicts := rfl
@[simp] theorem resetGumFold_batch (s : State) : (resetGumFold s).batch = s.batch := rfl
@[simp] theorem resetGumFold_banks (s : State) : (resetGumFold s).banks = s.banks := rfl
@[simp] theorem resetGumFold_line (s : State) : (resetGumFold s).line = s.line := rfl
@[simp] theorem resetGumFold_ports (s : State) : (resetGumFold s).ports = s.ports := rfl
@[simp] theorem resetGumFold_sensors (s : State) : (resetGumFold s).sensors = s.sensors := rfl
@[simp] theorem resetGumFold_pins (s : State) : (resetGumFold s).pins = s.pins := rfl
@[simp] theorem resetGumFold_choices (s : State) : (resetGumFold s).choices = s.choices := rfl
@[simp] theorem resetGumFold_pending (s : State) : (resetGumFold s).pending = s.pending := rfl
@[simp] theorem resetGumFold_barred (s : State) : (resetGumFold s).gumFold.foldBarred = true := rfl
@[simp] theorem takeFoldTarget_barred (s : State) : (takeFoldTarget s).gumFold.foldBarred = false := rfl

/-- In a pitch in which a LINE RESET was taken the fold window does not open (R89). -/
theorem openFold_barred (level : Bool) (s : State) (h : s.gumFold.foldBarred = true) : openFold level s = s := by
  simp [openFold, h]

/-! ### LINE RESET in the Shaft Tracker (R18) -/

@[simp] theorem resetShaft_geometry (s : State) : (resetShaft s).geometry = s.geometry := rfl
@[simp] theorem resetShaft_chain (s : State) : (resetShaft s).chain = s.chain := rfl
@[simp] theorem resetShaft_firing (s : State) : (resetShaft s).firing = s.firing := rfl
@[simp] theorem resetShaft_registration (s : State) : (resetShaft s).registration = s.registration := rfl
@[simp] theorem resetShaft_gumFold (s : State) : (resetShaft s).gumFold = s.gumFold := rfl
@[simp] theorem resetShaft_verdicts (s : State) : (resetShaft s).verdicts = s.verdicts := rfl
@[simp] theorem resetShaft_batch (s : State) : (resetShaft s).batch = s.batch := rfl
@[simp] theorem resetShaft_banks (s : State) : (resetShaft s).banks = s.banks := rfl
@[simp] theorem resetShaft_line (s : State) : (resetShaft s).line = s.line := rfl
@[simp] theorem resetShaft_ports (s : State) : (resetShaft s).ports = s.ports := rfl
@[simp] theorem resetShaft_sensors (s : State) : (resetShaft s).sensors = s.sensors := rfl
@[simp] theorem resetShaft_pins (s : State) : (resetShaft s).pins = s.pins := rfl
@[simp] theorem resetShaft_choices (s : State) : (resetShaft s).choices = s.choices := rfl
@[simp] theorem resetShaft_pending (s : State) : (resetShaft s).pending = s.pending := rfl

end Sys2Proof.Machine
end

