-- ==== Sys2Proof/Laws/Frames.lean ====
section
/-! SUPPORT. What an operation shared by several commands leaves as it was: one lemma for each field it does not write. -/

namespace Sys2Proof.Machine

/-! ### adding a feed-inhibit cause (R145) -/

@[simp] theorem addFeedCause_shaft (c : FeedCause) (s : State) : (addFeedCause c s).shaft = s.shaft := by
  unfold addFeedCause; (repeat' split) <;> simp
@[simp] theorem addFeedCause_geometry (c : FeedCause) (s : State) : (addFeedCause c s).geometry = s.geometry := by
  unfold addFeedCause; (repeat' split) <;> simp
@[simp] theorem addFeedCause_chain (c : FeedCause) (s : State) : (addFeedCause c s).chain = s.chain := by
  unfold addFeedCause; (repeat' split) <;> simp
@[simp] theorem addFeedCause_firing (c : FeedCause) (s : State) : (addFeedCause c s).firing = s.firing := by
  unfold addFeedCause; (repeat' split) <;> simp
@[simp] theorem addFeedCause_registration (c : FeedCause) (s : State) : (addFeedCause c s).registration = s.registration := by
  unfold addFeedCause; (repeat' split) <;> simp
@[simp] theorem addFeedCause_gumFold (c : FeedCause) (s : State) : (addFeedCause c s).gumFold = s.gumFold := by
  unfold addFeedCause; (repeat' split) <;> simp
@[simp] theorem addFeedCause_verdicts (c : FeedCause) (s : State) : (addFeedCause c s).verdicts = s.verdicts := by
  unfold addFeedCause; (repeat' split) <;> simp
@[simp] theorem addFeedCause_batch (c : FeedCause) (s : State) : (addFeedCause c s).batch = s.batch := by
  unfold addFeedCause; (repeat' split) <;> simp
@[simp] theorem addFeedCause_banks (c : FeedCause) (s : State) : (addFeedCause c s).banks = s.banks := by
  unfold addFeedCause; (repeat' split) <;> simp
@[simp] theorem addFeedCause_sensors (c : FeedCause) (s : State) : (addFeedCause c s).sensors = s.sensors := by
  unfold addFeedCause; (repeat' split) <;> simp
@[simp] theorem addFeedCause_pins (c : FeedCause) (s : State) : (addFeedCause c s).pins = s.pins := by
  unfold addFeedCause; (repeat' split) <;> simp
@[simp] theorem addFeedCause_choices (c : FeedCause) (s : State) : (addFeedCause c s).choices = s.choices := by
  unfold addFeedCause; (repeat' split) <;> simp
@[simp] theorem addFeedCause_pending (c : FeedCause) (s : State) : (addFeedCause c s).pending = s.pending := by
  unfold addFeedCause; (repeat' split) <;> simp

/-! ### a feed-inhibit cause following its condition -/

@[simp] theorem setFeedCause_shaft (c : FeedCause) (v : Bool) (s : State) : (setFeedCause c v s).shaft = s.shaft := by
  unfold setFeedCause; (repeat' split) <;> simp
@[simp] theorem setFeedCause_geometry (c : FeedCause) (v : Bool) (s : State) : (setFeedCause c v s).geometry = s.geometry := by
  unfold setFeedCause; (repeat' split) <;> simp
@[simp] theorem setFeedCause_chain (c : FeedCause) (v : Bool) (s : State) : (setFeedCause c v s).chain = s.chain := by
  unfold setFeedCause; (repeat' split) <;> simp
@[simp] theorem setFeedCause_firing (c : FeedCause) (v : Bool) (s : State) : (setFeedCause c v s).firing = s.firing := by
  unfold setFeedCause; (repeat' split) <;> simp
@[simp] theorem setFeedCause_registration (c : FeedCause) (v : Bool) (s : State) : (setFeedCause c v s).registration = s.registration := by
  unfold setFeedCause; (repeat' split) <;> simp
@[simp] theorem setFeedCause_gumFold (c : FeedCause) (v : Bool) (s : State) : (setFeedCause c v s).gumFold = s.gumFold := by
  unfold setFeedCause; (repeat' split) <;> simp
@[simp] theorem setFeedCause_verdicts (c : FeedCause) (v : Bool) (s : State) : (setFeedCause c v s).verdicts = s.verdicts := by
  unfold setFeedCause; (repeat' split) <;> simp
@[simp] theorem setFeedCause_batch (c : FeedCause) (v : Bool) (s : State) : (setFeedCause c v s).batch = s.batch := by
  unfold setFeedCause; (repeat' split) <;> simp
@[simp] theorem setFeedCause_banks (c : FeedCause) (v : Bool) (s : State) : (setFeedCause c v s).banks = s.banks := by
  unfold setFeedCause; (repeat' split) <;> simp
@[simp] theorem setFeedCause_sensors (c : FeedCause) (v : Bool) (s : State) : (setFeedCause c v s).sensors = s.sensors := by
  unfold setFeedCause; (repeat' split) <;> simp
@[simp] theorem setFeedCause_pins (c : FeedCause) (v : Bool) (s : State) : (setFeedCause c v s).pins = s.pins := by
  unfold setFeedCause; (repeat' split) <;> simp
@[simp] theorem setFeedCause_choices (c : FeedCause) (v : Bool) (s : State) : (setFeedCause c v s).choices = s.choices := by
  unfold setFeedCause; (repeat' split) <;> simp
@[simp] theorem setFeedCause_pending (c : FeedCause) (v : Bool) (s : State) : (setFeedCause c v s).pending = s.pending := by
  unfold setFeedCause; (repeat' split) <;> simp

/-! ### taking the supply causes anew (R130) -/

@[simp] theorem retakeSupplies_shaft (s : State) : (retakeSupplies s).shaft = s.shaft := by
  simp [retakeSupplies]
@[simp] theorem retakeSupplies_geometry (s : State) : (retakeSupplies s).geometry = s.geometry := by
  simp [retakeSupplies]
@[simp] theorem retakeSupplies_chain (s : State) : (retakeSupplies s).chain = s.chain := by
  simp [retakeSupplies]
@[simp] theorem retakeSupplies_firing (s : State) : (retakeSupplies s).firing = s.firing := by
  simp [retakeSupplies]
@[simp] theorem retakeSupplies_registration (s : State) : (retakeSupplies s).registration = s.registration := by
  simp [retakeSupplies]
@[simp] theorem retakeSupplies_gumFold (s : State) : (retakeSupplies s).gumFold = s.gumFold := by
  simp [retakeSupplies]
@[simp] theorem retakeSupplies_verdicts (s : State) : (retakeSupplies s).verdicts = s.verdicts := by
  simp [retakeSupplies]
@[simp] theorem retakeSupplies_batch (s : State) : (retakeSupplies s).batch = s.batch := by
  simp [retakeSupplies]
@[simp] theorem retakeSupplies_banks (s : State) : (retakeSupplies s).banks = s.banks := by
  simp [retakeSupplies]
@[simp] theorem retakeSupplies_sensors (s : State) : (retakeSupplies s).sensors = s.sensors := by
  simp [retakeSupplies]
@[simp] theorem retakeSupplies_pins (s : State) : (retakeSupplies s).pins = s.pins := by
  simp [retakeSupplies]
@[simp] theorem retakeSupplies_choices (s : State) : (retakeSupplies s).choices = s.choices := by
  simp [retakeSupplies]
@[simp] theorem retakeSupplies_pending (s : State) : (retakeSupplies s).pending = s.pending := by
  simp [retakeSupplies]

/-! ### the old bank at a changeover (R130) -/

@[simp] theorem retireBank_shaft (b : BankId) (s : State) : (retireBank b s).shaft = s.shaft := by
  unfold retireBank; (repeat' split) <;> simp
@[simp] theorem retireBank_geometry (b : BankId) (s : State) : (retireBank b s).geometry = s.geometry := by
  unfold retireBank; (repeat' split) <;> simp
@[simp] theorem retireBank_chain (b : BankId) (s : State) : (retireBank b s).chain = s.chain := by
  unfold retireBank; (repeat' split) <;> simp
@[simp] theorem retireBank_firing (b : BankId) (s : State) : (retireBank b s).firing = s.firing := by
  unfold retireBank; (repeat' split) <;> simp
@[simp] theorem retireBank_registration (b : BankId) (s : State) : (retireBank b s).registration = s.registration := by
  unfold retireBank; (repeat' split) <;> simp
@[simp] theorem retireBank_gumFold (b : BankId) (s : State) : (retireBank b s).gumFold = s.gumFold := by
  unfold retireBank; (repeat' split) <;> simp
@[simp] theorem retireBank_verdicts (b : BankId) (s : State) : (retireBank b s).verdicts = s.verdicts := by
  unfold retireBank; (repeat' split) <;> simp
@[simp] theorem retireBank_batch (b : BankId) (s : State) : (retireBank b s).batch = s.batch := by
  unfold retireBank; (repeat' split) <;> simp
@[simp] theorem retireBank_line (b : BankId) (s : State) : (retireBank b s).line = s.line := by
  unfold retireBank; (repeat' split) <;> simp
@[simp] theorem retireBank_sensors (b : BankId) (s : State) : (retireBank b s).sensors = s.sensors := by
  unfold retireBank; (repeat' split) <;> simp
@[simp] theorem retireBank_pins (b : BankId) (s : State) : (retireBank b s).pins = s.pins := by
  unfold retireBank; (repeat' split) <;> simp
@[simp] theorem retireBank_choices (b : BankId) (s : State) : (retireBank b s).choices = s.choices := by
  unfold retireBank; (repeat' split) <;> simp
@[simp] theorem retireBank_pending (b : BankId) (s : State) : (retireBank b s).pending = s.pending := by
  unfold retireBank; (repeat' split) <;> simp

/-! ### the changeover (R130) -/

@[simp] theorem takeChangeover_shaft (s : State) : (takeChangeover s).shaft = s.shaft := by
  unfold takeChangeover; (repeat' split) <;> simp
@[simp] theorem takeChangeover_geometry (s : State) : (takeChangeover s).geometry = s.geometry := by
  unfold takeChangeover; (repeat' split) <;> simp
@[simp] theorem takeChangeover_chain (s : State) : (takeChangeover s).chain = s.chain := by
  unfold takeChangeover; (repeat' split) <;> simp
@[simp] theorem takeChangeover_firing (s : State) : (takeChangeover s).firing = s.firing := by
  unfold takeChangeover; (repeat' split) <;> simp
@[simp] theorem takeChangeover_gumFold (s : State) : (takeChangeover s).gumFold = s.gumFold := by
  unfold takeChangeover; (repeat' split) <;> simp
@[simp] theorem takeChangeover_verdicts (s : State) : (takeChangeover s).verdicts = s.verdicts := by
  unfold takeChangeover; (repeat' split) <;> simp
@[simp] theorem takeChangeover_sensors (s : State) : (takeChangeover s).sensors = s.sensors := by
  unfold takeChangeover; (repeat' split) <;> simp
@[simp] theorem takeChangeover_pins (s : State) : (takeChangeover s).pins = s.pins := by
  unfold takeChangeover; (repeat' split) <;> simp
@[simp] theorem takeChangeover_choices (s : State) : (takeChangeover s).choices = s.choices := by
  unfold takeChangeover; (repeat' split) <;> simp
@[simp] theorem takeChangeover_pending (s : State) : (takeChangeover s).pending = s.pending := by
  unfold takeChangeover; (repeat' split) <;> simp

/-! ### releasing a bank (R131) -/

@[simp] theorem releaseBank_shaft (b : BankId) (s : State) : (releaseBank b s).shaft = s.shaft := by
  unfold releaseBank; (repeat' split) <;> simp
@[simp] theorem releaseBank_geometry (b : BankId) (s : State) : (releaseBank b s).geometry = s.geometry := by
  unfold releaseBank; (repeat' split) <;> simp
@[simp] theorem releaseBank_chain (b : BankId) (s : State) : (releaseBank b s).chain = s.chain := by
  unfold releaseBank; (repeat' split) <;> simp
@[simp] theorem releaseBank_firing (b : BankId) (s : State) : (releaseBank b s).firing = s.firing := by
  unfold releaseBank; (repeat' split) <;> simp
@[simp] theorem releaseBank_registration (b : BankId) (s : State) : (releaseBank b s).registration = s.registration := by
  unfold releaseBank; (repeat' split) <;> simp
@[simp] theorem releaseBank_gumFold (b : BankId) (s : State) : (releaseBank b s).gumFold = s.gumFold := by
  unfold releaseBank; (repeat' split) <;> simp
@[simp] theorem releaseBank_verdicts (b : BankId) (s : State) : (releaseBank b s).verdicts = s.verdicts := by
  unfold releaseBank; (repeat' split) <;> simp
@[simp] theorem releaseBank_batch (b : BankId) (s : State) : (releaseBank b s).batch = s.batch := by
  unfold releaseBank; (repeat' split) <;> simp
@[simp] theorem releaseBank_line (b : BankId) (s : State) : (releaseBank b s).line = s.line := by
  unfold releaseBank; (repeat' split) <;> simp
@[simp] theorem releaseBank_sensors (b : BankId) (s : State) : (releaseBank b s).sensors = s.sensors := by
  unfold releaseBank; (repeat' split) <;> simp
@[simp] theorem releaseBank_pins (b : BankId) (s : State) : (releaseBank b s).pins = s.pins := by
  unfold releaseBank; (repeat' split) <;> simp
@[simp] theorem releaseBank_choices (b : BankId) (s : State) : (releaseBank b s).choices = s.choices := by
  unfold releaseBank; (repeat' split) <;> simp
@[simp] theorem releaseBank_pending (b : BankId) (s : State) : (releaseBank b s).pending = s.pending := by
  unfold releaseBank; (repeat' split) <;> simp

/-! ### the notices of banks no longer named (R31) -/

@[simp] theorem releaseNotices_shaft (l : List Record) (s : State) : (releaseNotices l s).shaft = s.shaft := by
  simp only [releaseNotices, List.foldl]; (repeat' split) <;> simp
@[simp] theorem releaseNotices_geometry (l : List Record) (s : State) : (releaseNotices l s).geometry = s.geometry := by
  simp only [releaseNotices, List.foldl]; (repeat' split) <;> simp
@[simp] theorem releaseNotices_chain (l : List Record) (s : State) : (releaseNotices l s).chain = s.chain := by
  simp only [releaseNotices, List.foldl]; (repeat' split) <;> simp
@[simp] theorem releaseNotices_firing (l : List Record) (s : State) : (releaseNotices l s).firing = s.firing := by
  simp only [releaseNotices, List.foldl]; (repeat' split) <;> simp
@[simp] theorem releaseNotices_registration (l : List Record) (s : State) : (releaseNotices l s).registration = s.registration := by
  simp only [releaseNotices, List.foldl]; (repeat' split) <;> simp
@[simp] theorem releaseNotices_gumFold (l : List Record) (s : State) : (releaseNotices l s).gumFold = s.gumFold := by
  simp only [releaseNotices, List.foldl]; (repeat' split) <;> simp
@[simp] theorem releaseNotices_verdicts (l : List Record) (s : State) : (releaseNotices l s).verdicts = s.verdicts := by
  simp only [releaseNotices, List.foldl]; (repeat' split) <;> simp
@[simp] theorem releaseNotices_batch (l : List Record) (s : State) : (releaseNotices l s).batch = s.batch := by
  simp only [releaseNotices, List.foldl]; (repeat' split) <;> simp
@[simp] theorem releaseNotices_line (l : List Record) (s : State) : (releaseNotices l s).line = s.line := by
  simp only [releaseNotices, List.foldl]; (repeat' split) <;> simp
@[simp] theorem releaseNotices_sensors (l : List Record) (s : State) : (releaseNotices l s).sensors = s.sensors := by
  simp only [releaseNotices, List.foldl]; (repeat' split) <;> simp
@[simp] theorem releaseNotices_pins (l : List Record) (s : State) : (releaseNotices l s).pins = s.pins := by
  simp only [releaseNotices, List.foldl]; (repeat' split) <;> simp
@[simp] theorem releaseNotices_choices (l : List Record) (s : State) : (releaseNotices l s).choices = s.choices := by
  simp only [releaseNotices, List.foldl]; (repeat' split) <;> simp
@[simp] theorem releaseNotices_pending (l : List Record) (s : State) : (releaseNotices l s).pending = s.pending := by
  simp only [releaseNotices, List.foldl]; (repeat' split) <;> simp

/-! ### the backlog (R114) -/

@[simp] theorem checkBacklog_shaft (s : State) : (checkBacklog s).shaft = s.shaft := by
  unfold checkBacklog; (repeat' split) <;> simp
@[simp] theorem checkBacklog_geometry (s : State) : (checkBacklog s).geometry = s.geometry := by
  unfold checkBacklog; (repeat' split) <;> simp
@[simp] theorem checkBacklog_chain (s : State) : (checkBacklog s).chain = s.chain := by
  unfold checkBacklog; (repeat' split) <;> simp
@[simp] theorem checkBacklog_firing (s : State) : (checkBacklog s).firing = s.firing := by
  unfold checkBacklog; (repeat' split) <;> simp
@[simp] theorem checkBacklog_registration (s : State) : (checkBacklog s).registration = s.registration := by
  unfold checkBacklog; (repeat' split) <;> simp
@[simp] theorem checkBacklog_gumFold (s : State) : (checkBacklog s).gumFold = s.gumFold := by
  unfold checkBacklog; (repeat' split) <;> simp
@[simp] theorem checkBacklog_verdicts (s : State) : (checkBacklog s).verdicts = s.verdicts := by
  unfold checkBacklog; (repeat' split) <;> simp
@[simp] theorem checkBacklog_banks (s : State) : (checkBacklog s).banks = s.banks := by
  unfold checkBacklog; (repeat' split) <;> simp
@[simp] theorem checkBacklog_sensors (s : State) : (checkBacklog s).sensors = s.sensors := by
  unfold checkBacklog; (repeat' split) <;> simp
@[simp] theorem checkBacklog_pins (s : State) : (checkBacklog s).pins = s.pins := by
  unfold checkBacklog; (repeat' split) <;> simp
@[simp] theorem checkBacklog_choices (s : State) : (checkBacklog s).choices = s.choices := by
  unfold checkBacklog; (repeat' split) <;> simp
@[simp] theorem checkBacklog_pending (s : State) : (checkBacklog s).pending = s.pending := by
  unfold checkBacklog; (repeat' split) <;> simp

/-! ### closing a batch (R111) -/

@[simp] theorem closeBatch_shaft (c : CloseCause) (s : State) : (closeBatch c s).shaft = s.shaft := by
  unfold closeBatch; (repeat' split) <;> simp
@[simp] theorem closeBatch_geometry (c : CloseCause) (s : State) : (closeBatch c s).geometry = s.geometry := by
  unfold closeBatch; (repeat' split) <;> simp
@[simp] theorem closeBatch_chain (c : CloseCause) (s : State) : (closeBatch c s).chain = s.chain := by
  unfold closeBatch; (repeat' split) <;> simp
@[simp] theorem closeBatch_firing (c : CloseCause) (s : State) : (closeBatch c s).firing = s.firing := by
  unfold closeBatch; (repeat' split) <;> simp
@[simp] theorem closeBatch_registration (c : CloseCause) (s : State) : (closeBatch c s).registration = s.registration := by
  unfold closeBatch; (repeat' split) <;> simp
@[simp] theorem closeBatch_gumFold (c : CloseCause) (s : State) : (closeBatch c s).gumFold = s.gumFold := by
  unfold closeBatch; (repeat' split) <;> simp
@[simp] theorem closeBatch_verdicts (c : CloseCause) (s : State) : (closeBatch c s).verdicts = s.verdicts := by
  unfold closeBatch; (repeat' split) <;> simp
@[simp] theorem closeBatch_banks (c : CloseCause) (s : State) : (closeBatch c s).banks = s.banks := by
  unfold closeBatch; (repeat' split) <;> simp
@[simp] theorem closeBatch_sensors (c : CloseCause) (s : State) : (closeBatch c s).sensors = s.sensors := by
  unfold closeBatch; (repeat' split) <;> simp
@[simp] theorem closeBatch_pins (c : CloseCause) (s : State) : (closeBatch c s).pins = s.pins := by
  unfold closeBatch; (repeat' split) <;> simp
@[simp] theorem closeBatch_choices (c : CloseCause) (s : State) : (closeBatch c s).choices = s.choices := by
  unfold closeBatch; (repeat' split) <;> simp
@[simp] theorem closeBatch_pending (c : CloseCause) (s : State) : (closeBatch c s).pending = s.pending := by
  unfold closeBatch; (repeat' split) <;> simp

/-! ### entering HALT (R141) -/

@[simp] theorem enterHalt_geometry (c : HaltCause) (l : Option Link) (s : State) : (enterHalt c l s).geometry = s.geometry := by
  unfold enterHalt; (repeat' split) <;> simp
@[simp] theorem enterHalt_verdicts (c : HaltCause) (l : Option Link) (s : State) : (enterHalt c l s).verdicts = s.verdicts := by
  unfold enterHalt; (repeat' split) <;> simp
@[simp] theorem enterHalt_batch (c : HaltCause) (l : Option Link) (s : State) : (enterHalt c l s).batch = s.batch := by
  unfold enterHalt; (repeat' split) <;> simp
@[simp] theorem enterHalt_banks (c : HaltCause) (l : Option Link) (s : State) : (enterHalt c l s).banks = s.banks := by
  unfold enterHalt; (repeat' split) <;> simp
@[simp] theorem enterHalt_sensors (c : HaltCause) (l : Option Link) (s : State) : (enterHalt c l s).sensors = s.sensors := by
  unfold enterHalt; (repeat' split) <;> simp
@[simp] theorem enterHalt_pins (c : HaltCause) (l : Option Link) (s : State) : (enterHalt c l s).pins = s.pins := by
  unfold enterHalt; (repeat' split) <;> simp
@[simp] theorem enterHalt_choices (c : HaltCause) (l : Option Link) (s : State) : (enterHalt c l s).choices = s.choices := by
  unfold enterHalt; (repeat' split) <;> simp
@[simp] theorem enterHalt_pending (c : HaltCause) (l : Option Link) (s : State) : (enterHalt c l s).pending = s.pending := by
  unfold enterHalt; (repeat' split) <;> simp

/-! ### raising a halt cause (R140) -/

@[simp] theorem raiseCause_geometry (c : HaltCause) (l : Option Link) (s : State) : (raiseCause c l s).geometry = s.geometry := by
  unfold raiseCause; (repeat' split) <;> simp
@[simp] theorem raiseCause_verdicts (c : HaltCause) (l : Option Link) (s : State) : (raiseCause c l s).verdicts = s.verdicts := by
  unfold raiseCause; (repeat' split) <;> simp
@[simp] theorem raiseCause_batch (c : HaltCause) (l : Option Link) (s : State) : (raiseCause c l s).batch = s.batch := by
  unfold raiseCause; (repeat' split) <;> simp
@[simp] theorem raiseCause_banks (c : HaltCause) (l : Option Link) (s : State) : (raiseCause c l s).banks = s.banks := by
  unfold raiseCause; (repeat' split) <;> simp
@[simp] theorem raiseCause_sensors (c : HaltCause) (l : Option Link) (s : State) : (raiseCause c l s).sensors = s.sensors := by
  unfold raiseCause; (repeat' split) <;> simp
@[simp] theorem raiseCause_pins (c : HaltCause) (l : Option Link) (s : State) : (raiseCause c l s).pins = s.pins := by
  unfold raiseCause; (repeat' split) <;> simp
@[simp] theorem raiseCause_choices (c : HaltCause) (l : Option Link) (s : State) : (raiseCause c l s).choices = s.choices := by
  unfold raiseCause; (repeat' split) <;> simp
@[simp] theorem raiseCause_pending (c : HaltCause) (l : Option Link) (s : State) : (raiseCause c l s).pending = s.pending := by
  unfold raiseCause; (repeat' split) <;> simp

/-! ### an off edge (R51) -/

@[simp] theorem offEdge_shaft (ch : Channel) (q : Seq) (s : State) : (offEdge ch q s).shaft = s.shaft := by
  unfold offEdge; (repeat' split) <;> simp
@[simp] theorem offEdge_geometry (ch : Channel) (q : Seq) (s : State) : (offEdge ch q s).geometry = s.geometry := by
  unfold offEdge; (repeat' split) <;> simp
@[simp] theorem offEdge_chain (ch : Channel) (q : Seq) (s : State) : (offEdge ch q s).chain = s.chain := by
  unfold offEdge; (repeat' split) <;> simp
@[simp] theorem offEdge_registration (ch : Channel) (q : Seq) (s : State) : (offEdge ch q s).registration = s.registration := by
  unfold offEdge; (repeat' split) <;> simp
@[simp] theorem offEdge_gumFold (ch : Channel) (q : Seq) (s : State) : (offEdge ch q s).gumFold = s.gumFold := by
  unfold offEdge; (repeat' split) <;> simp
@[simp] theorem offEdge_verdicts (ch : Channel) (q : Seq) (s : State) : (offEdge ch q s).verdicts = s.verdicts := by
  unfold offEdge; (repeat' split) <;> simp
@[simp] theorem offEdge_batch (ch : Channel) (q : Seq) (s : State) : (offEdge ch q s).batch = s.batch := by
  unfold offEdge; (repeat' split) <;> simp
@[simp] theorem offEdge_banks (ch : Channel) (q : Seq) (s : State) : (offEdge ch q s).banks = s.banks := by
  unfold offEdge; (repeat' split) <;> simp
@[simp] theorem offEdge_line (ch : Channel) (q : Seq) (s : State) : (offEdge ch q s).line = s.line := by
  unfold offEdge; (repeat' split) <;> simp
@[simp] theorem offEdge_ports (ch : Channel) (q : Seq) (s : State) : (offEdge ch q s).ports = s.ports := by
  unfold offEdge; (repeat' split) <;> simp
@[simp] theorem offEdge_sensors (ch : Channel) (q : Seq) (s : State) : (offEdge ch q s).sensors = s.sensors := by
  unfold offEdge; (repeat' split) <;> simp
@[simp] theorem offEdge_pins (ch : Channel) (q : Seq) (s : State) : (offEdge ch q s).pins = s.pins := by
  unfold offEdge; (repeat' split) <;> simp
@[simp] theorem offEdge_choices (ch : Channel) (q : Seq) (s : State) : (offEdge ch q s).choices = s.choices := by
  unfold offEdge; (repeat' split) <;> simp
@[simp] theorem offEdge_pending (ch : Channel) (q : Seq) (s : State) : (offEdge ch q s).pending = s.pending := by
  unfold offEdge; (repeat' split) <;> simp

/-! ### settling a WAITING firing (R53) -/

@[simp] theorem settleWaiting_shaft (q : Seq) (f : Fate) (s : State) : (settleWaiting q f s).shaft = s.shaft := by
  unfold settleWaiting; (repeat' split) <;> simp
@[simp] theorem settleWaiting_geometry (q : Seq) (f : Fate) (s : State) : (settleWaiting q f s).geometry = s.geometry := by
  unfold settleWaiting; (repeat' split) <;> simp
@[simp] theorem settleWaiting_chain (q : Seq) (f : Fate) (s : State) : (settleWaiting q f s).chain = s.chain := by
  unfold settleWaiting; (repeat' split) <;> simp
@[simp] theorem settleWaiting_registration (q : Seq) (f : Fate) (s : State) : (settleWaiting q f s).registration = s.registration := by
  unfold settleWaiting; (repeat' split) <;> simp
@[simp] theorem settleWaiting_gumFold (q : Seq) (f : Fate) (s : State) : (settleWaiting q f s).gumFold = s.gumFold := by
  unfold settleWaiting; (repeat' split) <;> simp
@[simp] theorem settleWaiting_verdicts (q : Seq) (f : Fate) (s : State) : (settleWaiting q f s).verdicts = s.verdicts := by
  unfold settleWaiting; (repeat' split) <;> simp
@[simp] theorem settleWaiting_batch (q : Seq) (f : Fate) (s : State) : (settleWaiting q f s).batch = s.batch := by
  unfold settleWaiting; (repeat' split) <;> simp
@[simp] theorem settleWaiting_banks (q : Seq) (f : Fate) (s : State) : (settleWaiting q f s).banks = s.banks := by
  unfold settleWaiting; (repeat' split) <;> simp
@[simp] theorem settleWaiting_line (q : Seq) (f : Fate) (s : State) : (settleWaiting q f s).line = s.line := by
  unfold settleWaiting; (repeat' split) <;> simp
@[simp] theorem settleWaiting_ports (q : Seq) (f : Fate) (s : State) : (settleWaiting q f s).ports = s.ports := by
  unfold settleWaiting; (repeat' split) <;> simp
@[simp] theorem settleWaiting_sensors (q : Seq) (f : Fate) (s : State) : (settleWaiting q f s).sensors = s.sensors := by
  unfold settleWaiting; (repeat' split) <;> simp
@[simp] theorem settleWaiting_pins (q : Seq) (f : Fate) (s : State) : (settleWaiting q f s).pins = s.pins := by
  unfold settleWaiting; (repeat' split) <;> simp
@[simp] theorem settleWaiting_choices (q : Seq) (f : Fate) (s : State) : (settleWaiting q f s).choices = s.choices := by
  unfold settleWaiting; (repeat' split) <;> simp
@[simp] theorem settleWaiting_pending (q : Seq) (f : Fate) (s : State) : (settleWaiting q f s).pending = s.pending := by
  unfold settleWaiting; (repeat' split) <;> simp

/-! ### a missing mark (R67) -/

@[simp] theorem noteMissingMark_shaft (q : Seq) (s : State) : (noteMissingMark q s).shaft = s.shaft := by
  unfold noteMissingMark; (repeat' split) <;> simp
@[simp] theorem noteMissingMark_geometry (q : Seq) (s : State) : (noteMissingMark q s).geometry = s.geometry := by
  unfold noteMissingMark; (repeat' split) <;> simp
@[simp] theorem noteMissingMark_firing (q : Seq) (s : State) : (noteMissingMark q s).firing = s.firing := by
  unfold noteMissingMark; (repeat' split) <;> simp
@[simp] theorem noteMissingMark_registration (q : Seq) (s : State) : (noteMissingMark q s).registration = s.registration := by
  unfold noteMissingMark; (repeat' split) <;> simp
@[simp] theorem noteMissingMark_gumFold (q : Seq) (s : State) : (noteMissingMark q s).gumFold = s.gumFold := by
  unfold noteMissingMark; (repeat' split) <;> simp
@[simp] theorem noteMissingMark_verdicts (q : Seq) (s : State) : (noteMissingMark q s).verdicts = s.verdicts := by
  unfold noteMissingMark; (repeat' split) <;> simp
@[simp] theorem noteMissingMark_batch (q : Seq) (s : State) : (noteMissingMark q s).batch = s.batch := by
  unfold noteMissingMark; (repeat' split) <;> simp
@[simp] theorem noteMissingMark_banks (q : Seq) (s : State) : (noteMissingMark q s).banks = s.banks := by
  unfold noteMissingMark; (repeat' split) <;> simp
@[simp] theorem noteMissingMark_line (q : Seq) (s : State) : (noteMissingMark q s).line = s.line := by
  unfold noteMissingMark; (repeat' split) <;> simp
@[simp] theorem noteMissingMark_ports (q : Seq) (s : State) : (noteMissingMark q s).ports = s.ports := by
  unfold noteMissingMark; (repeat' split) <;> simp
@[simp] theorem noteMissingMark_sensors (q : Seq) (s : State) : (noteMissingMark q s).sensors = s.sensors := by
  unfold noteMissingMark; (repeat' split) <;> simp
@[simp] theorem noteMissingMark_pins (q : Seq) (s : State) : (noteMissingMark q s).pins = s.pins := by
  unfold noteMissingMark; (repeat' split) <;> simp
@[simp] theorem noteMissingMark_choices (q : Seq) (s : State) : (noteMissingMark q s).choices = s.choices := by
  unfold noteMissingMark; (repeat' split) <;> simp
@[simp] theorem noteMissingMark_pending (q : Seq) (s : State) : (noteMissingMark q s).pending = s.pending := by
  unfold noteMissingMark; (repeat' split) <;> simp

/-! ### a missing patch (R74) -/

@[simp] theorem noteMissingPatch_shaft (q : Seq) (s : State) : (noteMissingPatch q s).shaft = s.shaft := by
  unfold noteMissingPatch; (repeat' split) <;> simp
@[simp] theorem noteMissingPatch_geometry (q : Seq) (s : State) : (noteMissingPatch q s).geometry = s.geometry := by
  unfold noteMissingPatch; (repeat' split) <;> simp
@[simp] theorem noteMissingPatch_firing (q : Seq) (s : State) : (noteMissingPatch q s).firing = s.firing := by
  unfold noteMissingPatch; (repeat' split) <;> simp
@[simp] theorem noteMissingPatch_registration (q : Seq) (s : State) : (noteMissingPatch q s).registration = s.registration := by
  unfold noteMissingPatch; (repeat' split) <;> simp
@[simp] theorem noteMissingPatch_gumFold (q : Seq) (s : State) : (noteMissingPatch q s).gumFold = s.gumFold := by
  unfold noteMissingPatch; (repeat' split) <;> simp
@[simp] theorem noteMissingPatch_verdicts (q : Seq) (s : State) : (noteMissingPatch q s).verdicts = s.verdicts := by
  unfold noteMissingPatch; (repeat' split) <;> simp
@[simp] theorem noteMissingPatch_batch (q : Seq) (s : State) : (noteMissingPatch q s).batch = s.batch := by
  unfold noteMissingPatch; (repeat' split) <;> simp
@[simp] theorem noteMissingPatch_banks (q : Seq) (s : State) : (noteMissingPatch q s).banks = s.banks := by
  unfold noteMissingPatch; (repeat' split) <;> simp
@[simp] theorem noteMissingPatch_line (q : Seq) (s : State) : (noteMissingPatch q s).line = s.line := by
  unfold noteMissingPatch; (repeat' split) <;> simp
@[simp] theorem noteMissingPatch_ports (q : Seq) (s : State) : (noteMissingPatch q s).ports = s.ports := by
  unfold noteMissingPatch; (repeat' split) <;> simp
@[simp] theorem noteMissingPatch_sensors (q : Seq) (s : State) : (noteMissingPatch q s).sensors = s.sensors := by
  unfold noteMissingPatch; (repeat' split) <;> simp
@[simp] theorem noteMissingPatch_pins (q : Seq) (s : State) : (noteMissingPatch q s).pins = s.pins := by
  unfold noteMissingPatch; (repeat' split) <;> simp
@[simp] theorem noteMissingPatch_choices (q : Seq) (s : State) : (noteMissingPatch q s).choices = s.choices := by
  unfold noteMissingPatch; (repeat' split) <;> simp
@[simp] theorem noteMissingPatch_pending (q : Seq) (s : State) : (noteMissingPatch q s).pending = s.pending := by
  unfold noteMissingPatch; (repeat' split) <;> simp

/-! ### settling the mark subject (R67) -/

@[simp] theorem settleMark_shaft (s : State) : (settleMark s).shaft = s.shaft := by
  unfold settleMark; (repeat' split) <;> simp
@[simp] theorem settleMark_geometry (s : State) : (settleMark s).geometry = s.geometry := by
  unfold settleMark; (repeat' split) <;> simp
@[simp] theorem settleMark_firing (s : State) : (settleMark s).firing = s.firing := by
  unfold settleMark; (repeat' split) <;> simp
@[simp] theorem settleMark_gumFold (s : State) : (settleMark s).gumFold = s.gumFold := by
  unfold settleMark; (repeat' split) <;> simp
@[simp] theorem settleMark_verdicts (s : State) : (settleMark s).verdicts = s.verdicts := by
  unfold settleMark; (repeat' split) <;> simp
@[simp] theorem settleMark_batch (s : State) : (settleMark s).batch = s.batch := by
  unfold settleMark; (repeat' split) <;> simp
@[simp] theorem settleMark_banks (s : State) : (settleMark s).banks = s.banks := by
  unfold settleMark; (repeat' split) <;> simp
@[simp] theorem settleMark_line (s : State) : (settleMark s).line = s.line := by
  unfold settleMark; (repeat' split) <;> simp
@[simp] theorem settleMark_ports (s : State) : (settleMark s).ports = s.ports := by
  unfold settleMark; (repeat' split) <;> simp
@[simp] theorem settleMark_sensors (s : State) : (settleMark s).sensors = s.sensors := by
  unfold settleMark; (repeat' split) <;> simp
@[simp] theorem settleMark_pins (s : State) : (settleMark s).pins = s.pins := by
  unfold settleMark; (repeat' split) <;> simp
@[simp] theorem settleMark_choices (s : State) : (settleMark s).choices = s.choices := by
  unfold settleMark; (repeat' split) <;> simp
@[simp] theorem settleMark_pending (s : State) : (settleMark s).pending = s.pending := by
  unfold settleMark; (repeat' split) <;> simp

/-! ### settling the patch subject (R74) -/

@[simp] theorem settlePatch_shaft (s : State) : (settlePatch s).shaft = s.shaft := by
  unfold settlePatch; (repeat' split) <;> simp
@[simp] theorem settlePatch_geometry (s : State) : (settlePatch s).geometry = s.geometry := by
  unfold settlePatch; (repeat' split) <;> simp
@[simp] theorem settlePatch_firing (s : State) : (settlePatch s).firing = s.firing := by
  unfold settlePatch; (repeat' split) <;> simp
@[simp] theorem settlePatch_gumFold (s : State) : (settlePatch s).gumFold = s.gumFold := by
  unfold settlePatch; (repeat' split) <;> simp
@[simp] theorem settlePatch_verdicts (s : State) : (settlePatch s).verdicts = s.verdicts := by
  unfold settlePatch; (repeat' split) <;> simp
@[simp] theorem settlePatch_batch (s : State) : (settlePatch s).batch = s.batch := by
  unfold settlePatch; (repeat' split) <;> simp
@[simp] theorem settlePatch_banks (s : State) : (settlePatch s).banks = s.banks := by
  unfold settlePatch; (repeat' split) <;> simp
@[simp] theorem settlePatch_line (s : State) : (settlePatch s).line = s.line := by
  unfold settlePatch; (repeat' split) <;> simp
@[simp] theorem settlePatch_ports (s : State) : (settlePatch s).ports = s.ports := by
  unfold settlePatch; (repeat' split) <;> simp
@[simp] theorem settlePatch_sensors (s : State) : (settlePatch s).sensors = s.sensors := by
  unfold settlePatch; (repeat' split) <;> simp
@[simp] theorem settlePatch_pins (s : State) : (settlePatch s).pins = s.pins := by
  unfold settlePatch; (repeat' split) <;> simp
@[simp] theorem settlePatch_choices (s : State) : (settlePatch s).choices = s.choices := by
  unfold settlePatch; (repeat' split) <;> simp
@[simp] theorem settlePatch_pending (s : State) : (settlePatch s).pending = s.pending := by
  unfold settlePatch; (repeat' split) <;> simp

/-! ### opening the mark window (R63) -/

@[simp] theorem openMark_shaft (s : State) : (openMark s).shaft = s.shaft := by
  unfold openMark; (repeat' split) <;> simp
@[simp] theorem openMark_geometry (s : State) : (openMark s).geometry = s.geometry := by
  unfold openMark; (repeat' split) <;> simp
@[simp] theorem openMark_chain (s : State) : (openMark s).chain = s.chain := by
  unfold openMark; (repeat' split) <;> simp
@[simp] theorem openMark_firing (s : State) : (openMark s).firing = s.firing := by
  unfold openMark; (repeat' split) <;> simp
@[simp] theorem openMark_gumFold (s : State) : (openMark s).gumFold = s.gumFold := by
  unfold openMark; (repeat' split) <;> simp
@[simp] theorem openMark_verdicts (s : State) : (openMark s).verdicts = s.verdicts := by
  unfold openMark; (repeat' split) <;> simp
@[simp] theorem openMark_batch (s : State) : (openMark s).batch = s.batch := by
  unfold openMark; (repeat' split) <;> simp
@[simp] theorem openMark_banks (s : State) : (openMark s).banks = s.banks := by
  unfold openMark; (repeat' split) <;> simp
@[simp] theorem openMark_line (s : State) : (openMark s).line = s.line := by
  unfold openMark; (repeat' split) <;> simp
@[simp] theorem openMark_ports (s : State) : (openMark s).ports = s.ports := by
  unfold openMark; (repeat' split) <;> simp
@[simp] theorem openMark_sensors (s : State) : (openMark s).sensors = s.sensors := by
  unfold openMark; (repeat' split) <;> simp
@[simp] theorem openMark_pins (s : State) : (openMark s).pins = s.pins := by
  unfold openMark; (repeat' split) <;> simp
@[simp] theorem openMark_choices (s : State) : (openMark s).choices = s.choices := by
  unfold openMark; (repeat' split) <;> simp
@[simp] theorem openMark_pending (s : State) : (openMark s).pending = s.pending := by
  unfold openMark; (repeat' split) <;> simp

/-! ### opening the patch window (R63) -/

@[simp] theorem openPatch_shaft (s : State) : (openPatch s).shaft = s.shaft := by
  unfold openPatch; (repeat' split) <;> simp
@[simp] theorem openPatch_geometry (s : State) : (openPatch s).geometry = s.geometry := by
  unfold openPatch; (repeat' split) <;> simp
@[simp] theorem openPatch_chain (s : State) : (openPatch s).chain = s.chain := by
  unfold openPatch; (repeat' split) <;> simp
@[simp] theorem openPatch_firing (s : State) : (openPatch s).firing = s.firing := by
  unfold openPatch; (repeat' split) <;> simp
@[simp] theorem openPatch_gumFold (s : State) : (openPatch s).gumFold = s.gumFold := by
  unfold openPatch; (repeat' split) <;> simp
@[simp] theorem openPatch_verdicts (s : State) : (openPatch s).verdicts = s.verdicts := by
  unfold openPatch; (repeat' split) <;> simp
@[simp] theorem openPatch_batch (s : State) : (openPatch s).batch = s.batch := by
  unfold openPatch; (repeat' split) <;> simp
@[simp] theorem openPatch_banks (s : State) : (openPatch s).banks = s.banks := by
  unfold openPatch; (repeat' split) <;> simp
@[simp] theorem openPatch_line (s : State) : (openPatch s).line = s.line := by
  unfold openPatch; (repeat' split) <;> simp
@[simp] theorem openPatch_ports (s : State) : (openPatch s).ports = s.ports := by
  unfold openPatch; (repeat' split) <;> simp
@[simp] theorem openPatch_sensors (s : State) : (openPatch s).sensors = s.sensors := by
  unfold openPatch; (repeat' split) <;> simp
@[simp] theorem openPatch_pins (s : State) : (openPatch s).pins = s.pins := by
  unfold openPatch; (repeat' split) <;> simp
@[simp] theorem openPatch_choices (s : State) : (openPatch s).choices = s.choices := by
  unfold openPatch; (repeat' split) <;> simp
@[simp] theorem openPatch_pending (s : State) : (openPatch s).pending = s.pending := by
  unfold openPatch; (repeat' split) <;> simp

/-! ### the mark subject at a crossing -/

@[simp] theorem markCrossing_shaft (p : Nat) (s : State) : (markCrossing p s).shaft = s.shaft := by
  unfold markCrossing; (repeat' split) <;> simp
@[simp] theorem markCrossing_geometry (p : Nat) (s : State) : (markCrossing p s).geometry = s.geometry := by
  unfold markCrossing; (repeat' split) <;> simp
@[simp] theorem markCrossing_firing (p : Nat) (s : State) : (markCrossing p s).firing = s.firing := by
  unfold markCrossing; (repeat' split) <;> simp
@[simp] theorem markCrossing_gumFold (p : Nat) (s : State) : (markCrossing p s).gumFold = s.gumFold := by
  unfold markCrossing; (repeat' split) <;> simp
@[simp] theorem markCrossing_verdicts (p : Nat) (s : State) : (markCrossing p s).verdicts = s.verdicts := by
  unfold markCrossing; (repeat' split) <;> simp
@[simp] theorem markCrossing_batch (p : Nat) (s : State) : (markCrossing p s).batch = s.batch := by
  unfold markCrossing; (repeat' split) <;> simp
@[simp] theorem markCrossing_banks (p : Nat) (s : State) : (markCrossing p s).banks = s.banks := by
  unfold markCrossing; (repeat' split) <;> simp
@[simp] theorem markCrossing_line (p : Nat) (s : State) : (markCrossing p s).line = s.line := by
  unfold markCrossing; (repeat' split) <;> simp
@[simp] theorem markCrossing_ports (p : Nat) (s : State) : (markCrossing p s).ports = s.ports := by
  unfold markCrossing; (repeat' split) <;> simp
@[simp] theorem markCrossing_sensors (p : Nat) (s : State) : (markCrossing p s).sensors = s.sensors := by
  unfold markCrossing; (repeat' split) <;> simp
@[simp] theorem markCrossing_pins (p : Nat) (s : State) : (markCrossing p s).pins = s.pins := by
  unfold markCrossing; (repeat' split) <;> simp
@[simp] theorem markCrossing_choices (p : Nat) (s : State) : (markCrossing p s).choices = s.choices := by
  unfold markCrossing; (repeat' split) <;> simp
@[simp] theorem markCrossing_pending (p : Nat) (s : State) : (markCrossing p s).pending = s.pending := by
  unfold markCrossing; (repeat' split) <;> simp

/-! ### the patch subject at a crossing -/

@[simp] theorem patchCrossing_shaft (p : Nat) (s : State) : (patchCrossing p s).shaft = s.shaft := by
  unfold patchCrossing; (repeat' split) <;> simp
@[simp] theorem patchCrossing_geometry (p : Nat) (s : State) : (patchCrossing p s).geometry = s.geometry := by
  unfold patchCrossing; (repeat' split) <;> simp
@[simp] theorem patchCrossing_firing (p : Nat) (s : State) : (patchCrossing p s).firing = s.firing := by
  unfold patchCrossing; (repeat' split) <;> simp
@[simp] theorem patchCrossing_gumFold (p : Nat) (s : State) : (patchCrossing p s).gumFold = s.gumFold := by
  unfold patchCrossing; (repeat' split) <;> simp
@[simp] theorem patchCrossing_verdicts (p : Nat) (s : State) : (patchCrossing p s).verdicts = s.verdicts := by
  unfold patchCrossing; (repeat' split) <;> simp
@[simp] theorem patchCrossing_batch (p : Nat) (s : State) : (patchCrossing p s).batch = s.batch := by
  unfold patchCrossing; (repeat' split) <;> simp
@[simp] theorem patchCrossing_banks (p : Nat) (s : State) : (patchCrossing p s).banks = s.banks := by
  unfold patchCrossing; (repeat' split) <;> simp
@[simp] theorem patchCrossing_line (p : Nat) (s : State) : (patchCrossing p s).line = s.line := by
  unfold patchCrossing; (repeat' split) <;> simp
@[simp] theorem patchCrossing_ports (p : Nat) (s : State) : (patchCrossing p s).ports = s.ports := by
  unfold patchCrossing; (repeat' split) <;> simp
@[simp] theorem patchCrossing_sensors (p : Nat) (s : State) : (patchCrossing p s).sensors = s.sensors := by
  unfold patchCrossing; (repeat' split) <;> simp
@[simp] theorem patchCrossing_pins (p : Nat) (s : State) : (patchCrossing p s).pins = s.pins := by
  unfold patchCrossing; (repeat' split) <;> simp
@[simp] theorem patchCrossing_choices (p : Nat) (s : State) : (patchCrossing p s).choices = s.choices := by
  unfold patchCrossing; (repeat' split) <;> simp
@[simp] theorem patchCrossing_pending (p : Nat) (s : State) : (patchCrossing p s).pending = s.pending := by
  unfold patchCrossing; (repeat' split) <;> simp

/-! ### new subjects (R62) -/

@[simp] theorem takeSubjects_shaft (s : State) : (takeSubjects s).shaft = s.shaft := by
  rfl
@[simp] theorem takeSubjects_geometry (s : State) : (takeSubjects s).geometry = s.geometry := by
  rfl
@[simp] theorem takeSubjects_chain (s : State) : (takeSubjects s).chain = s.chain := by
  rfl
@[simp] theorem takeSubjects_firing (s : State) : (takeSubjects s).firing = s.firing := by
  rfl
@[simp] theorem takeSubjects_gumFold (s : State) : (takeSubjects s).gumFold = s.gumFold := by
  rfl
@[simp] theorem takeSubjects_verdicts (s : State) : (takeSubjects s).verdicts = s.verdicts := by
  rfl
@[simp] theorem takeSubjects_batch (s : State) : (takeSubjects s).batch = s.batch := by
  rfl
@[simp] theorem takeSubjects_banks (s : State) : (takeSubjects s).banks = s.banks := by
  rfl
@[simp] theorem takeSubjects_line (s : State) : (takeSubjects s).line = s.line := by
  rfl
@[simp] theorem takeSubjects_ports (s : State) : (takeSubjects s).ports = s.ports := by
  rfl
@[simp] theorem takeSubjects_sensors (s : State) : (takeSubjects s).sensors = s.sensors := by
  rfl
@[simp] theorem takeSubjects_pins (s : State) : (takeSubjects s).pins = s.pins := by
  rfl
@[simp] theorem takeSubjects_choices (s : State) : (takeSubjects s).choices = s.choices := by
  rfl
@[simp] theorem takeSubjects_pending (s : State) : (takeSubjects s).pending = s.pending := by
  rfl

/-! ### a mark window that opens at phase 0 (R62) -/

@[simp] theorem openMarkAtZero_shaft (s : State) : (openMarkAtZero s).shaft = s.shaft := by
  unfold openMarkAtZero; (repeat' split) <;> simp
@[simp] theorem openMarkAtZero_geometry (s : State) : (openMarkAtZero s).geometry = s.geometry := by
  unfold openMarkAtZero; (repeat' split) <;> simp
@[simp] theorem openMarkAtZero_chain (s : State) : (openMarkAtZero s).chain = s.chain := by
  unfold openMarkAtZero; (repeat' split) <;> simp
@[simp] theorem openMarkAtZero_firing (s : State) : (openMarkAtZero s).firing = s.firing := by
  unfold openMarkAtZero; (repeat' split) <;> simp
@[simp] theorem openMarkAtZero_gumFold (s : State) : (openMarkAtZero s).gumFold = s.gumFold := by
  unfold openMarkAtZero; (repeat' split) <;> simp
@[simp] theorem openMarkAtZero_verdicts (s : State) : (openMarkAtZero s).verdicts = s.verdicts := by
  unfold openMarkAtZero; (repeat' split) <;> simp
@[simp] theorem openMarkAtZero_batch (s : State) : (openMarkAtZero s).batch = s.batch := by
  unfold openMarkAtZero; (repeat' split) <;> simp
@[simp] theorem openMarkAtZero_banks (s : State) : (openMarkAtZero s).banks = s.banks := by
  unfold openMarkAtZero; (repeat' split) <;> simp
@[simp] theorem openMarkAtZero_line (s : State) : (openMarkAtZero s).line = s.line := by
  unfold openMarkAtZero; (repeat' split) <;> simp
@[simp] theorem openMarkAtZero_ports (s : State) : (openMarkAtZero s).ports = s.ports := by
  unfold openMarkAtZero; (repeat' split) <;> simp
@[simp] theorem openMarkAtZero_sensors (s : State) : (openMarkAtZero s).sensors = s.sensors := by
  unfold openMarkAtZero; (repeat' split) <;> simp
@[simp] theorem openMarkAtZero_pins (s : State) : (openMarkAtZero s).pins = s.pins := by
  unfold openMarkAtZero; (repeat' split) <;> simp
@[simp] theorem openMarkAtZero_choices (s : State) : (openMarkAtZero s).choices = s.choices := by
  unfold openMarkAtZero; (repeat' split) <;> simp
@[simp] theorem openMarkAtZero_pending (s : State) : (openMarkAtZero s).pending = s.pending := by
  unfold openMarkAtZero; (repeat' split) <;> simp

/-! ### a patch window that opens at phase 0 (R62) -/

@[simp] theorem openPatchAtZero_shaft (s : State) : (openPatchAtZero s).shaft = s.shaft := by
  unfold openPatchAtZero; (repeat' split) <;> simp
@[simp] theorem openPatchAtZero_geometry (s : State) : (openPatchAtZero s).geometry = s.geometry := by
  unfold openPatchAtZero; (repeat' split) <;> simp
@[simp] theorem openPatchAtZero_chain (s : State) : (openPatchAtZero s).chain = s.chain := by
  unfold openPatchAtZero; (repeat' split) <;> simp
@[simp] theorem openPatchAtZero_firing (s : State) : (openPatchAtZero s).firing = s.firing := by
  unfold openPatchAtZero; (repeat' split) <;> simp
@[simp] theorem openPatchAtZero_gumFold (s : State) : (openPatchAtZero s).gumFold = s.gumFold := by
  unfold openPatchAtZero; (repeat' split) <;> simp
@[simp] theorem openPatchAtZero_verdicts (s : State) : (openPatchAtZero s).verdicts = s.verdicts := by
  unfold openPatchAtZero; (repeat' split) <;> simp
@[simp] theorem openPatchAtZero_batch (s : State) : (openPatchAtZero s).batch = s.batch := by
  unfold openPatchAtZero; (repeat' split) <;> simp
@[simp] theorem openPatchAtZero_banks (s : State) : (openPatchAtZero s).banks = s.banks := by
  unfold openPatchAtZero; (repeat' split) <;> simp
@[simp] theorem openPatchAtZero_line (s : State) : (openPatchAtZero s).line = s.line := by
  unfold openPatchAtZero; (repeat' split) <;> simp
@[simp] theorem openPatchAtZero_ports (s : State) : (openPatchAtZero s).ports = s.ports := by
  unfold openPatchAtZero; (repeat' split) <;> simp
@[simp] theorem openPatchAtZero_sensors (s : State) : (openPatchAtZero s).sensors = s.sensors := by
  unfold openPatchAtZero; (repeat' split) <;> simp
@[simp] theorem openPatchAtZero_pins (s : State) : (openPatchAtZero s).pins = s.pins := by
  unfold openPatchAtZero; (repeat' split) <;> simp
@[simp] theorem openPatchAtZero_choices (s : State) : (openPatchAtZero s).choices = s.choices := by
  unfold openPatchAtZero; (repeat' split) <;> simp
@[simp] theorem openPatchAtZero_pending (s : State) : (openPatchAtZero s).pending = s.pending := by
  unfold openPatchAtZero; (repeat' split) <;> simp

/-! ### the Registration Unit at a boundary (R62) -/

@[simp] theorem registrationBoundary_shaft (s : State) : (registrationBoundary s).shaft = s.shaft := by
  simp [registrationBoundary]
@[simp] theorem registrationBoundary_geometry (s : State) : (registrationBoundary s).geometry = s.geometry := by
  simp [registrationBoundary]
@[simp] theorem registrationBoundary_firing (s : State) : (registrationBoundary s).firing = s.firing := by
  simp [registrationBoundary]
@[simp] theorem registrationBoundary_gumFold (s : State) : (registrationBoundary s).gumFold = s.gumFold := by
  simp [registrationBoundary]
@[simp] theorem registrationBoundary_verdicts (s : State) : (registrationBoundary s).verdicts = s.verdicts := by
  simp [registrationBoundary]
@[simp] theorem registrationBoundary_batch (s : State) : (registrationBoundary s).batch = s.batch := by
  simp [registrationBoundary]
@[simp] theorem registrationBoundary_banks (s : State) : (registrationBoundary s).banks = s.banks := by
  simp [registrationBoundary]
@[simp] theorem registrationBoundary_line (s : State) : (registrationBoundary s).line = s.line := by
  simp [registrationBoundary]
@[simp] theorem registrationBoundary_ports (s : State) : (registrationBoundary s).ports = s.ports := by
  simp [registrationBoundary]
@[simp] theorem registrationBoundary_sensors (s : State) : (registrationBoundary s).sensors = s.sensors := by
  simp [registrationBoundary]
@[simp] theorem registrationBoundary_pins (s : State) : (registrationBoundary s).pins = s.pins := by
  simp [registrationBoundary]
@[simp] theorem registrationBoundary_choices (s : State) : (registrationBoundary s).choices = s.choices := by
  simp [registrationBoundary]
@[simp] theorem registrationBoundary_pending (s : State) : (registrationBoundary s).pending = s.pending := by
  simp [registrationBoundary]

/-! ### the drift alert (R69) -/

@[simp] theorem checkDrift_shaft (n : Nat) (s : State) : (checkDrift n s).shaft = s.shaft := by
  simp only [checkDrift]; (repeat' split) <;> simp
@[simp] theorem checkDrift_geometry (n : Nat) (s : State) : (checkDrift n s).geometry = s.geometry := by
  simp only [checkDrift]; (repeat' split) <;> simp
@[simp] theorem checkDrift_chain (n : Nat) (s : State) : (checkDrift n s).chain = s.chain := by
  simp only [checkDrift]; (repeat' split) <;> simp
@[simp] theorem checkDrift_firing (n : Nat) (s : State) : (checkDrift n s).firing = s.firing := by
  simp only [checkDrift]; (repeat' split) <;> simp
@[simp] theorem checkDrift_gumFold (n : Nat) (s : State) : (checkDrift n s).gumFold = s.gumFold := by
  simp only [checkDrift]; (repeat' split) <;> simp
@[simp] theorem checkDrift_verdicts (n : Nat) (s : State) : (checkDrift n s).verdicts = s.verdicts := by
  simp only [checkDrift]; (repeat' split) <;> simp
@[simp] theorem checkDrift_batch (n : Nat) (s : State) : (checkDrift n s).batch = s.batch := by
  simp only [checkDrift]; (repeat' split) <;> simp
@[simp] theorem checkDrift_banks (n : Nat) (s : State) : (checkDrift n s).banks = s.banks := by
  simp only [checkDrift]; (repeat' split) <;> simp
@[simp] theorem checkDrift_line (n : Nat) (s : State) : (checkDrift n s).line = s.line := by
  simp only [checkDrift]; (repeat' split) <;> simp
@[simp] theorem checkDrift_sensors (n : Nat) (s : State) : (checkDrift n s).sensors = s.sensors := by
  simp only [checkDrift]; (repeat' split) <;> simp
@[simp] theorem checkDrift_pins (n : Nat) (s : State) : (checkDrift n s).pins = s.pins := by
  simp only [checkDrift]; (repeat' split) <;> simp
@[simp] theorem checkDrift_choices (n : Nat) (s : State) : (checkDrift n s).choices = s.choices := by
  simp only [checkDrift]; (repeat' split) <;> simp
@[simp] theorem checkDrift_pending (n : Nat) (s : State) : (checkDrift n s).pending = s.pending := by
  simp only [checkDrift]; (repeat' split) <;> simp

/-! ### an accepted measurement (R66) -/

@[simp] theorem acceptMeasurement_shaft (q : Seq) (f : BankFields) (e : Int) (s : State) : (acceptMeasurement q f e s).shaft = s.shaft := by
  simp [acceptMeasurement]
@[simp] theorem acceptMeasurement_geometry (q : Seq) (f : BankFields) (e : Int) (s : State) : (acceptMeasurement q f e s).geometry = s.geometry := by
  simp [acceptMeasurement]
@[simp] theorem acceptMeasurement_firing (q : Seq) (f : BankFields) (e : Int) (s : State) : (acceptMeasurement q f e s).firing = s.firing := by
  simp [acceptMeasurement]
@[simp] theorem acceptMeasurement_gumFold (q : Seq) (f : BankFields) (e : Int) (s : State) : (acceptMeasurement q f e s).gumFold = s.gumFold := by
  simp [acceptMeasurement]
@[simp] theorem acceptMeasurement_verdicts (q : Seq) (f : BankFields) (e : Int) (s : State) : (acceptMeasurement q f e s).verdicts = s.verdicts := by
  simp [acceptMeasurement]
@[simp] theorem acceptMeasurement_batch (q : Seq) (f : BankFields) (e : Int) (s : State) : (acceptMeasurement q f e s).batch = s.batch := by
  simp [acceptMeasurement]
@[simp] theorem acceptMeasurement_banks (q : Seq) (f : BankFields) (e : Int) (s : State) : (acceptMeasurement q f e s).banks = s.banks := by
  simp [acceptMeasurement]
@[simp] theorem acceptMeasurement_line (q : Seq) (f : BankFields) (e : Int) (s : State) : (acceptMeasurement q f e s).line = s.line := by
  simp [acceptMeasurement]
@[simp] theorem acceptMeasurement_sensors (q : Seq) (f : BankFields) (e : Int) (s : State) : (acceptMeasurement q f e s).sensors = s.sensors := by
  simp [acceptMeasurement]
@[simp] theorem acceptMeasurement_pins (q : Seq) (f : BankFields) (e : Int) (s : State) : (acceptMeasurement q f e s).pins = s.pins := by
  simp [acceptMeasurement]
@[simp] theorem acceptMeasurement_choices (q : Seq) (f : BankFields) (e : Int) (s : State) : (acceptMeasurement q f e s).choices = s.choices := by
  simp [acceptMeasurement]
@[simp] theorem acceptMeasurement_pending (q : Seq) (f : BankFields) (e : Int) (s : State) : (acceptMeasurement q f e s).pending = s.pending := by
  simp [acceptMeasurement]

/-! ### a measurement out of tolerance (R66) -/

@[simp] theorem refuseMeasurement_shaft (q : Seq) (e : Int) (s : State) : (refuseMeasurement q e s).shaft = s.shaft := by
  simp [refuseMeasurement]
@[simp] theorem refuseMeasurement_geometry (q : Seq) (e : Int) (s : State) : (refuseMeasurement q e s).geometry = s.geometry := by
  simp [refuseMeasurement]
@[simp] theorem refuseMeasurement_firing (q : Seq) (e : Int) (s : State) : (refuseMeasurement q e s).firing = s.firing := by
  simp [refuseMeasurement]
@[simp] theorem refuseMeasurement_registration (q : Seq) (e : Int) (s : State) : (refuseMeasurement q e s).registration = s.registration := by
  simp [refuseMeasurement]
@[simp] theorem refuseMeasurement_gumFold (q : Seq) (e : Int) (s : State) : (refuseMeasurement q e s).gumFold = s.gumFold := by
  simp [refuseMeasurement]
@[simp] theorem refuseMeasurement_verdicts (q : Seq) (e : Int) (s : State) : (refuseMeasurement q e s).verdicts = s.verdicts := by
  simp [refuseMeasurement]
@[simp] theorem refuseMeasurement_batch (q : Seq) (e : Int) (s : State) : (refuseMeasurement q e s).batch = s.batch := by
  simp [refuseMeasurement]
@[simp] theorem refuseMeasurement_banks (q : Seq) (e : Int) (s : State) : (refuseMeasurement q e s).banks = s.banks := by
  simp [refuseMeasurement]
@[simp] theorem refuseMeasurement_line (q : Seq) (e : Int) (s : State) : (refuseMeasurement q e s).line = s.line := by
  simp [refuseMeasurement]
@[simp] theorem refuseMeasurement_ports (q : Seq) (e : Int) (s : State) : (refuseMeasurement q e s).ports = s.ports := by
  simp [refuseMeasurement]
@[simp] theorem refuseMeasurement_sensors (q : Seq) (e : Int) (s : State) : (refuseMeasurement q e s).sensors = s.sensors := by
  simp [refuseMeasurement]
@[simp] theorem refuseMeasurement_pins (q : Seq) (e : Int) (s : State) : (refuseMeasurement q e s).pins = s.pins := by
  simp [refuseMeasurement]
@[simp] theorem refuseMeasurement_choices (q : Seq) (e : Int) (s : State) : (refuseMeasurement q e s).choices = s.choices := by
  simp [refuseMeasurement]
@[simp] theorem refuseMeasurement_pending (q : Seq) (e : Int) (s : State) : (refuseMeasurement q e s).pending = s.pending := by
  simp [refuseMeasurement]

/-! ### measuring a mark (R65, R66) -/

@[simp] theorem measure_shaft (q : Seq) (s : State) : (measure q s).shaft = s.shaft := by
  simp only [measure]; (repeat' split) <;> simp
@[simp] theorem measure_geometry (q : Seq) (s : State) : (measure q s).geometry = s.geometry := by
  simp only [measure]; (repeat' split) <;> simp
@[simp] theorem measure_firing (q : Seq) (s : State) : (measure q s).firing = s.firing := by
  simp only [measure]; (repeat' split) <;> simp
@[simp] theorem measure_gumFold (q : Seq) (s : State) : (measure q s).gumFold = s.gumFold := by
  simp only [measure]; (repeat' split) <;> simp
@[simp] theorem measure_verdicts (q : Seq) (s : State) : (measure q s).verdicts = s.verdicts := by
  simp only [measure]; (repeat' split) <;> simp
@[simp] theorem measure_batch (q : Seq) (s : State) : (measure q s).batch = s.batch := by
  simp only [measure]; (repeat' split) <;> simp
@[simp] theorem measure_banks (q : Seq) (s : State) : (measure q s).banks = s.banks := by
  simp only [measure]; (repeat' split) <;> simp
@[simp] theorem measure_line (q : Seq) (s : State) : (measure q s).line = s.line := by
  simp only [measure]; (repeat' split) <;> simp
@[simp] theorem measure_sensors (q : Seq) (s : State) : (measure q s).sensors = s.sensors := by
  simp only [measure]; (repeat' split) <;> simp
@[simp] theorem measure_pins (q : Seq) (s : State) : (measure q s).pins = s.pins := by
  simp only [measure]; (repeat' split) <;> simp
@[simp] theorem measure_choices (q : Seq) (s : State) : (measure q s).choices = s.choices := by
  simp only [measure]; (repeat' split) <;> simp
@[simp] theorem measure_pending (q : Seq) (s : State) : (measure q s).pending = s.pending := by
  simp only [measure]; (repeat' split) <;> simp

/-! ### a capture (R64) -/

@[simp] theorem capture_shaft (q : Seq) (s : State) : (capture q s).shaft = s.shaft := by
  simp [capture]
@[simp] theorem capture_geometry (q : Seq) (s : State) : (capture q s).geometry = s.geometry := by
  simp [capture]
@[simp] theorem capture_firing (q : Seq) (s : State) : (capture q s).firing = s.firing := by
  simp [capture]
@[simp] theorem capture_gumFold (q : Seq) (s : State) : (capture q s).gumFold = s.gumFold := by
  simp [capture]
@[simp] theorem capture_verdicts (q : Seq) (s : State) : (capture q s).verdicts = s.verdicts := by
  simp [capture]
@[simp] theorem capture_batch (q : Seq) (s : State) : (capture q s).batch = s.batch := by
  simp [capture]
@[simp] theorem capture_banks (q : Seq) (s : State) : (capture q s).banks = s.banks := by
  simp [capture]
@[simp] theorem capture_line (q : Seq) (s : State) : (capture q s).line = s.line := by
  simp [capture]
@[simp] theorem capture_sensors (q : Seq) (s : State) : (capture q s).sensors = s.sensors := by
  simp [capture]
@[simp] theorem capture_pins (q : Seq) (s : State) : (capture q s).pins = s.pins := by
  simp [capture]
@[simp] theorem capture_choices (q : Seq) (s : State) : (capture q s).choices = s.choices := by
  simp [capture]
@[simp] theorem capture_pending (q : Seq) (s : State) : (capture q s).pending = s.pending := by
  simp [capture]

/-! ### a MARK edge (R64) -/

@[simp] theorem markEdge_shaft (s : State) : (markEdge s).shaft = s.shaft := by
  unfold markEdge; (repeat' split) <;> simp
@[simp] theorem markEdge_geometry (s : State) : (markEdge s).geometry = s.geometry := by
  unfold markEdge; (repeat' split) <;> simp
@[simp] theorem markEdge_firing (s : State) : (markEdge s).firing = s.firing := by
  unfold markEdge; (repeat' split) <;> simp
@[simp] theorem markEdge_gumFold (s : State) : (markEdge s).gumFold = s.gumFold := by
  unfold markEdge; (repeat' split) <;> simp
@[simp] theorem markEdge_verdicts (s : State) : (markEdge s).verdicts = s.verdicts := by
  unfold markEdge; (repeat' split) <;> simp
@[simp] theorem markEdge_batch (s : State) : (markEdge s).batch = s.batch := by
  unfold markEdge; (repeat' split) <;> simp
@[simp] theorem markEdge_banks (s : State) : (markEdge s).banks = s.banks := by
  unfold markEdge; (repeat' split) <;> simp
@[simp] theorem markEdge_line (s : State) : (markEdge s).line = s.line := by
  unfold markEdge; (repeat' split) <;> simp
@[simp] theorem markEdge_sensors (s : State) : (markEdge s).sensors = s.sensors := by
  unfold markEdge; (repeat' split) <;> simp
@[simp] theorem markEdge_pins (s : State) : (markEdge s).pins = s.pins := by
  unfold markEdge; (repeat' split) <;> simp
@[simp] theorem markEdge_choices (s : State) : (markEdge s).choices = s.choices := by
  unfold markEdge; (repeat' split) <;> simp
@[simp] theorem markEdge_pending (s : State) : (markEdge s).pending = s.pending := by
  unfold markEdge; (repeat' split) <;> simp

/-! ### a PATCH_PRESENT edge (R73) -/

@[simp] theorem patchPresentEdge_shaft (s : State) : (patchPresentEdge s).shaft = s.shaft := by
  unfold patchPresentEdge; (repeat' split) <;> simp
@[simp] theorem patchPresentEdge_geometry (s : State) : (patchPresentEdge s).geometry = s.geometry := by
  unfold patchPresentEdge; (repeat' split) <;> simp
@[simp] theorem patchPresentEdge_chain (s : State) : (patchPresentEdge s).chain = s.chain := by
  unfold patchPresentEdge; (repeat' split) <;> simp
@[simp] theorem patchPresentEdge_firing (s : State) : (patchPresentEdge s).firing = s.firing := by
  unfold patchPresentEdge; (repeat' split) <;> simp
@[simp] theorem patchPresentEdge_gumFold (s : State) : (patchPresentEdge s).gumFold = s.gumFold := by
  unfold patchPresentEdge; (repeat' split) <;> simp
@[simp] theorem patchPresentEdge_verdicts (s : State) : (patchPresentEdge s).verdicts = s.verdicts := by
  unfold patchPresentEdge; (repeat' split) <;> simp
@[simp] theorem patchPresentEdge_batch (s : State) : (patchPresentEdge s).batch = s.batch := by
  unfold patchPresentEdge; (repeat' split) <;> simp
@[simp] theorem patchPresentEdge_banks (s : State) : (patchPresentEdge s).banks = s.banks := by
  unfold patchPresentEdge; (repeat' split) <;> simp
@[simp] theorem patchPresentEdge_line (s : State) : (patchPresentEdge s).line = s.line := by
  unfold patchPresentEdge; (repeat' split) <;> simp
@[simp] theorem patchPresentEdge_ports (s : State) : (patchPresentEdge s).ports = s.ports := by
  unfold patchPresentEdge; (repeat' split) <;> simp
@[simp] theorem patchPresentEdge_sensors (s : State) : (patchPresentEdge s).sensors = s.sensors := by
  unfold patchPresentEdge; (repeat' split) <;> simp
@[simp] theorem patchPresentEdge_pins (s : State) : (patchPresentEdge s).pins = s.pins := by
  unfold patchPresentEdge; (repeat' split) <;> simp
@[simp] theorem patchPresentEdge_choices (s : State) : (patchPresentEdge s).choices = s.choices := by
  unfold patchPresentEdge; (repeat' split) <;> simp
@[simp] theorem patchPresentEdge_pending (s : State) : (patchPresentEdge s).pending = s.pending := by
  unfold patchPresentEdge; (repeat' split) <;> simp

/-! ### a gum firing going ahead (R81) -/

@[simp] theorem gumProgress_shaft (ch : Channel) (r : Record) (s : State) : (gumProgress ch r s).shaft = s.shaft := by
  unfold gumProgress; (repeat' split) <;> simp
@[simp] theorem gumProgress_geometry (ch : Channel) (r : Record) (s : State) : (gumProgress ch r s).geometry = s.geometry := by
  unfold gumProgress; (repeat' split) <;> simp
@[simp] theorem gumProgress_firing (ch : Channel) (r : Record) (s : State) : (gumProgress ch r s).firing = s.firing := by
  unfold gumProgress; (repeat' split) <;> simp
@[simp] theorem gumProgress_registration (ch : Channel) (r : Record) (s : State) : (gumProgress ch r s).registration = s.registration := by
  unfold gumProgress; (repeat' split) <;> simp
@[simp] theorem gumProgress_verdicts (ch : Channel) (r : Record) (s : State) : (gumProgress ch r s).verdicts = s.verdicts := by
  unfold gumProgress; (repeat' split) <;> simp
@[simp] theorem gumProgress_batch (ch : Channel) (r : Record) (s : State) : (gumProgress ch r s).batch = s.batch := by
  unfold gumProgress; (repeat' split) <;> simp
@[simp] theorem gumProgress_banks (ch : Channel) (r : Record) (s : State) : (gumProgress ch r s).banks = s.banks := by
  unfold gumProgress; (repeat' split) <;> simp
@[simp] theorem gumProgress_line (ch : Channel) (r : Record) (s : State) : (gumProgress ch r s).line = s.line := by
  unfold gumProgress; (repeat' split) <;> simp
@[simp] theorem gumProgress_ports (ch : Channel) (r : Record) (s : State) : (gumProgress ch r s).ports = s.ports := by
  unfold gumProgress; (repeat' split) <;> simp
@[simp] theorem gumProgress_sensors (ch : Channel) (r : Record) (s : State) : (gumProgress ch r s).sensors = s.sensors := by
  unfold gumProgress; (repeat' split) <;> simp
@[simp] theorem gumProgress_pins (ch : Channel) (r : Record) (s : State) : (gumProgress ch r s).pins = s.pins := by
  unfold gumProgress; (repeat' split) <;> simp
@[simp] theorem gumProgress_choices (ch : Channel) (r : Record) (s : State) : (gumProgress ch r s).choices = s.choices := by
  unfold gumProgress; (repeat' split) <;> simp
@[simp] theorem gumProgress_pending (ch : Channel) (r : Record) (s : State) : (gumProgress ch r s).pending = s.pending := by
  unfold gumProgress; (repeat' split) <;> simp

/-! ### a missing fold (R87) -/

@[simp] theorem noteMissingFold_shaft (q : Seq) (s : State) : (noteMissingFold q s).shaft = s.shaft := by
  unfold noteMissingFold; (repeat' split) <;> simp
@[simp] theorem noteMissingFold_geometry (q : Seq) (s : State) : (noteMissingFold q s).geometry = s.geometry := by
  unfold noteMissingFold; (repeat' split) <;> simp
@[simp] theorem noteMissingFold_firing (q : Seq) (s : State) : (noteMissingFold q s).firing = s.firing := by
  unfold noteMissingFold; (repeat' split) <;> simp
@[simp] theorem noteMissingFold_registration (q : Seq) (s : State) : (noteMissingFold q s).registration = s.registration := by
  unfold noteMissingFold; (repeat' split) <;> simp
@[simp] theorem noteMissingFold_gumFold (q : Seq) (s : State) : (noteMissingFold q s).gumFold = s.gumFold := by
  unfold noteMissingFold; (repeat' split) <;> simp
@[simp] theorem noteMissingFold_verdicts (q : Seq) (s : State) : (noteMissingFold q s).verdicts = s.verdicts := by
  unfold noteMissingFold; (repeat' split) <;> simp
@[simp] theorem noteMissingFold_batch (q : Seq) (s : State) : (noteMissingFold q s).batch = s.batch := by
  unfold noteMissingFold; (repeat' split) <;> simp
@[simp] theorem noteMissingFold_banks (q : Seq) (s : State) : (noteMissingFold q s).banks = s.banks := by
  unfold noteMissingFold; (repeat' split) <;> simp
@[simp] theorem noteMissingFold_line (q : Seq) (s : State) : (noteMissingFold q s).line = s.line := by
  unfold noteMissingFold; (repeat' split) <;> simp
@[simp] theorem noteMissingFold_ports (q : Seq) (s : State) : (noteMissingFold q s).ports = s.ports := by
  unfold noteMissingFold; (repeat' split) <;> simp
@[simp] theorem noteMissingFold_sensors (q : Seq) (s : State) : (noteMissingFold q s).sensors = s.sensors := by
  unfold noteMissingFold; (repeat' split) <;> simp
@[simp] theorem noteMissingFold_pins (q : Seq) (s : State) : (noteMissingFold q s).pins = s.pins := by
  unfold noteMissingFold; (repeat' split) <;> simp
@[simp] theorem noteMissingFold_choices (q : Seq) (s : State) : (noteMissingFold q s).choices = s.choices := by
  unfold noteMissingFold; (repeat' split) <;> simp
@[simp] theorem noteMissingFold_pending (q : Seq) (s : State) : (noteMissingFold q s).pending = s.pending := by
  unfold noteMissingFold; (repeat' split) <;> simp

/-! ### settling the fold target (R87) -/

@[simp] theorem settleFold_shaft (s : State) : (settleFold s).shaft = s.shaft := by
  unfold settleFold; (repeat' split) <;> simp
@[simp] theorem settleFold_geometry (s : State) : (settleFold s).geometry = s.geometry := by
  unfold settleFold; (repeat' split) <;> simp
@[simp] theorem settleFold_firing (s : State) : (settleFold s).firing = s.firing := by
  unfold settleFold; (repeat' split) <;> simp
@[simp] theorem settleFold_registration (s : State) : (settleFold s).registration = s.registration := by
  unfold settleFold; (repeat' split) <;> simp
@[simp] theorem settleFold_verdicts (s : State) : (settleFold s).verdicts = s.verdicts := by
  unfold settleFold; (repeat' split) <;> simp
@[simp] theorem settleFold_batch (s : State) : (settleFold s).batch = s.batch := by
  unfold settleFold; (repeat' split) <;> simp
@[simp] theorem settleFold_banks (s : State) : (settleFold s).banks = s.banks := by
  unfold settleFold; (repeat' split) <;> simp
@[simp] theorem settleFold_line (s : State) : (settleFold s).line = s.line := by
  unfold settleFold; (repeat' split) <;> simp
@[simp] theorem settleFold_ports (s : State) : (settleFold s).ports = s.ports := by
  unfold settleFold; (repeat' split) <;> simp
@[simp] theorem settleFold_sensors (s : State) : (settleFold s).sensors = s.sensors := by
  unfold settleFold; (repeat' split) <;> simp
@[simp] theorem settleFold_pins (s : State) : (settleFold s).pins = s.pins := by
  unfold settleFold; (repeat' split) <;> simp
@[simp] theorem settleFold_choices (s : State) : (settleFold s).choices = s.choices := by
  unfold settleFold; (repeat' split) <;> simp
@[simp] theorem settleFold_pending (s : State) : (settleFold s).pending = s.pending := by
  unfold settleFold; (repeat' split) <;> simp

/-! ### a FOLD_CHECK report (R86) -/

@[simp] theorem foldReport_shaft (s : State) : (foldReport s).shaft = s.shaft := by
  unfold foldReport; (repeat' split) <;> simp
@[simp] theorem foldReport_geometry (s : State) : (foldReport s).geometry = s.geometry := by
  unfold foldReport; (repeat' split) <;> simp
@[simp] theorem foldReport_chain (s : State) : (foldReport s).chain = s.chain := by
  unfold foldReport; (repeat' split) <;> simp
@[simp] theorem foldReport_firing (s : State) : (foldReport s).firing = s.firing := by
  unfold foldReport; (repeat' split) <;> simp
@[simp] theorem foldReport_registration (s : State) : (foldReport s).registration = s.registration := by
  unfold foldReport; (repeat' split) <;> simp
@[simp] theorem foldReport_verdicts (s : State) : (foldReport s).verdicts = s.verdicts := by
  unfold foldReport; (repeat' split) <;> simp
@[simp] theorem foldReport_batch (s : State) : (foldReport s).batch = s.batch := by
  unfold foldReport; (repeat' split) <;> simp
@[simp] theorem foldReport_banks (s : State) : (foldReport s).banks = s.banks := by
  unfold foldReport; (repeat' split) <;> simp
@[simp] theorem foldReport_line (s : State) : (foldReport s).line = s.line := by
  unfold foldReport; (repeat' split) <;> simp
@[simp] theorem foldReport_sensors (s : State) : (foldReport s).sensors = s.sensors := by
  unfold foldReport; (repeat' split) <;> simp
@[simp] theorem foldReport_pins (s : State) : (foldReport s).pins = s.pins := by
  unfold foldReport; (repeat' split) <;> simp
@[simp] theorem foldReport_choices (s : State) : (foldReport s).choices = s.choices := by
  unfold foldReport; (repeat' split) <;> simp
@[simp] theorem foldReport_pending (s : State) : (foldReport s).pending = s.pending := by
  unfold foldReport; (repeat' split) <;> simp

/-! ### a FOLD_CHECK edge (R86) -/

@[simp] theorem foldCheckEdge_shaft (s : State) : (foldCheckEdge s).shaft = s.shaft := by
  unfold foldCheckEdge; (repeat' split) <;> simp
@[simp] theorem foldCheckEdge_geometry (s : State) : (foldCheckEdge s).geometry = s.geometry := by
  unfold foldCheckEdge; (repeat' split) <;> simp
@[simp] theorem foldCheckEdge_chain (s : State) : (foldCheckEdge s).chain = s.chain := by
  unfold foldCheckEdge; (repeat' split) <;> simp
@[simp] theorem foldCheckEdge_firing (s : State) : (foldCheckEdge s).firing = s.firing := by
  unfold foldCheckEdge; (repeat' split) <;> simp
@[simp] theorem foldCheckEdge_registration (s : State) : (foldCheckEdge s).registration = s.registration := by
  unfold foldCheckEdge; (repeat' split) <;> simp
@[simp] theorem foldCheckEdge_verdicts (s : State) : (foldCheckEdge s).verdicts = s.verdicts := by
  unfold foldCheckEdge; (repeat' split) <;> simp
@[simp] theorem foldCheckEdge_batch (s : State) : (foldCheckEdge s).batch = s.batch := by
  unfold foldCheckEdge; (repeat' split) <;> simp
@[simp] theorem foldCheckEdge_banks (s : State) : (foldCheckEdge s).banks = s.banks := by
  unfold foldCheckEdge; (repeat' split) <;> simp
@[simp] theorem foldCheckEdge_line (s : State) : (foldCheckEdge s).line = s.line := by
  unfold foldCheckEdge; (repeat' split) <;> simp
@[simp] theorem foldCheckEdge_sensors (s : State) : (foldCheckEdge s).sensors = s.sensors := by
  unfold foldCheckEdge; (repeat' split) <;> simp
@[simp] theorem foldCheckEdge_pins (s : State) : (foldCheckEdge s).pins = s.pins := by
  unfold foldCheckEdge; (repeat' split) <;> simp
@[simp] theorem foldCheckEdge_choices (s : State) : (foldCheckEdge s).choices = s.choices := by
  unfold foldCheckEdge; (repeat' split) <;> simp
@[simp] theorem foldCheckEdge_pending (s : State) : (foldCheckEdge s).pending = s.pending := by
  unfold foldCheckEdge; (repeat' split) <;> simp

/-! ### opening the fold window (R85) -/

@[simp] theorem openFold_shaft (v : Bool) (s : State) : (openFold v s).shaft = s.shaft := by
  unfold openFold; (repeat' split) <;> simp
@[simp] theorem openFold_geometry (v : Bool) (s : State) : (openFold v s).geometry = s.geometry := by
  unfold openFold; (repeat' split) <;> simp
@[simp] theorem openFold_chain (v : Bool) (s : State) : (openFold v s).chain = s.chain := by
  unfold openFold; (repeat' split) <;> simp
@[simp] theorem openFold_firing (v : Bool) (s : State) : (openFold v s).firing = s.firing := by
  unfold openFold; (repeat' split) <;> simp
@[simp] theorem openFold_registration (v : Bool) (s : State) : (openFold v s).registration = s.registration := by
  unfold openFold; (repeat' split) <;> simp
@[simp] theorem openFold_verdicts (v : Bool) (s : State) : (openFold v s).verdicts = s.verdicts := by
  unfold openFold; (repeat' split) <;> simp
@[simp] theorem openFold_batch (v : Bool) (s : State) : (openFold v s).batch = s.batch := by
  unfold openFold; (repeat' split) <;> simp
@[simp] theorem openFold_banks (v : Bool) (s : State) : (openFold v s).banks = s.banks := by
  unfold openFold; (repeat' split) <;> simp
@[simp] theorem openFold_line (v : Bool) (s : State) : (openFold v s).line = s.line := by
  unfold openFold; (repeat' split) <;> simp
@[simp] theorem openFold_sensors (v : Bool) (s : State) : (openFold v s).sensors = s.sensors := by
  unfold openFold; (repeat' split) <;> simp
@[simp] theorem openFold_pins (v : Bool) (s : State) : (openFold v s).pins = s.pins := by
  unfold openFold; (repeat' split) <;> simp
@[simp] theorem openFold_choices (v : Bool) (s : State) : (openFold v s).choices = s.choices := by
  unfold openFold; (repeat' split) <;> simp
@[simp] theorem openFold_pending (v : Bool) (s : State) : (openFold v s).pending = s.pending := by
  unfold openFold; (repeat' split) <;> simp

/-! ### closing the fold window (R85) -/

@[simp] theorem closeFold_shaft (s : State) : (closeFold s).shaft = s.shaft := by
  simp [closeFold]
@[simp] theorem closeFold_geometry (s : State) : (closeFold s).geometry = s.geometry := by
  simp [closeFold]
@[simp] theorem closeFold_firing (s : State) : (closeFold s).firing = s.firing := by
  simp [closeFold]
@[simp] theorem closeFold_registration (s : State) : (closeFold s).registration = s.registration := by
  simp [closeFold]
@[simp] theorem closeFold_verdicts (s : State) : (closeFold s).verdicts = s.verdicts := by
  simp [closeFold]
@[simp] theorem closeFold_batch (s : State) : (closeFold s).batch = s.batch := by
  simp [closeFold]
@[simp] theorem closeFold_banks (s : State) : (closeFold s).banks = s.banks := by
  simp [closeFold]
@[simp] theorem closeFold_line (s : State) : (closeFold s).line = s.line := by
  simp [closeFold]
@[simp] theorem closeFold_ports (s : State) : (closeFold s).ports = s.ports := by
  simp [closeFold]
@[simp] theorem closeFold_sensors (s : State) : (closeFold s).sensors = s.sensors := by
  simp [closeFold]
@[simp] theorem closeFold_pins (s : State) : (closeFold s).pins = s.pins := by
  simp [closeFold]
@[simp] theorem closeFold_choices (s : State) : (closeFold s).choices = s.choices := by
  simp [closeFold]
@[simp] theorem closeFold_pending (s : State) : (closeFold s).pending = s.pending := by
  simp [closeFold]

/-! ### the fold target at a crossing -/

@[simp] theorem foldCrossing_shaft (v : Bool) (p : Nat) (s : State) : (foldCrossing v p s).shaft = s.shaft := by
  unfold foldCrossing; (repeat' split) <;> simp
@[simp] theorem foldCrossing_geometry (v : Bool) (p : Nat) (s : State) : (foldCrossing v p s).geometry = s.geometry := by
  unfold foldCrossing; (repeat' split) <;> simp
@[simp] theorem foldCrossing_firing (v : Bool) (p : Nat) (s : State) : (foldCrossing v p s).firing = s.firing := by
  unfold foldCrossing; (repeat' split) <;> simp
@[simp] theorem foldCrossing_registration (v : Bool) (p : Nat) (s : State) : (foldCrossing v p s).registration = s.registration := by
  unfold foldCrossing; (repeat' split) <;> simp
@[simp] theorem foldCrossing_verdicts (v : Bool) (p : Nat) (s : State) : (foldCrossing v p s).verdicts = s.verdicts := by
  unfold foldCrossing; (repeat' split) <;> simp
@[simp] theorem foldCrossing_batch (v : Bool) (p : Nat) (s : State) : (foldCrossing v p s).batch = s.batch := by
  unfold foldCrossing; (repeat' split) <;> simp
@[simp] theorem foldCrossing_banks (v : Bool) (p : Nat) (s : State) : (foldCrossing v p s).banks = s.banks := by
  unfold foldCrossing; (repeat' split) <;> simp
@[simp] theorem foldCrossing_line (v : Bool) (p : Nat) (s : State) : (foldCrossing v p s).line = s.line := by
  unfold foldCrossing; (repeat' split) <;> simp
@[simp] theorem foldCrossing_sensors (v : Bool) (p : Nat) (s : State) : (foldCrossing v p s).sensors = s.sensors := by
  unfold foldCrossing; (repeat' split) <;> simp
@[simp] theorem foldCrossing_pins (v : Bool) (p : Nat) (s : State) : (foldCrossing v p s).pins = s.pins := by
  unfold foldCrossing; (repeat' split) <;> simp
@[simp] theorem foldCrossing_choices (v : Bool) (p : Nat) (s : State) : (foldCrossing v p s).choices = s.choices := by
  unfold foldCrossing; (repeat' split) <;> simp
@[simp] theorem foldCrossing_pending (v : Bool) (p : Nat) (s : State) : (foldCrossing v p s).pending = s.pending := by
  unfold foldCrossing; (repeat' split) <;> simp

/-! ### a new fold target (R84) -/

@[simp] theorem takeFoldTarget_shaft (s : State) : (takeFoldTarget s).shaft = s.shaft := by
  rfl
@[simp] theorem takeFoldTarget_geometry (s : State) : (takeFoldTarget s).geometry = s.geometry := by
  rfl
@[simp] theorem takeFoldTarget_chain (s : State) : (takeFoldTarget s).chain = s.chain := by
  rfl
@[simp] theorem takeFoldTarget_firing (s : State) : (takeFoldTarget s).firing = s.firing := by
  rfl
@[simp] theorem takeFoldTarget_registration (s : State) : (takeFoldTarget s).registration = s.registration := by
  rfl
@[simp] theorem takeFoldTarget_verdicts (s : State) : (takeFoldTarget s).verdicts = s.verdicts := by
  rfl
@[simp] theorem takeFoldTarget_batch (s : State) : (takeFoldTarget s).batch = s.batch := by
  rfl
@[simp] theorem takeFoldTarget_banks (s : State) : (takeFoldTarget s).banks = s.banks := by
  rfl
@[simp] theorem takeFoldTarget_line (s : State) : (takeFoldTarget s).line = s.line := by
  rfl
@[simp] theorem takeFoldTarget_ports (s : State) : (takeFoldTarget s).ports = s.ports := by
  rfl
@[simp] theorem takeFoldTarget_sensors (s : State) : (takeFoldTarget s).sensors = s.sensors := by
  rfl
@[simp] theorem takeFoldTarget_pins (s : State) : (takeFoldTarget s).pins = s.pins := by
  rfl
@[simp] theorem takeFoldTarget_choices (s : State) : (takeFoldTarget s).choices = s.choices := by
  rfl
@[simp] theorem takeFoldTarget_pending (s : State) : (takeFoldTarget s).pending = s.pending := by
  rfl

/-! ### a fold window that opens at phase 0 (R84) -/

@[simp] theorem openFoldAtZero_shaft (v : Bool) (s : State) : (openFoldAtZero v s).shaft = s.shaft := by
  unfold openFoldAtZero; (repeat' split) <;> simp
@[simp] theorem openFoldAtZero_geometry (v : Bool) (s : State) : (openFoldAtZero v s).geometry = s.geometry := by
  unfold openFoldAtZero; (repeat' split) <;> simp
@[simp] theorem openFoldAtZero_chain (v : Bool) (s : State) : (openFoldAtZero v s).chain = s.chain := by
  unfold openFoldAtZero; (repeat' split) <;> simp
@[simp] theorem openFoldAtZero_firing (v : Bool) (s : State) : (openFoldAtZero v s).firing = s.firing := by
  unfold openFoldAtZero; (repeat' split) <;> simp
@[simp] theorem openFoldAtZero_registration (v : Bool) (s : State) : (openFoldAtZero v s).registration = s.registration := by
  unfold openFoldAtZero; (repeat' split) <;> simp
@[simp] theorem openFoldAtZero_verdicts (v : Bool) (s : State) : (openFoldAtZero v s).verdicts = s.verdicts := by
  unfold openFoldAtZero; (repeat' split) <;> simp
@[simp] theorem openFoldAtZero_batch (v : Bool) (s : State) : (openFoldAtZero v s).batch = s.batch := by
  unfold openFoldAtZero; (repeat' split) <;> simp
@[simp] theorem openFoldAtZero_banks (v : Bool) (s : State) : (openFoldAtZero v s).banks = s.banks := by
  unfold openFoldAtZero; (repeat' split) <;> simp
@[simp] theorem openFoldAtZero_line (v : Bool) (s : State) : (openFoldAtZero v s).line = s.line := by
  unfold openFoldAtZero; (repeat' split) <;> simp
@[simp] theorem openFoldAtZero_sensors (v : Bool) (s : State) : (openFoldAtZero v s).sensors = s.sensors := by
  unfold openFoldAtZero; (repeat' split) <;> simp
@[simp] theorem openFoldAtZero_pins (v : Bool) (s : State) : (openFoldAtZero v s).pins = s.pins := by
  unfold openFoldAtZero; (repeat' split) <;> simp
@[simp] theorem openFoldAtZero_choices (v : Bool) (s : State) : (openFoldAtZero v s).choices = s.choices := by
  unfold openFoldAtZero; (repeat' split) <;> simp
@[simp] theorem openFoldAtZero_pending (v : Bool) (s : State) : (openFoldAtZero v s).pending = s.pending := by
  unfold openFoldAtZero; (repeat' split) <;> simp

/-! ### the Gum and Fold Unit at a boundary (R84) -/

@[simp] theorem gumFoldBoundary_shaft (v : Bool) (s : State) : (gumFoldBoundary v s).shaft = s.shaft := by
  simp [gumFoldBoundary]
@[simp] theorem gumFoldBoundary_geometry (v : Bool) (s : State) : (gumFoldBoundary v s).geometry = s.geometry := by
  simp [gumFoldBoundary]
@[simp] theorem gumFoldBoundary_firing (v : Bool) (s : State) : (gumFoldBoundary v s).firing = s.firing := by
  simp [gumFoldBoundary]
@[simp] theorem gumFoldBoundary_registration (v : Bool) (s : State) : (gumFoldBoundary v s).registration = s.registration := by
  simp [gumFoldBoundary]
@[simp] theorem gumFoldBoundary_verdicts (v : Bool) (s : State) : (gumFoldBoundary v s).verdicts = s.verdicts := by
  simp [gumFoldBoundary]
@[simp] theorem gumFoldBoundary_batch (v : Bool) (s : State) : (gumFoldBoundary v s).batch = s.batch := by
  simp [gumFoldBoundary]
@[simp] theorem gumFoldBoundary_banks (v : Bool) (s : State) : (gumFoldBoundary v s).banks = s.banks := by
  simp [gumFoldBoundary]
@[simp] theorem gumFoldBoundary_line (v : Bool) (s : State) : (gumFoldBoundary v s).line = s.line := by
  simp [gumFoldBoundary]
@[simp] theorem gumFoldBoundary_sensors (v : Bool) (s : State) : (gumFoldBoundary v s).sensors = s.sensors := by
  simp [gumFoldBoundary]
@[simp] theorem gumFoldBoundary_pins (v : Bool) (s : State) : (gumFoldBoundary v s).pins = s.pins := by
  simp [gumFoldBoundary]
@[simp] theorem gumFoldBoundary_choices (v : Bool) (s : State) : (gumFoldBoundary v s).choices = s.choices := by
  simp [gumFoldBoundary]
@[simp] theorem gumFoldBoundary_pending (v : Bool) (s : State) : (gumFoldBoundary v s).pending = s.pending := by
  simp [gumFoldBoundary]

/-! ### logging a trigger (R92) -/

@[simp] theorem logTrigger_shaft (t : Trigger) (s : State) : (logTrigger t s).shaft = s.shaft := by
  simp only [logTrigger]; (repeat' split) <;> simp
@[simp] theorem logTrigger_geometry (t : Trigger) (s : State) : (logTrigger t s).geometry = s.geometry := by
  simp only [logTrigger]; (repeat' split) <;> simp
@[simp] theorem logTrigger_chain (t : Trigger) (s : State) : (logTrigger t s).chain = s.chain := by
  simp only [logTrigger]; (repeat' split) <;> simp
@[simp] theorem logTrigger_firing (t : Trigger) (s : State) : (logTrigger t s).firing = s.firing := by
  simp only [logTrigger]; (repeat' split) <;> simp
@[simp] theorem logTrigger_registration (t : Trigger) (s : State) : (logTrigger t s).registration = s.registration := by
  simp only [logTrigger]; (repeat' split) <;> simp
@[simp] theorem logTrigger_gumFold (t : Trigger) (s : State) : (logTrigger t s).gumFold = s.gumFold := by
  simp only [logTrigger]; (repeat' split) <;> simp
@[simp] theorem logTrigger_batch (t : Trigger) (s : State) : (logTrigger t s).batch = s.batch := by
  simp only [logTrigger]; (repeat' split) <;> simp
@[simp] theorem logTrigger_banks (t : Trigger) (s : State) : (logTrigger t s).banks = s.banks := by
  simp only [logTrigger]; (repeat' split) <;> simp
@[simp] theorem logTrigger_line (t : Trigger) (s : State) : (logTrigger t s).line = s.line := by
  simp only [logTrigger]; (repeat' split) <;> simp
@[simp] theorem logTrigger_sensors (t : Trigger) (s : State) : (logTrigger t s).sensors = s.sensors := by
  simp only [logTrigger]; (repeat' split) <;> simp
@[simp] theorem logTrigger_pins (t : Trigger) (s : State) : (logTrigger t s).pins = s.pins := by
  simp only [logTrigger]; (repeat' split) <;> simp
@[simp] theorem logTrigger_choices (t : Trigger) (s : State) : (logTrigger t s).choices = s.choices := by
  simp only [logTrigger]; (repeat' split) <;> simp
@[simp] theorem logTrigger_pending (t : Trigger) (s : State) : (logTrigger t s).pending = s.pending := by
  simp only [logTrigger]; (repeat' split) <;> simp

/-! ### counting an unverified pass (R100) -/

@[simp] theorem countUnverified_shaft (f : Fate) (s : State) : (countUnverified f s).shaft = s.shaft := by
  unfold countUnverified; (repeat' split) <;> simp
@[simp] theorem countUnverified_geometry (f : Fate) (s : State) : (countUnverified f s).geometry = s.geometry := by
  unfold countUnverified; (repeat' split) <;> simp
@[simp] theorem countUnverified_chain (f : Fate) (s : State) : (countUnverified f s).chain = s.chain := by
  unfold countUnverified; (repeat' split) <;> simp
@[simp] theorem countUnverified_firing (f : Fate) (s : State) : (countUnverified f s).firing = s.firing := by
  unfold countUnverified; (repeat' split) <;> simp
@[simp] theorem countUnverified_registration (f : Fate) (s : State) : (countUnverified f s).registration = s.registration := by
  unfold countUnverified; (repeat' split) <;> simp
@[simp] theorem countUnverified_gumFold (f : Fate) (s : State) : (countUnverified f s).gumFold = s.gumFold := by
  unfold countUnverified; (repeat' split) <;> simp
@[simp] theorem countUnverified_batch (f : Fate) (s : State) : (countUnverified f s).batch = s.batch := by
  unfold countUnverified; (repeat' split) <;> simp
@[simp] theorem countUnverified_banks (f : Fate) (s : State) : (countUnverified f s).banks = s.banks := by
  unfold countUnverified; (repeat' split) <;> simp
@[simp] theorem countUnverified_line (f : Fate) (s : State) : (countUnverified f s).line = s.line := by
  unfold countUnverified; (repeat' split) <;> simp
@[simp] theorem countUnverified_ports (f : Fate) (s : State) : (countUnverified f s).ports = s.ports := by
  unfold countUnverified; (repeat' split) <;> simp
@[simp] theorem countUnverified_sensors (f : Fate) (s : State) : (countUnverified f s).sensors = s.sensors := by
  unfold countUnverified; (repeat' split) <;> simp
@[simp] theorem countUnverified_pins (f : Fate) (s : State) : (countUnverified f s).pins = s.pins := by
  unfold countUnverified; (repeat' split) <;> simp
@[simp] theorem countUnverified_choices (f : Fate) (s : State) : (countUnverified f s).choices = s.choices := by
  unfold countUnverified; (repeat' split) <;> simp
@[simp] theorem countUnverified_pending (f : Fate) (s : State) : (countUnverified f s).pending = s.pending := by
  unfold countUnverified; (repeat' split) <;> simp

/-! ### the gate decision (R100) -/

@[simp] theorem gateDecision_shaft (r : Record) (s : State) : (gateDecision r s).shaft = s.shaft := by
  simp only [gateDecision]; (repeat' split) <;> simp
@[simp] theorem gateDecision_geometry (r : Record) (s : State) : (gateDecision r s).geometry = s.geometry := by
  simp only [gateDecision]; (repeat' split) <;> simp
@[simp] theorem gateDecision_registration (r : Record) (s : State) : (gateDecision r s).registration = s.registration := by
  simp only [gateDecision]; (repeat' split) <;> simp
@[simp] theorem gateDecision_gumFold (r : Record) (s : State) : (gateDecision r s).gumFold = s.gumFold := by
  simp only [gateDecision]; (repeat' split) <;> simp
@[simp] theorem gateDecision_batch (r : Record) (s : State) : (gateDecision r s).batch = s.batch := by
  simp only [gateDecision]; (repeat' split) <;> simp
@[simp] theorem gateDecision_banks (r : Record) (s : State) : (gateDecision r s).banks = s.banks := by
  simp only [gateDecision]; (repeat' split) <;> simp
@[simp] theorem gateDecision_line (r : Record) (s : State) : (gateDecision r s).line = s.line := by
  simp only [gateDecision]; (repeat' split) <;> simp
@[simp] theorem gateDecision_ports (r : Record) (s : State) : (gateDecision r s).ports = s.ports := by
  simp only [gateDecision]; (repeat' split) <;> simp
@[simp] theorem gateDecision_sensors (r : Record) (s : State) : (gateDecision r s).sensors = s.sensors := by
  simp only [gateDecision]; (repeat' split) <;> simp
@[simp] theorem gateDecision_pins (r : Record) (s : State) : (gateDecision r s).pins = s.pins := by
  simp only [gateDecision]; (repeat' split) <;> simp
@[simp] theorem gateDecision_choices (r : Record) (s : State) : (gateDecision r s).choices = s.choices := by
  simp only [gateDecision]; (repeat' split) <;> simp
@[simp] theorem gateDecision_pending (r : Record) (s : State) : (gateDecision r s).pending = s.pending := by
  simp only [gateDecision]; (repeat' split) <;> simp

/-! ### the Verdict Unit at a crossing (R99) -/

@[simp] theorem gateCrossing_shaft (p : Nat) (s : State) : (gateCrossing p s).shaft = s.shaft := by
  unfold gateCrossing; (repeat' split) <;> simp
@[simp] theorem gateCrossing_geometry (p : Nat) (s : State) : (gateCrossing p s).geometry = s.geometry := by
  unfold gateCrossing; (repeat' split) <;> simp
@[simp] theorem gateCrossing_registration (p : Nat) (s : State) : (gateCrossing p s).registration = s.registration := by
  unfold gateCrossing; (repeat' split) <;> simp
@[simp] theorem gateCrossing_gumFold (p : Nat) (s : State) : (gateCrossing p s).gumFold = s.gumFold := by
  unfold gateCrossing; (repeat' split) <;> simp
@[simp] theorem gateCrossing_batch (p : Nat) (s : State) : (gateCrossing p s).batch = s.batch := by
  unfold gateCrossing; (repeat' split) <;> simp
@[simp] theorem gateCrossing_banks (p : Nat) (s : State) : (gateCrossing p s).banks = s.banks := by
  unfold gateCrossing; (repeat' split) <;> simp
@[simp] theorem gateCrossing_line (p : Nat) (s : State) : (gateCrossing p s).line = s.line := by
  unfold gateCrossing; (repeat' split) <;> simp
@[simp] theorem gateCrossing_ports (p : Nat) (s : State) : (gateCrossing p s).ports = s.ports := by
  unfold gateCrossing; (repeat' split) <;> simp
@[simp] theorem gateCrossing_sensors (p : Nat) (s : State) : (gateCrossing p s).sensors = s.sensors := by
  unfold gateCrossing; (repeat' split) <;> simp
@[simp] theorem gateCrossing_pins (p : Nat) (s : State) : (gateCrossing p s).pins = s.pins := by
  unfold gateCrossing; (repeat' split) <;> simp
@[simp] theorem gateCrossing_choices (p : Nat) (s : State) : (gateCrossing p s).choices = s.choices := by
  unfold gateCrossing; (repeat' split) <;> simp
@[simp] theorem gateCrossing_pending (p : Nat) (s : State) : (gateCrossing p s).pending = s.pending := by
  unfold gateCrossing; (repeat' split) <;> simp

/-! ### flagging a missed separation (R112) -/

@[simp] theorem flagSeparation_shaft (s : State) : (flagSeparation s).shaft = s.shaft := by
  unfold flagSeparation; (repeat' split) <;> simp
@[simp] theorem flagSeparation_geometry (s : State) : (flagSeparation s).geometry = s.geometry := by
  unfold flagSeparation; (repeat' split) <;> simp
@[simp] theorem flagSeparation_chain (s : State) : (flagSeparation s).chain = s.chain := by
  unfold flagSeparation; (repeat' split) <;> simp
@[simp] theorem flagSeparation_firing (s : State) : (flagSeparation s).firing = s.firing := by
  unfold flagSeparation; (repeat' split) <;> simp
@[simp] theorem flagSeparation_registration (s : State) : (flagSeparation s).registration = s.registration := by
  unfold flagSeparation; (repeat' split) <;> simp
@[simp] theorem flagSeparation_gumFold (s : State) : (flagSeparation s).gumFold = s.gumFold := by
  unfold flagSeparation; (repeat' split) <;> simp
@[simp] theorem flagSeparation_verdicts (s : State) : (flagSeparation s).verdicts = s.verdicts := by
  unfold flagSeparation; (repeat' split) <;> simp
@[simp] theorem flagSeparation_banks (s : State) : (flagSeparation s).banks = s.banks := by
  unfold flagSeparation; (repeat' split) <;> simp
@[simp] theorem flagSeparation_line (s : State) : (flagSeparation s).line = s.line := by
  unfold flagSeparation; (repeat' split) <;> simp
@[simp] theorem flagSeparation_ports (s : State) : (flagSeparation s).ports = s.ports := by
  unfold flagSeparation; (repeat' split) <;> simp
@[simp] theorem flagSeparation_sensors (s : State) : (flagSeparation s).sensors = s.sensors := by
  unfold flagSeparation; (repeat' split) <;> simp
@[simp] theorem flagSeparation_pins (s : State) : (flagSeparation s).pins = s.pins := by
  unfold flagSeparation; (repeat' split) <;> simp
@[simp] theorem flagSeparation_choices (s : State) : (flagSeparation s).choices = s.choices := by
  unfold flagSeparation; (repeat' split) <;> simp
@[simp] theorem flagSeparation_pending (s : State) : (flagSeparation s).pending = s.pending := by
  unfold flagSeparation; (repeat' split) <;> simp

/-! ### overfilling a batch (R110) -/

@[simp] theorem overfillBatch_shaft (s : State) : (overfillBatch s).shaft = s.shaft := by
  unfold overfillBatch; (repeat' split) <;> simp
@[simp] theorem overfillBatch_geometry (s : State) : (overfillBatch s).geometry = s.geometry := by
  unfold overfillBatch; (repeat' split) <;> simp
@[simp] theorem overfillBatch_chain (s : State) : (overfillBatch s).chain = s.chain := by
  unfold overfillBatch; (repeat' split) <;> simp
@[simp] theorem overfillBatch_firing (s : State) : (overfillBatch s).firing = s.firing := by
  unfold overfillBatch; (repeat' split) <;> simp
@[simp] theorem overfillBatch_registration (s : State) : (overfillBatch s).registration = s.registration := by
  unfold overfillBatch; (repeat' split) <;> simp
@[simp] theorem overfillBatch_gumFold (s : State) : (overfillBatch s).gumFold = s.gumFold := by
  unfold overfillBatch; (repeat' split) <;> simp
@[simp] theorem overfillBatch_verdicts (s : State) : (overfillBatch s).verdicts = s.verdicts := by
  unfold overfillBatch; (repeat' split) <;> simp
@[simp] theorem overfillBatch_banks (s : State) : (overfillBatch s).banks = s.banks := by
  unfold overfillBatch; (repeat' split) <;> simp
@[simp] theorem overfillBatch_line (s : State) : (overfillBatch s).line = s.line := by
  unfold overfillBatch; (repeat' split) <;> simp
@[simp] theorem overfillBatch_sensors (s : State) : (overfillBatch s).sensors = s.sensors := by
  unfold overfillBatch; (repeat' split) <;> simp
@[simp] theorem overfillBatch_pins (s : State) : (overfillBatch s).pins = s.pins := by
  unfold overfillBatch; (repeat' split) <;> simp
@[simp] theorem overfillBatch_choices (s : State) : (overfillBatch s).choices = s.choices := by
  unfold overfillBatch; (repeat' split) <;> simp
@[simp] theorem overfillBatch_pending (s : State) : (overfillBatch s).pending = s.pending := by
  unfold overfillBatch; (repeat' split) <;> simp

/-! ### a batch boundary (R112) -/

@[simp] theorem batchBoundaryMade_shaft (r : Record) (s : State) : (batchBoundaryMade r s).shaft = s.shaft := by
  unfold batchBoundaryMade; (repeat' split) <;> simp
@[simp] theorem batchBoundaryMade_geometry (r : Record) (s : State) : (batchBoundaryMade r s).geometry = s.geometry := by
  unfold batchBoundaryMade; (repeat' split) <;> simp
@[simp] theorem batchBoundaryMade_chain (r : Record) (s : State) : (batchBoundaryMade r s).chain = s.chain := by
  unfold batchBoundaryMade; (repeat' split) <;> simp
@[simp] theorem batchBoundaryMade_firing (r : Record) (s : State) : (batchBoundaryMade r s).firing = s.firing := by
  unfold batchBoundaryMade; (repeat' split) <;> simp
@[simp] theorem batchBoundaryMade_registration (r : Record) (s : State) : (batchBoundaryMade r s).registration = s.registration := by
  unfold batchBoundaryMade; (repeat' split) <;> simp
@[simp] theorem batchBoundaryMade_gumFold (r : Record) (s : State) : (batchBoundaryMade r s).gumFold = s.gumFold := by
  unfold batchBoundaryMade; (repeat' split) <;> simp
@[simp] theorem batchBoundaryMade_verdicts (r : Record) (s : State) : (batchBoundaryMade r s).verdicts = s.verdicts := by
  unfold batchBoundaryMade; (repeat' split) <;> simp
@[simp] theorem batchBoundaryMade_banks (r : Record) (s : State) : (batchBoundaryMade r s).banks = s.banks := by
  unfold batchBoundaryMade; (repeat' split) <;> simp
@[simp] theorem batchBoundaryMade_line (r : Record) (s : State) : (batchBoundaryMade r s).line = s.line := by
  unfold batchBoundaryMade; (repeat' split) <;> simp
@[simp] theorem batchBoundaryMade_ports (r : Record) (s : State) : (batchBoundaryMade r s).ports = s.ports := by
  unfold batchBoundaryMade; (repeat' split) <;> simp
@[simp] theorem batchBoundaryMade_sensors (r : Record) (s : State) : (batchBoundaryMade r s).sensors = s.sensors := by
  unfold batchBoundaryMade; (repeat' split) <;> simp
@[simp] theorem batchBoundaryMade_pins (r : Record) (s : State) : (batchBoundaryMade r s).pins = s.pins := by
  unfold batchBoundaryMade; (repeat' split) <;> simp
@[simp] theorem batchBoundaryMade_choices (r : Record) (s : State) : (batchBoundaryMade r s).choices = s.choices := by
  unfold batchBoundaryMade; (repeat' split) <;> simp
@[simp] theorem batchBoundaryMade_pending (r : Record) (s : State) : (batchBoundaryMade r s).pending = s.pending := by
  unfold batchBoundaryMade; (repeat' split) <;> simp

/-! ### step 1 of a count event (R107) -/

@[simp] theorem changeoverCheck_shaft (r : Record) (s : State) : (changeoverCheck r s).shaft = s.shaft := by
  unfold changeoverCheck; (repeat' split) <;> simp
@[simp] theorem changeoverCheck_geometry (r : Record) (s : State) : (changeoverCheck r s).geometry = s.geometry := by
  unfold changeoverCheck; (repeat' split) <;> simp
@[simp] theorem changeoverCheck_chain (r : Record) (s : State) : (changeoverCheck r s).chain = s.chain := by
  unfold changeoverCheck; (repeat' split) <;> simp
@[simp] theorem changeoverCheck_firing (r : Record) (s : State) : (changeoverCheck r s).firing = s.firing := by
  unfold changeoverCheck; (repeat' split) <;> simp
@[simp] theorem changeoverCheck_registration (r : Record) (s : State) : (changeoverCheck r s).registration = s.registration := by
  unfold changeoverCheck; (repeat' split) <;> simp
@[simp] theorem changeoverCheck_gumFold (r : Record) (s : State) : (changeoverCheck r s).gumFold = s.gumFold := by
  unfold changeoverCheck; (repeat' split) <;> simp
@[simp] theorem changeoverCheck_verdicts (r : Record) (s : State) : (changeoverCheck r s).verdicts = s.verdicts := by
  unfold changeoverCheck; (repeat' split) <;> simp
@[simp] theorem changeoverCheck_banks (r : Record) (s : State) : (changeoverCheck r s).banks = s.banks := by
  unfold changeoverCheck; (repeat' split) <;> simp
@[simp] theorem changeoverCheck_sensors (r : Record) (s : State) : (changeoverCheck r s).sensors = s.sensors := by
  unfold changeoverCheck; (repeat' split) <;> simp
@[simp] theorem changeoverCheck_pins (r : Record) (s : State) : (changeoverCheck r s).pins = s.pins := by
  unfold changeoverCheck; (repeat' split) <;> simp
@[simp] theorem changeoverCheck_choices (r : Record) (s : State) : (changeoverCheck r s).choices = s.choices := by
  unfold changeoverCheck; (repeat' split) <;> simp
@[simp] theorem changeoverCheck_pending (r : Record) (s : State) : (changeoverCheck r s).pending = s.pending := by
  unfold changeoverCheck; (repeat' split) <;> simp

/-! ### step 2 of a count event (R108) -/

@[simp] theorem openIfNone_shaft (r : Record) (s : State) : (openIfNone r s).shaft = s.shaft := by
  unfold openIfNone; (repeat' split) <;> simp
@[simp] theorem openIfNone_geometry (r : Record) (s : State) : (openIfNone r s).geometry = s.geometry := by
  unfold openIfNone; (repeat' split) <;> simp
@[simp] theorem openIfNone_chain (r : Record) (s : State) : (openIfNone r s).chain = s.chain := by
  unfold openIfNone; (repeat' split) <;> simp
@[simp] theorem openIfNone_firing (r : Record) (s : State) : (openIfNone r s).firing = s.firing := by
  unfold openIfNone; (repeat' split) <;> simp
@[simp] theorem openIfNone_registration (r : Record) (s : State) : (openIfNone r s).registration = s.registration := by
  unfold openIfNone; (repeat' split) <;> simp
@[simp] theorem openIfNone_gumFold (r : Record) (s : State) : (openIfNone r s).gumFold = s.gumFold := by
  unfold openIfNone; (repeat' split) <;> simp
@[simp] theorem openIfNone_verdicts (r : Record) (s : State) : (openIfNone r s).verdicts = s.verdicts := by
  unfold openIfNone; (repeat' split) <;> simp
@[simp] theorem openIfNone_banks (r : Record) (s : State) : (openIfNone r s).banks = s.banks := by
  unfold openIfNone; (repeat' split) <;> simp
@[simp] theorem openIfNone_line (r : Record) (s : State) : (openIfNone r s).line = s.line := by
  unfold openIfNone; (repeat' split) <;> simp
@[simp] theorem openIfNone_ports (r : Record) (s : State) : (openIfNone r s).ports = s.ports := by
  unfold openIfNone; (repeat' split) <;> simp
@[simp] theorem openIfNone_sensors (r : Record) (s : State) : (openIfNone r s).sensors = s.sensors := by
  unfold openIfNone; (repeat' split) <;> simp
@[simp] theorem openIfNone_pins (r : Record) (s : State) : (openIfNone r s).pins = s.pins := by
  unfold openIfNone; (repeat' split) <;> simp
@[simp] theorem openIfNone_choices (r : Record) (s : State) : (openIfNone r s).choices = s.choices := by
  unfold openIfNone; (repeat' split) <;> simp
@[simp] theorem openIfNone_pending (r : Record) (s : State) : (openIfNone r s).pending = s.pending := by
  unfold openIfNone; (repeat' split) <;> simp

/-! ### step 4 of a count event (R110) -/

@[simp] theorem applyCheck_shaft (c : CloseCheck) (s : State) : (applyCheck c s).shaft = s.shaft := by
  unfold applyCheck; (repeat' split) <;> simp
@[simp] theorem applyCheck_geometry (c : CloseCheck) (s : State) : (applyCheck c s).geometry = s.geometry := by
  unfold applyCheck; (repeat' split) <;> simp
@[simp] theorem applyCheck_chain (c : CloseCheck) (s : State) : (applyCheck c s).chain = s.chain := by
  unfold applyCheck; (repeat' split) <;> simp
@[simp] theorem applyCheck_firing (c : CloseCheck) (s : State) : (applyCheck c s).firing = s.firing := by
  unfold applyCheck; (repeat' split) <;> simp
@[simp] theorem applyCheck_registration (c : CloseCheck) (s : State) : (applyCheck c s).registration = s.registration := by
  unfold applyCheck; (repeat' split) <;> simp
@[simp] theorem applyCheck_gumFold (c : CloseCheck) (s : State) : (applyCheck c s).gumFold = s.gumFold := by
  unfold applyCheck; (repeat' split) <;> simp
@[simp] theorem applyCheck_verdicts (c : CloseCheck) (s : State) : (applyCheck c s).verdicts = s.verdicts := by
  unfold applyCheck; (repeat' split) <;> simp
@[simp] theorem applyCheck_banks (c : CloseCheck) (s : State) : (applyCheck c s).banks = s.banks := by
  unfold applyCheck; (repeat' split) <;> simp
@[simp] theorem applyCheck_sensors (c : CloseCheck) (s : State) : (applyCheck c s).sensors = s.sensors := by
  unfold applyCheck; (repeat' split) <;> simp
@[simp] theorem applyCheck_pins (c : CloseCheck) (s : State) : (applyCheck c s).pins = s.pins := by
  unfold applyCheck; (repeat' split) <;> simp
@[simp] theorem applyCheck_choices (c : CloseCheck) (s : State) : (applyCheck c s).choices = s.choices := by
  unfold applyCheck; (repeat' split) <;> simp
@[simp] theorem applyCheck_pending (c : CloseCheck) (s : State) : (applyCheck c s).pending = s.pending := by
  unfold applyCheck; (repeat' split) <;> simp

/-! ### the count event (R106) -/

@[simp] theorem countEvent_shaft (r : Record) (s : State) : (countEvent r s).shaft = s.shaft := by
  simp only [countEvent]; (repeat' split) <;> simp
@[simp] theorem countEvent_geometry (r : Record) (s : State) : (countEvent r s).geometry = s.geometry := by
  simp only [countEvent]; (repeat' split) <;> simp
@[simp] theorem countEvent_firing (r : Record) (s : State) : (countEvent r s).firing = s.firing := by
  simp only [countEvent]; (repeat' split) <;> simp
@[simp] theorem countEvent_registration (r : Record) (s : State) : (countEvent r s).registration = s.registration := by
  simp only [countEvent]; (repeat' split) <;> simp
@[simp] theorem countEvent_gumFold (r : Record) (s : State) : (countEvent r s).gumFold = s.gumFold := by
  simp only [countEvent]; (repeat' split) <;> simp
@[simp] theorem countEvent_verdicts (r : Record) (s : State) : (countEvent r s).verdicts = s.verdicts := by
  simp only [countEvent]; (repeat' split) <;> simp
@[simp] theorem countEvent_banks (r : Record) (s : State) : (countEvent r s).banks = s.banks := by
  simp only [countEvent]; (repeat' split) <;> simp
@[simp] theorem countEvent_sensors (r : Record) (s : State) : (countEvent r s).sensors = s.sensors := by
  simp only [countEvent]; (repeat' split) <;> simp
@[simp] theorem countEvent_pins (r : Record) (s : State) : (countEvent r s).pins = s.pins := by
  simp only [countEvent]; (repeat' split) <;> simp
@[simp] theorem countEvent_choices (r : Record) (s : State) : (countEvent r s).choices = s.choices := by
  simp only [countEvent]; (repeat' split) <;> simp
@[simp] theorem countEvent_pending (r : Record) (s : State) : (countEvent r s).pending = s.pending := by
  simp only [countEvent]; (repeat' split) <;> simp

/-! ### the Batch Unit at a crossing (R106) -/

@[simp] theorem countCrossing_shaft (p : Nat) (s : State) : (countCrossing p s).shaft = s.shaft := by
  unfold countCrossing; (repeat' split) <;> simp
@[simp] theorem countCrossing_geometry (p : Nat) (s : State) : (countCrossing p s).geometry = s.geometry := by
  unfold countCrossing; (repeat' split) <;> simp
@[simp] theorem countCrossing_firing (p : Nat) (s : State) : (countCrossing p s).firing = s.firing := by
  unfold countCrossing; (repeat' split) <;> simp
@[simp] theorem countCrossing_registration (p : Nat) (s : State) : (countCrossing p s).registration = s.registration := by
  unfold countCrossing; (repeat' split) <;> simp
@[simp] theorem countCrossing_gumFold (p : Nat) (s : State) : (countCrossing p s).gumFold = s.gumFold := by
  unfold countCrossing; (repeat' split) <;> simp
@[simp] theorem countCrossing_verdicts (p : Nat) (s : State) : (countCrossing p s).verdicts = s.verdicts := by
  unfold countCrossing; (repeat' split) <;> simp
@[simp] theorem countCrossing_banks (p : Nat) (s : State) : (countCrossing p s).banks = s.banks := by
  unfold countCrossing; (repeat' split) <;> simp
@[simp] theorem countCrossing_sensors (p : Nat) (s : State) : (countCrossing p s).sensors = s.sensors := by
  unfold countCrossing; (repeat' split) <;> simp
@[simp] theorem countCrossing_pins (p : Nat) (s : State) : (countCrossing p s).pins = s.pins := by
  unfold countCrossing; (repeat' split) <;> simp
@[simp] theorem countCrossing_choices (p : Nat) (s : State) : (countCrossing p s).choices = s.choices := by
  unfold countCrossing; (repeat' split) <;> simp
@[simp] theorem countCrossing_pending (p : Nat) (s : State) : (countCrossing p s).pending = s.pending := by
  unfold countCrossing; (repeat' split) <;> simp

/-! ### the Batch Unit at a boundary (R106) -/

@[simp] theorem batchBoundary_shaft (s : State) : (batchBoundary s).shaft = s.shaft := by
  simp [batchBoundary]
@[simp] theorem batchBoundary_geometry (s : State) : (batchBoundary s).geometry = s.geometry := by
  simp [batchBoundary]
@[simp] theorem batchBoundary_firing (s : State) : (batchBoundary s).firing = s.firing := by
  simp [batchBoundary]
@[simp] theorem batchBoundary_registration (s : State) : (batchBoundary s).registration = s.registration := by
  simp [batchBoundary]
@[simp] theorem batchBoundary_gumFold (s : State) : (batchBoundary s).gumFold = s.gumFold := by
  simp [batchBoundary]
@[simp] theorem batchBoundary_verdicts (s : State) : (batchBoundary s).verdicts = s.verdicts := by
  simp [batchBoundary]
@[simp] theorem batchBoundary_banks (s : State) : (batchBoundary s).banks = s.banks := by
  simp [batchBoundary]
@[simp] theorem batchBoundary_sensors (s : State) : (batchBoundary s).sensors = s.sensors := by
  simp [batchBoundary]
@[simp] theorem batchBoundary_pins (s : State) : (batchBoundary s).pins = s.pins := by
  simp [batchBoundary]
@[simp] theorem batchBoundary_choices (s : State) : (batchBoundary s).choices = s.choices := by
  simp [batchBoundary]
@[simp] theorem batchBoundary_pending (s : State) : (batchBoundary s).pending = s.pending := by
  simp [batchBoundary]

/-! ### a patch decision (R72) -/

@[simp] theorem patchEdge_shaft (ch : Channel) (r : Record) (s : State) : (patchEdge ch r s).shaft = s.shaft := by
  unfold patchEdge; (repeat' split) <;> simp
@[simp] theorem patchEdge_geometry (ch : Channel) (r : Record) (s : State) : (patchEdge ch r s).geometry = s.geometry := by
  unfold patchEdge; (repeat' split) <;> simp
@[simp] theorem patchEdge_registration (ch : Channel) (r : Record) (s : State) : (patchEdge ch r s).registration = s.registration := by
  unfold patchEdge; (repeat' split) <;> simp
@[simp] theorem patchEdge_gumFold (ch : Channel) (r : Record) (s : State) : (patchEdge ch r s).gumFold = s.gumFold := by
  unfold patchEdge; (repeat' split) <;> simp
@[simp] theorem patchEdge_verdicts (ch : Channel) (r : Record) (s : State) : (patchEdge ch r s).verdicts = s.verdicts := by
  unfold patchEdge; (repeat' split) <;> simp
@[simp] theorem patchEdge_batch (ch : Channel) (r : Record) (s : State) : (patchEdge ch r s).batch = s.batch := by
  unfold patchEdge; (repeat' split) <;> simp
@[simp] theorem patchEdge_banks (ch : Channel) (r : Record) (s : State) : (patchEdge ch r s).banks = s.banks := by
  unfold patchEdge; (repeat' split) <;> simp
@[simp] theorem patchEdge_line (ch : Channel) (r : Record) (s : State) : (patchEdge ch r s).line = s.line := by
  unfold patchEdge; (repeat' split) <;> simp
@[simp] theorem patchEdge_ports (ch : Channel) (r : Record) (s : State) : (patchEdge ch r s).ports = s.ports := by
  unfold patchEdge; (repeat' split) <;> simp
@[simp] theorem patchEdge_sensors (ch : Channel) (r : Record) (s : State) : (patchEdge ch r s).sensors = s.sensors := by
  unfold patchEdge; (repeat' split) <;> simp
@[simp] theorem patchEdge_pins (ch : Channel) (r : Record) (s : State) : (patchEdge ch r s).pins = s.pins := by
  unfold patchEdge; (repeat' split) <;> simp
@[simp] theorem patchEdge_choices (ch : Channel) (r : Record) (s : State) : (patchEdge ch r s).choices = s.choices := by
  unfold patchEdge; (repeat' split) <;> simp
@[simp] theorem patchEdge_pending (ch : Channel) (r : Record) (s : State) : (patchEdge ch r s).pending = s.pending := by
  unfold patchEdge; (repeat' split) <;> simp

/-! ### a gum decision (R80) -/

@[simp] theorem gumEdge_shaft (ch : Channel) (r : Record) (s : State) : (gumEdge ch r s).shaft = s.shaft := by
  unfold gumEdge; (repeat' split) <;> simp
@[simp] theorem gumEdge_geometry (ch : Channel) (r : Record) (s : State) : (gumEdge ch r s).geometry = s.geometry := by
  unfold gumEdge; (repeat' split) <;> simp
@[simp] theorem gumEdge_registration (ch : Channel) (r : Record) (s : State) : (gumEdge ch r s).registration = s.registration := by
  unfold gumEdge; (repeat' split) <;> simp
@[simp] theorem gumEdge_verdicts (ch : Channel) (r : Record) (s : State) : (gumEdge ch r s).verdicts = s.verdicts := by
  unfold gumEdge; (repeat' split) <;> simp
@[simp] theorem gumEdge_batch (ch : Channel) (r : Record) (s : State) : (gumEdge ch r s).batch = s.batch := by
  unfold gumEdge; (repeat' split) <;> simp
@[simp] theorem gumEdge_banks (ch : Channel) (r : Record) (s : State) : (gumEdge ch r s).banks = s.banks := by
  unfold gumEdge; (repeat' split) <;> simp
@[simp] theorem gumEdge_line (ch : Channel) (r : Record) (s : State) : (gumEdge ch r s).line = s.line := by
  unfold gumEdge; (repeat' split) <;> simp
@[simp] theorem gumEdge_ports (ch : Channel) (r : Record) (s : State) : (gumEdge ch r s).ports = s.ports := by
  unfold gumEdge; (repeat' split) <;> simp
@[simp] theorem gumEdge_sensors (ch : Channel) (r : Record) (s : State) : (gumEdge ch r s).sensors = s.sensors := by
  unfold gumEdge; (repeat' split) <;> simp
@[simp] theorem gumEdge_pins (ch : Channel) (r : Record) (s : State) : (gumEdge ch r s).pins = s.pins := by
  unfold gumEdge; (repeat' split) <;> simp
@[simp] theorem gumEdge_choices (ch : Channel) (r : Record) (s : State) : (gumEdge ch r s).choices = s.choices := by
  unfold gumEdge; (repeat' split) <;> simp
@[simp] theorem gumEdge_pending (ch : Channel) (r : Record) (s : State) : (gumEdge ch r s).pending = s.pending := by
  unfold gumEdge; (repeat' split) <;> simp

/-! ### a camera decision (R90) -/

@[simp] theorem cameraEdge_shaft (r : Record) (s : State) : (cameraEdge r s).shaft = s.shaft := by
  unfold cameraEdge; (repeat' split) <;> simp
@[simp] theorem cameraEdge_geometry (r : Record) (s : State) : (cameraEdge r s).geometry = s.geometry := by
  unfold cameraEdge; (repeat' split) <;> simp
@[simp] theorem cameraEdge_registration (r : Record) (s : State) : (cameraEdge r s).registration = s.registration := by
  unfold cameraEdge; (repeat' split) <;> simp
@[simp] theorem cameraEdge_gumFold (r : Record) (s : State) : (cameraEdge r s).gumFold = s.gumFold := by
  unfold cameraEdge; (repeat' split) <;> simp
@[simp] theorem cameraEdge_batch (r : Record) (s : State) : (cameraEdge r s).batch = s.batch := by
  unfold cameraEdge; (repeat' split) <;> simp
@[simp] theorem cameraEdge_banks (r : Record) (s : State) : (cameraEdge r s).banks = s.banks := by
  unfold cameraEdge; (repeat' split) <;> simp
@[simp] theorem cameraEdge_line (r : Record) (s : State) : (cameraEdge r s).line = s.line := by
  unfold cameraEdge; (repeat' split) <;> simp
@[simp] theorem cameraEdge_sensors (r : Record) (s : State) : (cameraEdge r s).sensors = s.sensors := by
  unfold cameraEdge; (repeat' split) <;> simp
@[simp] theorem cameraEdge_pins (r : Record) (s : State) : (cameraEdge r s).pins = s.pins := by
  unfold cameraEdge; (repeat' split) <;> simp
@[simp] theorem cameraEdge_choices (r : Record) (s : State) : (cameraEdge r s).choices = s.choices := by
  unfold cameraEdge; (repeat' split) <;> simp
@[simp] theorem cameraEdge_pending (r : Record) (s : State) : (cameraEdge r s).pending = s.pending := by
  unfold cameraEdge; (repeat' split) <;> simp

/-! ### a REJECT_GATE decision (R53) -/

@[simp] theorem gateEdge_shaft (r : Record) (s : State) : (gateEdge r s).shaft = s.shaft := by
  unfold gateEdge; (repeat' split) <;> simp
@[simp] theorem gateEdge_geometry (r : Record) (s : State) : (gateEdge r s).geometry = s.geometry := by
  unfold gateEdge; (repeat' split) <;> simp
@[simp] theorem gateEdge_chain (r : Record) (s : State) : (gateEdge r s).chain = s.chain := by
  unfold gateEdge; (repeat' split) <;> simp
@[simp] theorem gateEdge_registration (r : Record) (s : State) : (gateEdge r s).registration = s.registration := by
  unfold gateEdge; (repeat' split) <;> simp
@[simp] theorem gateEdge_gumFold (r : Record) (s : State) : (gateEdge r s).gumFold = s.gumFold := by
  unfold gateEdge; (repeat' split) <;> simp
@[simp] theorem gateEdge_verdicts (r : Record) (s : State) : (gateEdge r s).verdicts = s.verdicts := by
  unfold gateEdge; (repeat' split) <;> simp
@[simp] theorem gateEdge_batch (r : Record) (s : State) : (gateEdge r s).batch = s.batch := by
  unfold gateEdge; (repeat' split) <;> simp
@[simp] theorem gateEdge_banks (r : Record) (s : State) : (gateEdge r s).banks = s.banks := by
  unfold gateEdge; (repeat' split) <;> simp
@[simp] theorem gateEdge_line (r : Record) (s : State) : (gateEdge r s).line = s.line := by
  unfold gateEdge; (repeat' split) <;> simp
@[simp] theorem gateEdge_ports (r : Record) (s : State) : (gateEdge r s).ports = s.ports := by
  unfold gateEdge; (repeat' split) <;> simp
@[simp] theorem gateEdge_sensors (r : Record) (s : State) : (gateEdge r s).sensors = s.sensors := by
  unfold gateEdge; (repeat' split) <;> simp
@[simp] theorem gateEdge_pins (r : Record) (s : State) : (gateEdge r s).pins = s.pins := by
  unfold gateEdge; (repeat' split) <;> simp
@[simp] theorem gateEdge_choices (r : Record) (s : State) : (gateEdge r s).choices = s.choices := by
  unfold gateEdge; (repeat' split) <;> simp
@[simp] theorem gateEdge_pending (r : Record) (s : State) : (gateEdge r s).pending = s.pending := by
  unfold gateEdge; (repeat' split) <;> simp

/-! ### a BATCH_KICKER decision (R112) -/

@[simp] theorem kickerEdge_shaft (r : Record) (s : State) : (kickerEdge r s).shaft = s.shaft := by
  unfold kickerEdge; (repeat' split) <;> simp
@[simp] theorem kickerEdge_geometry (r : Record) (s : State) : (kickerEdge r s).geometry = s.geometry := by
  unfold kickerEdge; (repeat' split) <;> simp
@[simp] theorem kickerEdge_chain (r : Record) (s : State) : (kickerEdge r s).chain = s.chain := by
  unfold kickerEdge; (repeat' split) <;> simp
@[simp] theorem kickerEdge_registration (r : Record) (s : State) : (kickerEdge r s).registration = s.registration := by
  unfold kickerEdge; (repeat' split) <;> simp
@[simp] theorem kickerEdge_gumFold (r : Record) (s : State) : (kickerEdge r s).gumFold = s.gumFold := by
  unfold kickerEdge; (repeat' split) <;> simp
@[simp] theorem kickerEdge_verdicts (r : Record) (s : State) : (kickerEdge r s).verdicts = s.verdicts := by
  unfold kickerEdge; (repeat' split) <;> simp
@[simp] theorem kickerEdge_batch (r : Record) (s : State) : (kickerEdge r s).batch = s.batch := by
  unfold kickerEdge; (repeat' split) <;> simp
@[simp] theorem kickerEdge_banks (r : Record) (s : State) : (kickerEdge r s).banks = s.banks := by
  unfold kickerEdge; (repeat' split) <;> simp
@[simp] theorem kickerEdge_line (r : Record) (s : State) : (kickerEdge r s).line = s.line := by
  unfold kickerEdge; (repeat' split) <;> simp
@[simp] theorem kickerEdge_ports (r : Record) (s : State) : (kickerEdge r s).ports = s.ports := by
  unfold kickerEdge; (repeat' split) <;> simp
@[simp] theorem kickerEdge_sensors (r : Record) (s : State) : (kickerEdge r s).sensors = s.sensors := by
  unfold kickerEdge; (repeat' split) <;> simp
@[simp] theorem kickerEdge_pins (r : Record) (s : State) : (kickerEdge r s).pins = s.pins := by
  unfold kickerEdge; (repeat' split) <;> simp
@[simp] theorem kickerEdge_choices (r : Record) (s : State) : (kickerEdge r s).choices = s.choices := by
  unfold kickerEdge; (repeat' split) <;> simp
@[simp] theorem kickerEdge_pending (r : Record) (s : State) : (kickerEdge r s).pending = s.pending := by
  unfold kickerEdge; (repeat' split) <;> simp

/-! ### an on edge (R48) -/

@[simp] theorem onEdge_shaft (ch : Channel) (q : Seq) (s : State) : (onEdge ch q s).shaft = s.shaft := by
  unfold onEdge; (repeat' split) <;> simp
@[simp] theorem onEdge_geometry (ch : Channel) (q : Seq) (s : State) : (onEdge ch q s).geometry = s.geometry := by
  unfold onEdge; (repeat' split) <;> simp
@[simp] theorem onEdge_registration (ch : Channel) (q : Seq) (s : State) : (onEdge ch q s).registration = s.registration := by
  unfold onEdge; (repeat' split) <;> simp
@[simp] theorem onEdge_batch (ch : Channel) (q : Seq) (s : State) : (onEdge ch q s).batch = s.batch := by
  unfold onEdge; (repeat' split) <;> simp
@[simp] theorem onEdge_banks (ch : Channel) (q : Seq) (s : State) : (onEdge ch q s).banks = s.banks := by
  unfold onEdge; (repeat' split) <;> simp
@[simp] theorem onEdge_line (ch : Channel) (q : Seq) (s : State) : (onEdge ch q s).line = s.line := by
  unfold onEdge; (repeat' split) <;> simp
@[simp] theorem onEdge_sensors (ch : Channel) (q : Seq) (s : State) : (onEdge ch q s).sensors = s.sensors := by
  unfold onEdge; (repeat' split) <;> simp
@[simp] theorem onEdge_pins (ch : Channel) (q : Seq) (s : State) : (onEdge ch q s).pins = s.pins := by
  unfold onEdge; (repeat' split) <;> simp
@[simp] theorem onEdge_choices (ch : Channel) (q : Seq) (s : State) : (onEdge ch q s).choices = s.choices := by
  unfold onEdge; (repeat' split) <;> simp
@[simp] theorem onEdge_pending (ch : Channel) (q : Seq) (s : State) : (onEdge ch q s).pending = s.pending := by
  unfold onEdge; (repeat' split) <;> simp

/-! ### an edge (R48, R51) -/

@[simp] theorem takeEdge_shaft (e : Edge) (s : State) : (takeEdge e s).shaft = s.shaft := by
  unfold takeEdge; (repeat' split) <;> simp
@[simp] theorem takeEdge_geometry (e : Edge) (s : State) : (takeEdge e s).geometry = s.geometry := by
  unfold takeEdge; (repeat' split) <;> simp
@[simp] theorem takeEdge_registration (e : Edge) (s : State) : (takeEdge e s).registration = s.registration := by
  unfold takeEdge; (repeat' split) <;> simp
@[simp] theorem takeEdge_batch (e : Edge) (s : State) : (takeEdge e s).batch = s.batch := by
  unfold takeEdge; (repeat' split) <;> simp
@[simp] theorem takeEdge_banks (e : Edge) (s : State) : (takeEdge e s).banks = s.banks := by
  unfold takeEdge; (repeat' split) <;> simp
@[simp] theorem takeEdge_line (e : Edge) (s : State) : (takeEdge e s).line = s.line := by
  unfold takeEdge; (repeat' split) <;> simp
@[simp] theorem takeEdge_sensors (e : Edge) (s : State) : (takeEdge e s).sensors = s.sensors := by
  unfold takeEdge; (repeat' split) <;> simp
@[simp] theorem takeEdge_pins (e : Edge) (s : State) : (takeEdge e s).pins = s.pins := by
  unfold takeEdge; (repeat' split) <;> simp
@[simp] theorem takeEdge_choices (e : Edge) (s : State) : (takeEdge e s).choices = s.choices := by
  unfold takeEdge; (repeat' split) <;> simp
@[simp] theorem takeEdge_pending (e : Edge) (s : State) : (takeEdge e s).pending = s.pending := by
  unfold takeEdge; (repeat' split) <;> simp

/-! ### counting a width clamp (R43) -/

@[simp] theorem countWidth_shaft (ch : Channel) (r : Record) (s : State) : (countWidth ch r s).shaft = s.shaft := by
  unfold countWidth; (repeat' split) <;> simp
@[simp] theorem countWidth_geometry (ch : Channel) (r : Record) (s : State) : (countWidth ch r s).geometry = s.geometry := by
  unfold countWidth; (repeat' split) <;> simp
@[simp] theorem countWidth_chain (ch : Channel) (r : Record) (s : State) : (countWidth ch r s).chain = s.chain := by
  unfold countWidth; (repeat' split) <;> simp
@[simp] theorem countWidth_registration (ch : Channel) (r : Record) (s : State) : (countWidth ch r s).registration = s.registration := by
  unfold countWidth; (repeat' split) <;> simp
@[simp] theorem countWidth_gumFold (ch : Channel) (r : Record) (s : State) : (countWidth ch r s).gumFold = s.gumFold := by
  unfold countWidth; (repeat' split) <;> simp
@[simp] theorem countWidth_verdicts (ch : Channel) (r : Record) (s : State) : (countWidth ch r s).verdicts = s.verdicts := by
  unfold countWidth; (repeat' split) <;> simp
@[simp] theorem countWidth_batch (ch : Channel) (r : Record) (s : State) : (countWidth ch r s).batch = s.batch := by
  unfold countWidth; (repeat' split) <;> simp
@[simp] theorem countWidth_banks (ch : Channel) (r : Record) (s : State) : (countWidth ch r s).banks = s.banks := by
  unfold countWidth; (repeat' split) <;> simp
@[simp] theorem countWidth_line (ch : Channel) (r : Record) (s : State) : (countWidth ch r s).line = s.line := by
  unfold countWidth; (repeat' split) <;> simp
@[simp] theorem countWidth_ports (ch : Channel) (r : Record) (s : State) : (countWidth ch r s).ports = s.ports := by
  unfold countWidth; (repeat' split) <;> simp
@[simp] theorem countWidth_sensors (ch : Channel) (r : Record) (s : State) : (countWidth ch r s).sensors = s.sensors := by
  unfold countWidth; (repeat' split) <;> simp
@[simp] theorem countWidth_pins (ch : Channel) (r : Record) (s : State) : (countWidth ch r s).pins = s.pins := by
  unfold countWidth; (repeat' split) <;> simp
@[simp] theorem countWidth_choices (ch : Channel) (r : Record) (s : State) : (countWidth ch r s).choices = s.choices := by
  unfold countWidth; (repeat' split) <;> simp
@[simp] theorem countWidth_pending (ch : Channel) (r : Record) (s : State) : (countWidth ch r s).pending = s.pending := by
  unfold countWidth; (repeat' split) <;> simp

/-! ### planning for the next pitch (R46) -/

@[simp] theorem planNext_shaft (ch : Channel) (s : State) : (planNext ch s).shaft = s.shaft := by
  unfold planNext; (repeat' split) <;> simp
@[simp] theorem planNext_geometry (ch : Channel) (s : State) : (planNext ch s).geometry = s.geometry := by
  unfold planNext; (repeat' split) <;> simp
@[simp] theorem planNext_chain (ch : Channel) (s : State) : (planNext ch s).chain = s.chain := by
  unfold planNext; (repeat' split) <;> simp
@[simp] theorem planNext_registration (ch : Channel) (s : State) : (planNext ch s).registration = s.registration := by
  unfold planNext; (repeat' split) <;> simp
@[simp] theorem planNext_gumFold (ch : Channel) (s : State) : (planNext ch s).gumFold = s.gumFold := by
  unfold planNext; (repeat' split) <;> simp
@[simp] theorem planNext_verdicts (ch : Channel) (s : State) : (planNext ch s).verdicts = s.verdicts := by
  unfold planNext; (repeat' split) <;> simp
@[simp] theorem planNext_batch (ch : Channel) (s : State) : (planNext ch s).batch = s.batch := by
  unfold planNext; (repeat' split) <;> simp
@[simp] theorem planNext_banks (ch : Channel) (s : State) : (planNext ch s).banks = s.banks := by
  unfold planNext; (repeat' split) <;> simp
@[simp] theorem planNext_line (ch : Channel) (s : State) : (planNext ch s).line = s.line := by
  unfold planNext; (repeat' split) <;> simp
@[simp] theorem planNext_ports (ch : Channel) (s : State) : (planNext ch s).ports = s.ports := by
  unfold planNext; (repeat' split) <;> simp
@[simp] theorem planNext_sensors (ch : Channel) (s : State) : (planNext ch s).sensors = s.sensors := by
  unfold planNext; (repeat' split) <;> simp
@[simp] theorem planNext_pins (ch : Channel) (s : State) : (planNext ch s).pins = s.pins := by
  unfold planNext; (repeat' split) <;> simp
@[simp] theorem planNext_choices (ch : Channel) (s : State) : (planNext ch s).choices = s.choices := by
  unfold planNext; (repeat' split) <;> simp
@[simp] theorem planNext_pending (ch : Channel) (s : State) : (planNext ch s).pending = s.pending := by
  unfold planNext; (repeat' split) <;> simp

/-! ### planning for the present pitch (R46) -/

@[simp] theorem planPresent_shaft (ch : Channel) (s : State) : (planPresent ch s).shaft = s.shaft := by
  unfold planPresent; (repeat' split) <;> simp
@[simp] theorem planPresent_geometry (ch : Channel) (s : State) : (planPresent ch s).geometry = s.geometry := by
  unfold planPresent; (repeat' split) <;> simp
@[simp] theorem planPresent_chain (ch : Channel) (s : State) : (planPresent ch s).chain = s.chain := by
  unfold planPresent; (repeat' split) <;> simp
@[simp] theorem planPresent_registration (ch : Channel) (s : State) : (planPresent ch s).registration = s.registration := by
  unfold planPresent; (repeat' split) <;> simp
@[simp] theorem planPresent_gumFold (ch : Channel) (s : State) : (planPresent ch s).gumFold = s.gumFold := by
  unfold planPresent; (repeat' split) <;> simp
@[simp] theorem planPresent_verdicts (ch : Channel) (s : State) : (planPresent ch s).verdicts = s.verdicts := by
  unfold planPresent; (repeat' split) <;> simp
@[simp] theorem planPresent_batch (ch : Channel) (s : State) : (planPresent ch s).batch = s.batch := by
  unfold planPresent; (repeat' split) <;> simp
@[simp] theorem planPresent_banks (ch : Channel) (s : State) : (planPresent ch s).banks = s.banks := by
  unfold planPresent; (repeat' split) <;> simp
@[simp] theorem planPresent_line (ch : Channel) (s : State) : (planPresent ch s).line = s.line := by
  unfold planPresent; (repeat' split) <;> simp
@[simp] theorem planPresent_ports (ch : Channel) (s : State) : (planPresent ch s).ports = s.ports := by
  unfold planPresent; (repeat' split) <;> simp
@[simp] theorem planPresent_sensors (ch : Channel) (s : State) : (planPresent ch s).sensors = s.sensors := by
  unfold planPresent; (repeat' split) <;> simp
@[simp] theorem planPresent_pins (ch : Channel) (s : State) : (planPresent ch s).pins = s.pins := by
  unfold planPresent; (repeat' split) <;> simp
@[simp] theorem planPresent_choices (ch : Channel) (s : State) : (planPresent ch s).choices = s.choices := by
  unfold planPresent; (repeat' split) <;> simp
@[simp] theorem planPresent_pending (ch : Channel) (s : State) : (planPresent ch s).pending = s.pending := by
  unfold planPresent; (repeat' split) <;> simp

/-! ### placing a feed clutch firing (R52) -/

@[simp] theorem placeFeed_shaft (f : Firing) (s : State) : (placeFeed f s).shaft = s.shaft := by
  unfold placeFeed; (repeat' split) <;> simp
@[simp] theorem placeFeed_geometry (f : Firing) (s : State) : (placeFeed f s).geometry = s.geometry := by
  unfold placeFeed; (repeat' split) <;> simp
@[simp] theorem placeFeed_chain (f : Firing) (s : State) : (placeFeed f s).chain = s.chain := by
  unfold placeFeed; (repeat' split) <;> simp
@[simp] theorem placeFeed_registration (f : Firing) (s : State) : (placeFeed f s).registration = s.registration := by
  unfold placeFeed; (repeat' split) <;> simp
@[simp] theorem placeFeed_gumFold (f : Firing) (s : State) : (placeFeed f s).gumFold = s.gumFold := by
  unfold placeFeed; (repeat' split) <;> simp
@[simp] theorem placeFeed_verdicts (f : Firing) (s : State) : (placeFeed f s).verdicts = s.verdicts := by
  unfold placeFeed; (repeat' split) <;> simp
@[simp] theorem placeFeed_batch (f : Firing) (s : State) : (placeFeed f s).batch = s.batch := by
  unfold placeFeed; (repeat' split) <;> simp
@[simp] theorem placeFeed_banks (f : Firing) (s : State) : (placeFeed f s).banks = s.banks := by
  unfold placeFeed; (repeat' split) <;> simp
@[simp] theorem placeFeed_line (f : Firing) (s : State) : (placeFeed f s).line = s.line := by
  unfold placeFeed; (repeat' split) <;> simp
@[simp] theorem placeFeed_ports (f : Firing) (s : State) : (placeFeed f s).ports = s.ports := by
  unfold placeFeed; (repeat' split) <;> simp
@[simp] theorem placeFeed_sensors (f : Firing) (s : State) : (placeFeed f s).sensors = s.sensors := by
  unfold placeFeed; (repeat' split) <;> simp
@[simp] theorem placeFeed_pins (f : Firing) (s : State) : (placeFeed f s).pins = s.pins := by
  unfold placeFeed; (repeat' split) <;> simp
@[simp] theorem placeFeed_choices (f : Firing) (s : State) : (placeFeed f s).choices = s.choices := by
  unfold placeFeed; (repeat' split) <;> simp
@[simp] theorem placeFeed_pending (f : Firing) (s : State) : (placeFeed f s).pending = s.pending := by
  unfold placeFeed; (repeat' split) <;> simp

/-! ### planning the feed clutch (R52) -/

@[simp] theorem planFeed_shaft (s : State) : (planFeed s).shaft = s.shaft := by
  unfold planFeed; (repeat' split) <;> simp
@[simp] theorem planFeed_geometry (s : State) : (planFeed s).geometry = s.geometry := by
  unfold planFeed; (repeat' split) <;> simp
@[simp] theorem planFeed_chain (s : State) : (planFeed s).chain = s.chain := by
  unfold planFeed; (repeat' split) <;> simp
@[simp] theorem planFeed_registration (s : State) : (planFeed s).registration = s.registration := by
  unfold planFeed; (repeat' split) <;> simp
@[simp] theorem planFeed_gumFold (s : State) : (planFeed s).gumFold = s.gumFold := by
  unfold planFeed; (repeat' split) <;> simp
@[simp] theorem planFeed_verdicts (s : State) : (planFeed s).verdicts = s.verdicts := by
  unfold planFeed; (repeat' split) <;> simp
@[simp] theorem planFeed_batch (s : State) : (planFeed s).batch = s.batch := by
  unfold planFeed; (repeat' split) <;> simp
@[simp] theorem planFeed_banks (s : State) : (planFeed s).banks = s.banks := by
  unfold planFeed; (repeat' split) <;> simp
@[simp] theorem planFeed_line (s : State) : (planFeed s).line = s.line := by
  unfold planFeed; (repeat' split) <;> simp
@[simp] theorem planFeed_ports (s : State) : (planFeed s).ports = s.ports := by
  unfold planFeed; (repeat' split) <;> simp
@[simp] theorem planFeed_sensors (s : State) : (planFeed s).sensors = s.sensors := by
  unfold planFeed; (repeat' split) <;> simp
@[simp] theorem planFeed_pins (s : State) : (planFeed s).pins = s.pins := by
  unfold planFeed; (repeat' split) <;> simp
@[simp] theorem planFeed_choices (s : State) : (planFeed s).choices = s.choices := by
  unfold planFeed; (repeat' split) <;> simp
@[simp] theorem planFeed_pending (s : State) : (planFeed s).pending = s.pending := by
  unfold planFeed; (repeat' split) <;> simp

/-! ### creating a record (R30) -/

@[simp] theorem createRecord_shaft (s : State) : (createRecord s).shaft = s.shaft := by
  unfold createRecord; (repeat' split) <;> simp
@[simp] theorem createRecord_geometry (s : State) : (createRecord s).geometry = s.geometry := by
  unfold createRecord; (repeat' split) <;> simp
@[simp] theorem createRecord_firing (s : State) : (createRecord s).firing = s.firing := by
  unfold createRecord; (repeat' split) <;> simp
@[simp] theorem createRecord_registration (s : State) : (createRecord s).registration = s.registration := by
  unfold createRecord; (repeat' split) <;> simp
@[simp] theorem createRecord_gumFold (s : State) : (createRecord s).gumFold = s.gumFold := by
  unfold createRecord; (repeat' split) <;> simp
@[simp] theorem createRecord_verdicts (s : State) : (createRecord s).verdicts = s.verdicts := by
  unfold createRecord; (repeat' split) <;> simp
@[simp] theorem createRecord_batch (s : State) : (createRecord s).batch = s.batch := by
  unfold createRecord; (repeat' split) <;> simp
@[simp] theorem createRecord_banks (s : State) : (createRecord s).banks = s.banks := by
  unfold createRecord; (repeat' split) <;> simp
@[simp] theorem createRecord_line (s : State) : (createRecord s).line = s.line := by
  unfold createRecord; (repeat' split) <;> simp
@[simp] theorem createRecord_ports (s : State) : (createRecord s).ports = s.ports := by
  unfold createRecord; (repeat' split) <;> simp
@[simp] theorem createRecord_sensors (s : State) : (createRecord s).sensors = s.sensors := by
  unfold createRecord; (repeat' split) <;> simp
@[simp] theorem createRecord_pins (s : State) : (createRecord s).pins = s.pins := by
  unfold createRecord; (repeat' split) <;> simp
@[simp] theorem createRecord_choices (s : State) : (createRecord s).choices = s.choices := by
  unfold createRecord; (repeat' split) <;> simp
@[simp] theorem createRecord_pending (s : State) : (createRecord s).pending = s.pending := by
  unfold createRecord; (repeat' split) <;> simp

/-! ### the feed decision (R30) -/

@[simp] theorem feedStage_shaft (s : State) : (feedStage s).shaft = s.shaft := by
  unfold feedStage; (repeat' split) <;> simp
@[simp] theorem feedStage_geometry (s : State) : (feedStage s).geometry = s.geometry := by
  unfold feedStage; (repeat' split) <;> simp
@[simp] theorem feedStage_firing (s : State) : (feedStage s).firing = s.firing := by
  unfold feedStage; (repeat' split) <;> simp
@[simp] theorem feedStage_gumFold (s : State) : (feedStage s).gumFold = s.gumFold := by
  unfold feedStage; (repeat' split) <;> simp
@[simp] theorem feedStage_verdicts (s : State) : (feedStage s).verdicts = s.verdicts := by
  unfold feedStage; (repeat' split) <;> simp
@[simp] theorem feedStage_sensors (s : State) : (feedStage s).sensors = s.sensors := by
  unfold feedStage; (repeat' split) <;> simp
@[simp] theorem feedStage_pins (s : State) : (feedStage s).pins = s.pins := by
  unfold feedStage; (repeat' split) <;> simp
@[simp] theorem feedStage_choices (s : State) : (feedStage s).choices = s.choices := by
  unfold feedStage; (repeat' split) <;> simp
@[simp] theorem feedStage_pending (s : State) : (feedStage s).pending = s.pending := by
  unfold feedStage; (repeat' split) <;> simp

/-! ### records leaving (R27, R28) -/

@[simp] theorem leavingStage_shaft (s : State) : (leavingStage s).shaft = s.shaft := by
  simp [leavingStage]
@[simp] theorem leavingStage_geometry (s : State) : (leavingStage s).geometry = s.geometry := by
  simp [leavingStage]
@[simp] theorem leavingStage_firing (s : State) : (leavingStage s).firing = s.firing := by
  simp [leavingStage]
@[simp] theorem leavingStage_registration (s : State) : (leavingStage s).registration = s.registration := by
  simp [leavingStage]
@[simp] theorem leavingStage_gumFold (s : State) : (leavingStage s).gumFold = s.gumFold := by
  simp [leavingStage]
@[simp] theorem leavingStage_batch (s : State) : (leavingStage s).batch = s.batch := by
  simp [leavingStage]
@[simp] theorem leavingStage_line (s : State) : (leavingStage s).line = s.line := by
  simp [leavingStage]
@[simp] theorem leavingStage_sensors (s : State) : (leavingStage s).sensors = s.sensors := by
  simp [leavingStage]
@[simp] theorem leavingStage_pins (s : State) : (leavingStage s).pins = s.pins := by
  simp [leavingStage]
@[simp] theorem leavingStage_choices (s : State) : (leavingStage s).choices = s.choices := by
  simp [leavingStage]
@[simp] theorem leavingStage_pending (s : State) : (leavingStage s).pending = s.pending := by
  simp [leavingStage]

/-! ### the chain at a boundary (R26) -/

@[simp] theorem chainBoundary_shaft (s : State) : (chainBoundary s).shaft = s.shaft := by
  simp [chainBoundary]
@[simp] theorem chainBoundary_geometry (s : State) : (chainBoundary s).geometry = s.geometry := by
  simp [chainBoundary]
@[simp] theorem chainBoundary_firing (s : State) : (chainBoundary s).firing = s.firing := by
  simp [chainBoundary]
@[simp] theorem chainBoundary_gumFold (s : State) : (chainBoundary s).gumFold = s.gumFold := by
  simp [chainBoundary]
@[simp] theorem chainBoundary_sensors (s : State) : (chainBoundary s).sensors = s.sensors := by
  simp [chainBoundary]
@[simp] theorem chainBoundary_pins (s : State) : (chainBoundary s).pins = s.pins := by
  simp [chainBoundary]
@[simp] theorem chainBoundary_choices (s : State) : (chainBoundary s).choices = s.choices := by
  simp [chainBoundary]
@[simp] theorem chainBoundary_pending (s : State) : (chainBoundary s).pending = s.pending := by
  simp [chainBoundary]

/-! ### discarding the records (R36) -/

@[simp] theorem discardRecords_shaft (s : State) : (discardRecords s).shaft = s.shaft := by
  simp [discardRecords]
@[simp] theorem discardRecords_geometry (s : State) : (discardRecords s).geometry = s.geometry := by
  simp [discardRecords]
@[simp] theorem discardRecords_firing (s : State) : (discardRecords s).firing = s.firing := by
  simp [discardRecords]
@[simp] theorem discardRecords_registration (s : State) : (discardRecords s).registration = s.registration := by
  simp [discardRecords]
@[simp] theorem discardRecords_gumFold (s : State) : (discardRecords s).gumFold = s.gumFold := by
  simp [discardRecords]
@[simp] theorem discardRecords_verdicts (s : State) : (discardRecords s).verdicts = s.verdicts := by
  simp [discardRecords]
@[simp] theorem discardRecords_batch (s : State) : (discardRecords s).batch = s.batch := by
  simp [discardRecords]
@[simp] theorem discardRecords_line (s : State) : (discardRecords s).line = s.line := by
  simp [discardRecords]
@[simp] theorem discardRecords_sensors (s : State) : (discardRecords s).sensors = s.sensors := by
  simp [discardRecords]
@[simp] theorem discardRecords_pins (s : State) : (discardRecords s).pins = s.pins := by
  simp [discardRecords]
@[simp] theorem discardRecords_choices (s : State) : (discardRecords s).choices = s.choices := by
  simp [discardRecords]
@[simp] theorem discardRecords_pending (s : State) : (discardRecords s).pending = s.pending := by
  simp [discardRecords]

end Sys2Proof.Machine
end

