-- ==== Sys2Proof/Laws/FreeOrder.lean ====
section
/-! SUPPORT. Free orders: what holds of tasks taken in any order, and what the operations built on them leave as it was. -/

namespace Sys2Proof.Machine

@[simp] theorem choose_shaft (n : Nat) (s : State) : (choose n s).2.shaft = s.shaft := by
  unfold choose; split <;> rfl
@[simp] theorem choose_geometry (n : Nat) (s : State) : (choose n s).2.geometry = s.geometry := by
  unfold choose; split <;> rfl
@[simp] theorem choose_chain (n : Nat) (s : State) : (choose n s).2.chain = s.chain := by
  unfold choose; split <;> rfl
@[simp] theorem choose_firing (n : Nat) (s : State) : (choose n s).2.firing = s.firing := by
  unfold choose; split <;> rfl
@[simp] theorem choose_registration (n : Nat) (s : State) : (choose n s).2.registration = s.registration := by
  unfold choose; split <;> rfl
@[simp] theorem choose_gumFold (n : Nat) (s : State) : (choose n s).2.gumFold = s.gumFold := by
  unfold choose; split <;> rfl
@[simp] theorem choose_verdicts (n : Nat) (s : State) : (choose n s).2.verdicts = s.verdicts := by
  unfold choose; split <;> rfl
@[simp] theorem choose_batch (n : Nat) (s : State) : (choose n s).2.batch = s.batch := by
  unfold choose; split <;> rfl
@[simp] theorem choose_banks (n : Nat) (s : State) : (choose n s).2.banks = s.banks := by
  unfold choose; split <;> rfl
@[simp] theorem choose_line (n : Nat) (s : State) : (choose n s).2.line = s.line := by
  unfold choose; split <;> rfl
@[simp] theorem choose_ports (n : Nat) (s : State) : (choose n s).2.ports = s.ports := by
  unfold choose; split <;> rfl
@[simp] theorem choose_sensors (n : Nat) (s : State) : (choose n s).2.sensors = s.sensors := by
  unfold choose; split <;> rfl
@[simp] theorem choose_pins (n : Nat) (s : State) : (choose n s).2.pins = s.pins := by
  unfold choose; split <;> rfl
@[simp] theorem choose_pending (n : Nat) (s : State) : (choose n s).2.pending = s.pending := by
  unfold choose; split <;> rfl

/-- A choice changes nothing but the free-order index. -/
theorem choose_state (n : Nat) (s : State) : ∃ c, (choose n s).2 = { s with choices := c } := by
  unfold choose; split
  · exact ⟨s.choices, rfl⟩
  · exact ⟨_, rfl⟩

/-- A property kept by every task, and by the free-order index, is kept by all of them in any order; `good` tells apart
the tasks that can come up. -/
theorem runFree_induct {α : Type} [DecidableEq α] {act : α → State → List α × State}
    {able : α → List α → State → Bool} (P : State → Prop) (good : α → Prop)
    (index : ∀ s c, P s → P { s with choices := c })
    (task : ∀ t s, good t → P s → P (act t s).2 ∧ ∀ u ∈ (act t s).1, good u) :
    ∀ (fuel : Nat) (tasks : List α) (s : State), (∀ t ∈ tasks, good t) → P s → P (runFree act able fuel tasks s) := by
  intro fuel
  induction fuel with
  | zero => intro tasks s _ hs; exact hs
  | succ fuel ih =>
    intro tasks s ht hs
    have hc : P (choose (tasks.filter (fun t => able t tasks s)).length s).2 := by
      obtain ⟨c, h⟩ := choose_state (tasks.filter (fun t => able t tasks s)).length s
      rw [h]; exact index s c hs
    simp only [runFree]
    split
    · exact hc
    · rename_i t hget
      have hmem : t ∈ tasks := (List.mem_filter.mp (List.mem_of_getElem? hget)).1
      have hstep := task t _ (ht t hmem) hc
      refine ih _ _ (fun u hu => ?_) hstep.1
      rcases List.mem_append.mp hu with h | h
      · exact ht u (List.mem_of_mem_erase h)
      · exact hstep.2 u h

/-- A part of the state that no task changes is left as it was, in any order. -/
theorem runFree_proj {α β : Type} [DecidableEq α] {act : α → State → List α × State}
    {able : α → List α → State → Bool} (f : State → β) (index : ∀ s c, f { s with choices := c } = f s)
    (task : ∀ t s, f (act t s).2 = f s) (fuel : Nat) (tasks : List α) (s : State) :
    f (runFree act able fuel tasks s) = f s :=
  runFree_induct (fun x => f x = f s) (fun _ => True) (fun x c h => (index x c).trans h)
    (fun t x _ h => ⟨(task t x).trans h, fun _ _ => trivial⟩) fuel tasks s (fun _ _ => trivial) rfl

/-- The same for tasks that hand on nothing. -/
theorem runAll_proj {α β : Type} [DecidableEq α] {act : α → State → State} (f : State → β)
    (index : ∀ s c, f { s with choices := c } = f s) (task : ∀ t s, f (act t s) = f s) (tasks : List α) (s : State) :
    f (runAll act tasks s) = f s :=
  runFree_proj f index task _ _ _

/-- A property kept by every task of a list of tasks that hand on nothing. -/
theorem runAll_induct {α : Type} [DecidableEq α] {act : α → State → State} (P : State → Prop) (good : α → Prop)
    (index : ∀ s c, P s → P { s with choices := c }) (task : ∀ t s, good t → P s → P (act t s))
    (tasks : List α) (s : State) (ht : ∀ t ∈ tasks, good t) (hs : P s) : P (runAll act tasks s) :=
  runFree_induct P good index (fun t x hg hx => ⟨task t x hg hx, fun _ h => by simp at h⟩) _ _ _ ht hs

/-- With no task nothing happens. -/
@[simp] theorem runAll_nil {α : Type} [DecidableEq α] (act : α → State → State) (s : State) :
    runAll act [] s = s := rfl

/-- One task alone is taken, with no choice. -/
@[simp] theorem runAll_one {α : Type} [DecidableEq α] (act : α → State → State) (t : α) (s : State) :
    runAll act [t] s = act t s := by
  simp [runAll, runFree, anyTime, choose]

/-- A choice picks one of the alternatives there are. -/
theorem choose_lt {n : Nat} (h : 0 < n) (s : State) : (choose n s).1 < n := by
  unfold choose
  split
  · exact h
  · exact Nat.mod_lt _ h

/-- What `runFree` does with tasks that hand on nothing, where some task left can always be taken: each is taken once, with
the free-order index as it stands then, and each was able beside the tasks still left. -/
theorem runFree_taken {α : Type} [DecidableEq α] {act : α → State → List α × State}
    {able : α → List α → State → Bool} (good : α → Prop) (quiet : ∀ t s, good t → (act t s).1 = [])
    (progress : ∀ left s, left ≠ [] → (∀ t ∈ left, good t) → ∃ t ∈ left, able t left s = true) :
    ∀ (fuel : Nat) (tasks : List α) (s : State), tasks.length ≤ fuel → (∀ t ∈ tasks, good t) →
      ∃ order : List (α × Nat), (order.map Prod.fst).Perm tasks
        ∧ runFree act able fuel tasks s = order.foldl (fun s x => (act x.1 { s with choices := x.2 }).2) s
        ∧ ∀ first t k last, order = first ++ (t, k) :: last →
            ∃ left : List α, left.Perm (t :: last.map Prod.fst)
              ∧ able t left (first.foldl (fun s x => (act x.1 { s with choices := x.2 }).2) s) = true := by
  intro fuel
  induction fuel with
  | zero =>
    intro tasks s h _
    obtain rfl : tasks = [] := List.eq_nil_of_length_eq_zero (by omega)
    exact ⟨[], .refl _, rfl, fun first t k last h => by simp at h⟩
  | succ fuel ih =>
    intro tasks s hlen hgood
    by_cases hne : tasks = []
    · subst hne
      exact ⟨[], .refl _, by simp [runFree, choose], fun first t k last h => by simp at h⟩
    obtain ⟨m, hm, hable⟩ := progress tasks s hne hgood
    have hpos : 0 < (tasks.filter fun t => able t tasks s).length :=
      List.length_pos_of_mem (List.mem_filter.mpr ⟨hm, hable⟩)
    have hlt := choose_lt hpos s
    have hget := List.getElem?_eq_getElem hlt
    have hmem := List.mem_filter.mp (List.getElem_mem hlt)
    generalize (tasks.filter fun t => able t tasks s)[
      (choose (tasks.filter fun t => able t tasks s).length s).1] = t at hmem hget
    obtain ⟨c, hc⟩ := choose_state (tasks.filter fun t => able t tasks s).length s
    obtain ⟨order, hperm, hrun, hord⟩ := ih (tasks.erase t) (act t { s with choices := c }).2
      (by rw [List.length_erase_of_mem hmem.1]; omega) (fun u hu => hgood u (List.mem_of_mem_erase hu))
    refine ⟨(t, c) :: order, (hperm.cons t).trans (List.perm_cons_erase hmem.1).symm, ?_, ?_⟩
    · simp only [runFree, hget, hc, quiet t _ (hgood t hmem.1), List.append_nil, hrun, List.foldl_cons]
    · intro first u k last h
      cases first with
      | nil =>
        simp only [List.nil_append, List.cons.injEq, Prod.mk.injEq] at h
        obtain ⟨⟨rfl, rfl⟩, rfl⟩ := h
        exact ⟨tasks, (List.perm_cons_erase hmem.1).trans (hperm.symm.cons _), hmem.2⟩
      | cons a first =>
        simp only [List.cons_append, List.cons.injEq] at h
        obtain ⟨rfl, h⟩ := h
        exact hord first u k last h

/-- Tasks that hand on nothing, each taken only when no task left must come before it (`first y t`: `y` before `t`): each is
taken once, in an order that keeps to `first`, with the free-order index as it stands when the task is taken. -/
theorem runFree_order {α : Type} [DecidableEq α] (act : α → State → State) (first : α → α → Bool)
    (minimal : ∀ tasks : List α, tasks ≠ [] → ∃ t ∈ tasks, ∀ y ∈ tasks, first y t = false) :
    ∀ (n : Nat) (tasks : List α) (s : State), tasks.length = n →
      ∃ order : List (α × Nat), (order.map Prod.fst).Perm tasks
        ∧ (order.map Prod.fst).Pairwise (fun x y => first y x = false)
        ∧ runFree (fun t s => ([], act t s)) (fun t left _ => left.all fun y => !first y t) n tasks s
          = order.foldl (fun s x => act x.1 { s with choices := x.2 }) s := by
  intro n
  induction n with
  | zero =>
    intro tasks s h
    obtain rfl := List.eq_nil_of_length_eq_zero h
    exact ⟨[], List.Perm.refl _, List.Pairwise.nil, rfl⟩
  | succ n ih =>
    intro tasks s hlen
    have hne : tasks ≠ [] := by rintro rfl; simp at hlen
    obtain ⟨m, hm, hmin⟩ := minimal tasks hne
    have hpos : 0 < (tasks.filter fun t => tasks.all fun y => !first y t).length :=
      List.length_pos_of_mem (List.mem_filter.mpr ⟨hm, by simpa using hmin⟩)
    simp only [runFree]
    have hlt := choose_lt hpos s
    have hget := List.getElem?_eq_getElem hlt
    have hmem := List.mem_filter.mp (List.getElem_mem hlt)
    generalize (tasks.filter fun t => tasks.all fun y => !first y t)[
      (choose (tasks.filter fun t => tasks.all fun y => !first y t).length s).1] = t at hmem hget
    rw [hget]
    obtain ⟨c, hc⟩ := choose_state (tasks.filter fun t => tasks.all fun y => !first y t).length s
    obtain ⟨order, hperm, hpair, hrun⟩ := ih (tasks.erase t) (act t { s with choices := c })
      (by rw [List.length_erase_of_mem hmem.1, hlen]; rfl)
    refine ⟨(t, c) :: order, ?_, ?_, ?_⟩
    · exact (hperm.cons t).trans (List.perm_cons_erase hmem.1).symm
    · refine List.Pairwise.cons (fun y hy => ?_) hpair
      have hall : ∀ y ∈ tasks, first y t = false := by simpa using hmem.2
      exact hall y (List.mem_of_mem_erase (hperm.subset hy))
    · simp only [List.append_nil, List.foldl_cons, hc]
      exact hrun

/-- Tasks that may be taken at any time: each is taken once, in some order. -/
theorem runAll_order {α : Type} [DecidableEq α] (act : α → State → State) (tasks : List α) (s : State) :
    ∃ order : List (α × Nat), (order.map Prod.fst).Perm tasks
      ∧ runAll act tasks s = order.foldl (fun s x => act x.1 { s with choices := x.2 }) s := by
  obtain ⟨order, hperm, -, hrun⟩ := runFree_order act (fun _ _ => false)
    (fun tasks h => ⟨tasks.head h, List.head_mem h, fun _ _ => rfl⟩) tasks.length tasks s rfl
  refine ⟨order, hperm, ?_⟩
  rw [← hrun]
  simp only [runAll]
  congr 1
  funext t left s
  simp [anyTime]

/-- What a fold of operations leaves as it was. -/
theorem foldl_proj {α β : Type} {op : State → α → State} (f : State → β) (h : ∀ s x, f (op s x) = f s) :
    ∀ (l : List α) (s : State), f (l.foldl op s) = f s := by
  intro l
  induction l with
  | nil => intro s; rfl
  | cons x l ih => intro s; exact (ih _).trans (h s x)

/-! ### Operations that write nothing of the Line Sequencer but the feed-inhibit set -/

@[simp] theorem removeFeedCause_line_state (c : FeedCause) (s : State) : (removeFeedCause c s).line.state = s.line.state := by
  rfl
@[simp] theorem removeFeedCause_line_locked (c : FeedCause) (s : State) : (removeFeedCause c s).line.locked = s.line.locked := by
  rfl
@[simp] theorem removeFeedCause_line_closeFlag (c : FeedCause) (s : State) : (removeFeedCause c s).line.closeFlag = s.line.closeFlag := by
  rfl
@[simp] theorem removeFeedCause_line_holders (c : FeedCause) (s : State) : (removeFeedCause c s).line.holders = s.line.holders := by
  rfl
@[simp] theorem removeFeedCause_line_haltRecord (c : FeedCause) (s : State) : (removeFeedCause c s).line.haltRecord = s.line.haltRecord := by
  rfl
@[simp] theorem addFeedCause_line_state (c : FeedCause) (s : State) : (addFeedCause c s).line.state = s.line.state := by
  unfold addFeedCause; dsimp only; split <;> rfl
@[simp] theorem addFeedCause_line_locked (c : FeedCause) (s : State) : (addFeedCause c s).line.locked = s.line.locked := by
  unfold addFeedCause; dsimp only; split <;> rfl
@[simp] theorem addFeedCause_line_closeFlag (c : FeedCause) (s : State) : (addFeedCause c s).line.closeFlag = s.line.closeFlag := by
  unfold addFeedCause; dsimp only; split <;> rfl
@[simp] theorem addFeedCause_line_holders (c : FeedCause) (s : State) : (addFeedCause c s).line.holders = s.line.holders := by
  unfold addFeedCause; dsimp only; split <;> rfl
@[simp] theorem addFeedCause_line_haltRecord (c : FeedCause) (s : State) : (addFeedCause c s).line.haltRecord = s.line.haltRecord := by
  unfold addFeedCause; dsimp only; split <;> rfl
@[simp] theorem setFeedCause_line_state (c : FeedCause) (v : Bool) (s : State) : (setFeedCause c v s).line.state = s.line.state := by
  unfold setFeedCause; (repeat' split) <;> simp
@[simp] theorem setFeedCause_line_locked (c : FeedCause) (v : Bool) (s : State) : (setFeedCause c v s).line.locked = s.line.locked := by
  unfold setFeedCause; (repeat' split) <;> simp
@[simp] theorem setFeedCause_line_closeFlag (c : FeedCause) (v : Bool) (s : State) : (setFeedCause c v s).line.closeFlag = s.line.closeFlag := by
  unfold setFeedCause; (repeat' split) <;> simp
@[simp] theorem setFeedCause_line_holders (c : FeedCause) (v : Bool) (s : State) : (setFeedCause c v s).line.holders = s.line.holders := by
  unfold setFeedCause; (repeat' split) <;> simp
@[simp] theorem setFeedCause_line_haltRecord (c : FeedCause) (v : Bool) (s : State) : (setFeedCause c v s).line.haltRecord = s.line.haltRecord := by
  unfold setFeedCause; (repeat' split) <;> simp
@[simp] theorem retakeSupplies_line_state (s : State) : (retakeSupplies s).line.state = s.line.state := by
  simp [retakeSupplies]
@[simp] theorem retakeSupplies_line_locked (s : State) : (retakeSupplies s).line.locked = s.line.locked := by
  simp [retakeSupplies]
@[simp] theorem retakeSupplies_line_closeFlag (s : State) : (retakeSupplies s).line.closeFlag = s.line.closeFlag := by
  simp [retakeSupplies]
@[simp] theorem retakeSupplies_line_holders (s : State) : (retakeSupplies s).line.holders = s.line.holders := by
  simp [retakeSupplies]
@[simp] theorem retakeSupplies_line_haltRecord (s : State) : (retakeSupplies s).line.haltRecord = s.line.haltRecord := by
  simp [retakeSupplies]
@[simp] theorem takeChangeover_line_state (s : State) : (takeChangeover s).line.state = s.line.state := by
  unfold takeChangeover; (repeat' split) <;> simp
@[simp] theorem takeChangeover_line_locked (s : State) : (takeChangeover s).line.locked = s.line.locked := by
  unfold takeChangeover; (repeat' split) <;> simp
@[simp] theorem takeChangeover_line_closeFlag (s : State) : (takeChangeover s).line.closeFlag = s.line.closeFlag := by
  unfold takeChangeover; (repeat' split) <;> simp
@[simp] theorem takeChangeover_line_holders (s : State) : (takeChangeover s).line.holders = s.line.holders := by
  unfold takeChangeover; (repeat' split) <;> simp
@[simp] theorem takeChangeover_line_haltRecord (s : State) : (takeChangeover s).line.haltRecord = s.line.haltRecord := by
  unfold takeChangeover; (repeat' split) <;> simp
@[simp] theorem checkBacklog_line_state (s : State) : (checkBacklog s).line.state = s.line.state := by
  unfold checkBacklog; (repeat' split) <;> simp
@[simp] theorem checkBacklog_line_locked (s : State) : (checkBacklog s).line.locked = s.line.locked := by
  unfold checkBacklog; (repeat' split) <;> simp
@[simp] theorem checkBacklog_line_closeFlag (s : State) : (checkBacklog s).line.closeFlag = s.line.closeFlag := by
  unfold checkBacklog; (repeat' split) <;> simp
@[simp] theorem checkBacklog_line_holders (s : State) : (checkBacklog s).line.holders = s.line.holders := by
  unfold checkBacklog; (repeat' split) <;> simp
@[simp] theorem checkBacklog_line_haltRecord (s : State) : (checkBacklog s).line.haltRecord = s.line.haltRecord := by
  unfold checkBacklog; (repeat' split) <;> simp
@[simp] theorem closeBatch_line_state (c : CloseCause) (s : State) : (closeBatch c s).line.state = s.line.state := by
  unfold closeBatch; (repeat' split) <;> simp
@[simp] theorem closeBatch_line_locked (c : CloseCause) (s : State) : (closeBatch c s).line.locked = s.line.locked := by
  unfold closeBatch; (repeat' split) <;> simp
@[simp] theorem closeBatch_line_closeFlag (c : CloseCause) (s : State) : (closeBatch c s).line.closeFlag = s.line.closeFlag := by
  unfold closeBatch; (repeat' split) <;> simp
@[simp] theorem closeBatch_line_holders (c : CloseCause) (s : State) : (closeBatch c s).line.holders = s.line.holders := by
  unfold closeBatch; (repeat' split) <;> simp
@[simp] theorem closeBatch_line_haltRecord (c : CloseCause) (s : State) : (closeBatch c s).line.haltRecord = s.line.haltRecord := by
  unfold closeBatch; (repeat' split) <;> simp
@[simp] theorem changeoverCheck_line_state (r : Record) (s : State) : (changeoverCheck r s).line.state = s.line.state := by
  unfold changeoverCheck; (repeat' split) <;> simp
@[simp] theorem changeoverCheck_line_locked (r : Record) (s : State) : (changeoverCheck r s).line.locked = s.line.locked := by
  unfold changeoverCheck; (repeat' split) <;> simp
@[simp] theorem changeoverCheck_line_closeFlag (r : Record) (s : State) : (changeoverCheck r s).line.closeFlag = s.line.closeFlag := by
  unfold changeoverCheck; (repeat' split) <;> simp
@[simp] theorem changeoverCheck_line_holders (r : Record) (s : State) : (changeoverCheck r s).line.holders = s.line.holders := by
  unfold changeoverCheck; (repeat' split) <;> simp
@[simp] theorem changeoverCheck_line_haltRecord (r : Record) (s : State) : (changeoverCheck r s).line.haltRecord = s.line.haltRecord := by
  unfold changeoverCheck; (repeat' split) <;> simp
@[simp] theorem applyCheck_line_state (c : CloseCheck) (s : State) : (applyCheck c s).line.state = s.line.state := by
  unfold applyCheck; (repeat' split) <;> simp
@[simp] theorem applyCheck_line_locked (c : CloseCheck) (s : State) : (applyCheck c s).line.locked = s.line.locked := by
  unfold applyCheck; (repeat' split) <;> simp
@[simp] theorem applyCheck_line_closeFlag (c : CloseCheck) (s : State) : (applyCheck c s).line.closeFlag = s.line.closeFlag := by
  unfold applyCheck; (repeat' split) <;> simp
@[simp] theorem applyCheck_line_holders (c : CloseCheck) (s : State) : (applyCheck c s).line.holders = s.line.holders := by
  unfold applyCheck; (repeat' split) <;> simp
@[simp] theorem applyCheck_line_haltRecord (c : CloseCheck) (s : State) : (applyCheck c s).line.haltRecord = s.line.haltRecord := by
  unfold applyCheck; (repeat' split) <;> simp
@[simp] theorem countEvent_line_state (r : Record) (s : State) : (countEvent r s).line.state = s.line.state := by
  simp only [countEvent]; split <;> simp
@[simp] theorem countEvent_line_locked (r : Record) (s : State) : (countEvent r s).line.locked = s.line.locked := by
  simp only [countEvent]; split <;> simp
@[simp] theorem countEvent_line_closeFlag (r : Record) (s : State) : (countEvent r s).line.closeFlag = s.line.closeFlag := by
  simp only [countEvent]; split <;> simp
@[simp] theorem countEvent_line_holders (r : Record) (s : State) : (countEvent r s).line.holders = s.line.holders := by
  simp only [countEvent]; split <;> simp
@[simp] theorem countEvent_line_haltRecord (r : Record) (s : State) : (countEvent r s).line.haltRecord = s.line.haltRecord := by
  simp only [countEvent]; split <;> simp
@[simp] theorem countCrossing_line_state (p : Nat) (s : State) : (countCrossing p s).line.state = s.line.state := by
  unfold countCrossing; (repeat' split) <;> simp
@[simp] theorem countCrossing_line_locked (p : Nat) (s : State) : (countCrossing p s).line.locked = s.line.locked := by
  unfold countCrossing; (repeat' split) <;> simp
@[simp] theorem countCrossing_line_closeFlag (p : Nat) (s : State) : (countCrossing p s).line.closeFlag = s.line.closeFlag := by
  unfold countCrossing; (repeat' split) <;> simp
@[simp] theorem countCrossing_line_holders (p : Nat) (s : State) : (countCrossing p s).line.holders = s.line.holders := by
  unfold countCrossing; (repeat' split) <;> simp
@[simp] theorem countCrossing_line_haltRecord (p : Nat) (s : State) : (countCrossing p s).line.haltRecord = s.line.haltRecord := by
  unfold countCrossing; (repeat' split) <;> simp
@[simp] theorem batchBoundary_line_state (s : State) : (batchBoundary s).line.state = s.line.state := by
  simp [batchBoundary]
@[simp] theorem batchBoundary_line_locked (s : State) : (batchBoundary s).line.locked = s.line.locked := by
  simp [batchBoundary]
@[simp] theorem batchBoundary_line_closeFlag (s : State) : (batchBoundary s).line.closeFlag = s.line.closeFlag := by
  simp [batchBoundary]
@[simp] theorem batchBoundary_line_holders (s : State) : (batchBoundary s).line.holders = s.line.holders := by
  simp [batchBoundary]
@[simp] theorem batchBoundary_line_haltRecord (s : State) : (batchBoundary s).line.haltRecord = s.line.haltRecord := by
  simp [batchBoundary]
@[simp] theorem feedStage_line_state (s : State) : (feedStage s).line.state = s.line.state := by
  unfold feedStage; (repeat' split) <;> simp
@[simp] theorem feedStage_line_locked (s : State) : (feedStage s).line.locked = s.line.locked := by
  unfold feedStage; (repeat' split) <;> simp
@[simp] theorem feedStage_line_closeFlag (s : State) : (feedStage s).line.closeFlag = s.line.closeFlag := by
  unfold feedStage; (repeat' split) <;> simp
@[simp] theorem feedStage_line_holders (s : State) : (feedStage s).line.holders = s.line.holders := by
  unfold feedStage; (repeat' split) <;> simp
@[simp] theorem feedStage_line_haltRecord (s : State) : (feedStage s).line.haltRecord = s.line.haltRecord := by
  unfold feedStage; (repeat' split) <;> simp
@[simp] theorem chainBoundary_line_state (s : State) : (chainBoundary s).line.state = s.line.state := by
  simp [chainBoundary]
@[simp] theorem chainBoundary_line_locked (s : State) : (chainBoundary s).line.locked = s.line.locked := by
  simp [chainBoundary]
@[simp] theorem chainBoundary_line_closeFlag (s : State) : (chainBoundary s).line.closeFlag = s.line.closeFlag := by
  simp [chainBoundary]
@[simp] theorem chainBoundary_line_holders (s : State) : (chainBoundary s).line.holders = s.line.holders := by
  simp [chainBoundary]
@[simp] theorem chainBoundary_line_haltRecord (s : State) : (chainBoundary s).line.haltRecord = s.line.haltRecord := by
  simp [chainBoundary]

/-! ### examining the levels (R140) -/

@[simp] theorem examineLevels_geometry (s : State) : (examineLevels s).geometry = s.geometry := by
  exact runAll_proj State.geometry (fun _ _ => rfl) (fun t s => by simp) _ _
@[simp] theorem examineLevels_verdicts (s : State) : (examineLevels s).verdicts = s.verdicts := by
  exact runAll_proj State.verdicts (fun _ _ => rfl) (fun t s => by simp) _ _
@[simp] theorem examineLevels_batch (s : State) : (examineLevels s).batch = s.batch := by
  exact runAll_proj State.batch (fun _ _ => rfl) (fun t s => by simp) _ _
@[simp] theorem examineLevels_banks (s : State) : (examineLevels s).banks = s.banks := by
  exact runAll_proj State.banks (fun _ _ => rfl) (fun t s => by simp) _ _
@[simp] theorem examineLevels_sensors (s : State) : (examineLevels s).sensors = s.sensors := by
  exact runAll_proj State.sensors (fun _ _ => rfl) (fun t s => by simp) _ _
@[simp] theorem examineLevels_pins (s : State) : (examineLevels s).pins = s.pins := by
  exact runAll_proj State.pins (fun _ _ => rfl) (fun t s => by simp) _ _
@[simp] theorem examineLevels_pending (s : State) : (examineLevels s).pending = s.pending := by
  exact runAll_proj State.pending (fun _ _ => rfl) (fun t s => by simp) _ _

/-! ### drain completion (R139) -/

@[simp] theorem completeDrain_geometry (s : State) : (completeDrain s).geometry = s.geometry := by
  simp only [completeDrain]; split <;> simp
@[simp] theorem completeDrain_verdicts (s : State) : (completeDrain s).verdicts = s.verdicts := by
  simp only [completeDrain]; split <;> simp
@[simp] theorem completeDrain_sensors (s : State) : (completeDrain s).sensors = s.sensors := by
  simp only [completeDrain]; split <;> simp
@[simp] theorem completeDrain_pins (s : State) : (completeDrain s).pins = s.pins := by
  simp only [completeDrain]; split <;> simp
@[simp] theorem completeDrain_pending (s : State) : (completeDrain s).pending = s.pending := by
  simp only [completeDrain]; split <;> simp

/-! ### the chain-empty notice (R31) -/

@[simp] theorem chainEmptyNotice_geometry (s : State) : (chainEmptyNotice s).geometry = s.geometry := by
  unfold chainEmptyNotice; (repeat' split) <;> simp
@[simp] theorem chainEmptyNotice_verdicts (s : State) : (chainEmptyNotice s).verdicts = s.verdicts := by
  unfold chainEmptyNotice; (repeat' split) <;> simp
@[simp] theorem chainEmptyNotice_sensors (s : State) : (chainEmptyNotice s).sensors = s.sensors := by
  unfold chainEmptyNotice; (repeat' split) <;> simp
@[simp] theorem chainEmptyNotice_pins (s : State) : (chainEmptyNotice s).pins = s.pins := by
  unfold chainEmptyNotice; (repeat' split) <;> simp
@[simp] theorem chainEmptyNotice_pending (s : State) : (chainEmptyNotice s).pending = s.pending := by
  unfold chainEmptyNotice; (repeat' split) <;> simp

/-! ### overdue edges (R45 step 1) -/

@[simp] theorem takeOverdue_shaft (s : State) : (takeOverdue s).shaft = s.shaft := by
  simp only [takeOverdue, dropWaiting_shaft]; exact runFree_proj State.shaft (fun _ _ => rfl) (fun t s => by simp) _ _ _
@[simp] theorem takeOverdue_geometry (s : State) : (takeOverdue s).geometry = s.geometry := by
  simp only [takeOverdue, dropWaiting_geometry]; exact runFree_proj State.geometry (fun _ _ => rfl) (fun t s => by simp) _ _ _
@[simp] theorem takeOverdue_registration (s : State) : (takeOverdue s).registration = s.registration := by
  simp only [takeOverdue, dropWaiting_registration]; exact runFree_proj State.registration (fun _ _ => rfl) (fun t s => by simp) _ _ _
@[simp] theorem takeOverdue_batch (s : State) : (takeOverdue s).batch = s.batch := by
  simp only [takeOverdue, dropWaiting_batch]; exact runFree_proj State.batch (fun _ _ => rfl) (fun t s => by simp) _ _ _
@[simp] theorem takeOverdue_banks (s : State) : (takeOverdue s).banks = s.banks := by
  simp only [takeOverdue, dropWaiting_banks]; exact runFree_proj State.banks (fun _ _ => rfl) (fun t s => by simp) _ _ _
@[simp] theorem takeOverdue_line (s : State) : (takeOverdue s).line = s.line := by
  simp only [takeOverdue, dropWaiting_line]; exact runFree_proj State.line (fun _ _ => rfl) (fun t s => by simp) _ _ _
@[simp] theorem takeOverdue_sensors (s : State) : (takeOverdue s).sensors = s.sensors := by
  simp only [takeOverdue, dropWaiting_sensors]; exact runFree_proj State.sensors (fun _ _ => rfl) (fun t s => by simp) _ _ _
@[simp] theorem takeOverdue_pins (s : State) : (takeOverdue s).pins = s.pins := by
  simp only [takeOverdue, dropWaiting_pins]; exact runFree_proj State.pins (fun _ _ => rfl) (fun t s => by simp) _ _ _
@[simp] theorem takeOverdue_pending (s : State) : (takeOverdue s).pending = s.pending := by
  simp only [takeOverdue, dropWaiting_pending]; exact runFree_proj State.pending (fun _ _ => rfl) (fun t s => by simp) _ _ _

/-! ### planning (R46) -/

@[simp] theorem planFirings_shaft (s : State) : (planFirings s).shaft = s.shaft := by
  simp only [planFirings, planFeed_shaft]; exact foldl_proj State.shaft (fun s x => by simp; split <;> simp) _ _
@[simp] theorem planFirings_geometry (s : State) : (planFirings s).geometry = s.geometry := by
  simp only [planFirings, planFeed_geometry]; exact foldl_proj State.geometry (fun s x => by simp; split <;> simp) _ _
@[simp] theorem planFirings_chain (s : State) : (planFirings s).chain = s.chain := by
  simp only [planFirings, planFeed_chain]; exact foldl_proj State.chain (fun s x => by simp; split <;> simp) _ _
@[simp] theorem planFirings_registration (s : State) : (planFirings s).registration = s.registration := by
  simp only [planFirings, planFeed_registration]; exact foldl_proj State.registration (fun s x => by simp; split <;> simp) _ _
@[simp] theorem planFirings_gumFold (s : State) : (planFirings s).gumFold = s.gumFold := by
  simp only [planFirings, planFeed_gumFold]; exact foldl_proj State.gumFold (fun s x => by simp; split <;> simp) _ _
@[simp] theorem planFirings_verdicts (s : State) : (planFirings s).verdicts = s.verdicts := by
  simp only [planFirings, planFeed_verdicts]; exact foldl_proj State.verdicts (fun s x => by simp; split <;> simp) _ _
@[simp] theorem planFirings_batch (s : State) : (planFirings s).batch = s.batch := by
  simp only [planFirings, planFeed_batch]; exact foldl_proj State.batch (fun s x => by simp; split <;> simp) _ _
@[simp] theorem planFirings_banks (s : State) : (planFirings s).banks = s.banks := by
  simp only [planFirings, planFeed_banks]; exact foldl_proj State.banks (fun s x => by simp; split <;> simp) _ _
@[simp] theorem planFirings_line (s : State) : (planFirings s).line = s.line := by
  simp only [planFirings, planFeed_line]; exact foldl_proj State.line (fun s x => by simp; split <;> simp) _ _
@[simp] theorem planFirings_ports (s : State) : (planFirings s).ports = s.ports := by
  simp only [planFirings, planFeed_ports]; exact foldl_proj State.ports (fun s x => by simp; split <;> simp) _ _
@[simp] theorem planFirings_sensors (s : State) : (planFirings s).sensors = s.sensors := by
  simp only [planFirings, planFeed_sensors]; exact foldl_proj State.sensors (fun s x => by simp; split <;> simp) _ _
@[simp] theorem planFirings_pins (s : State) : (planFirings s).pins = s.pins := by
  simp only [planFirings, planFeed_pins]; exact foldl_proj State.pins (fun s x => by simp; split <;> simp) _ _
@[simp] theorem planFirings_choices (s : State) : (planFirings s).choices = s.choices := by
  simp only [planFirings, planFeed_choices]; exact foldl_proj State.choices (fun s x => by simp; split <;> simp) _ _
@[simp] theorem planFirings_pending (s : State) : (planFirings s).pending = s.pending := by
  simp only [planFirings, planFeed_pending]; exact foldl_proj State.pending (fun s x => by simp; split <;> simp) _ _

/-! ### step 3 of a boundary (R45) -/

@[simp] theorem planningStep_shaft (s : State) : (planningStep s).shaft = s.shaft := by
  unfold planningStep; (repeat' split) <;> simp
@[simp] theorem planningStep_geometry (s : State) : (planningStep s).geometry = s.geometry := by
  unfold planningStep; (repeat' split) <;> simp
@[simp] theorem planningStep_chain (s : State) : (planningStep s).chain = s.chain := by
  unfold planningStep; (repeat' split) <;> simp
@[simp] theorem planningStep_registration (s : State) : (planningStep s).registration = s.registration := by
  unfold planningStep; (repeat' split) <;> simp
@[simp] theorem planningStep_gumFold (s : State) : (planningStep s).gumFold = s.gumFold := by
  unfold planningStep; (repeat' split) <;> simp
@[simp] theorem planningStep_verdicts (s : State) : (planningStep s).verdicts = s.verdicts := by
  unfold planningStep; (repeat' split) <;> simp
@[simp] theorem planningStep_batch (s : State) : (planningStep s).batch = s.batch := by
  unfold planningStep; (repeat' split) <;> simp
@[simp] theorem planningStep_banks (s : State) : (planningStep s).banks = s.banks := by
  unfold planningStep; (repeat' split) <;> simp
@[simp] theorem planningStep_line (s : State) : (planningStep s).line = s.line := by
  unfold planningStep; (repeat' split) <;> simp
@[simp] theorem planningStep_ports (s : State) : (planningStep s).ports = s.ports := by
  unfold planningStep; (repeat' split) <;> simp
@[simp] theorem planningStep_sensors (s : State) : (planningStep s).sensors = s.sensors := by
  unfold planningStep; (repeat' split) <;> simp
@[simp] theorem planningStep_pins (s : State) : (planningStep s).pins = s.pins := by
  unfold planningStep; (repeat' split) <;> simp
@[simp] theorem planningStep_choices (s : State) : (planningStep s).choices = s.choices := by
  unfold planningStep; (repeat' split) <;> simp
@[simp] theorem planningStep_pending (s : State) : (planningStep s).pending = s.pending := by
  unfold planningStep; (repeat' split) <;> simp

/-! ### the Firing Unit at a boundary (R45) -/

@[simp] theorem firingBoundary_shaft (t : Nat) (v : Bool) (s : State) : (firingBoundary t v s).shaft = s.shaft := by
  simp only [firingBoundary]; refine (runAll_proj State.shaft (fun _ _ => rfl) (fun t s => by simp) _ _).trans (by simp)
@[simp] theorem firingBoundary_geometry (t : Nat) (v : Bool) (s : State) : (firingBoundary t v s).geometry = s.geometry := by
  simp only [firingBoundary]; refine (runAll_proj State.geometry (fun _ _ => rfl) (fun t s => by simp) _ _).trans (by simp)
@[simp] theorem firingBoundary_registration (t : Nat) (v : Bool) (s : State) : (firingBoundary t v s).registration = s.registration := by
  simp only [firingBoundary]; refine (runAll_proj State.registration (fun _ _ => rfl) (fun t s => by simp) _ _).trans (by simp)
@[simp] theorem firingBoundary_batch (t : Nat) (v : Bool) (s : State) : (firingBoundary t v s).batch = s.batch := by
  simp only [firingBoundary]; refine (runAll_proj State.batch (fun _ _ => rfl) (fun t s => by simp) _ _).trans (by simp)
@[simp] theorem firingBoundary_banks (t : Nat) (v : Bool) (s : State) : (firingBoundary t v s).banks = s.banks := by
  simp only [firingBoundary]; refine (runAll_proj State.banks (fun _ _ => rfl) (fun t s => by simp) _ _).trans (by simp)
@[simp] theorem firingBoundary_line (t : Nat) (v : Bool) (s : State) : (firingBoundary t v s).line = s.line := by
  simp only [firingBoundary]; refine (runAll_proj State.line (fun _ _ => rfl) (fun t s => by simp) _ _).trans (by simp)
@[simp] theorem firingBoundary_sensors (t : Nat) (v : Bool) (s : State) : (firingBoundary t v s).sensors = s.sensors := by
  simp only [firingBoundary]; refine (runAll_proj State.sensors (fun _ _ => rfl) (fun t s => by simp) _ _).trans (by simp)
@[simp] theorem firingBoundary_pins (t : Nat) (v : Bool) (s : State) : (firingBoundary t v s).pins = s.pins := by
  simp only [firingBoundary]; refine (runAll_proj State.pins (fun _ _ => rfl) (fun t s => by simp) _ _).trans (by simp)
@[simp] theorem firingBoundary_pending (t : Nat) (v : Bool) (s : State) : (firingBoundary t v s).pending = s.pending := by
  simp only [firingBoundary]; refine (runAll_proj State.pending (fun _ _ => rfl) (fun t s => by simp) _ _).trans (by simp)

/-! ### a unit's work at a crossing -/

@[simp] theorem doCrossing_shaft (v : Bool) (p : Nat) (t : CrossingTask) (s : State) : (doCrossing v p t s).shaft = s.shaft := by
  cases t <;> simp [doCrossing]
@[simp] theorem doCrossing_geometry (v : Bool) (p : Nat) (t : CrossingTask) (s : State) : (doCrossing v p t s).geometry = s.geometry := by
  cases t <;> simp [doCrossing]
@[simp] theorem doCrossing_banks (v : Bool) (p : Nat) (t : CrossingTask) (s : State) : (doCrossing v p t s).banks = s.banks := by
  cases t <;> simp [doCrossing]
@[simp] theorem doCrossing_sensors (v : Bool) (p : Nat) (t : CrossingTask) (s : State) : (doCrossing v p t s).sensors = s.sensors := by
  cases t <;> simp [doCrossing]
@[simp] theorem doCrossing_pins (v : Bool) (p : Nat) (t : CrossingTask) (s : State) : (doCrossing v p t s).pins = s.pins := by
  cases t <;> simp [doCrossing]
@[simp] theorem doCrossing_pending (v : Bool) (p : Nat) (t : CrossingTask) (s : State) : (doCrossing v p t s).pending = s.pending := by
  cases t <;> simp [doCrossing]

@[simp] theorem doCrossing_line_state (v : Bool) (p : Nat) (t : CrossingTask) (s : State) :
    (doCrossing v p t s).line.state = s.line.state := by
  cases t <;> simp [doCrossing]
@[simp] theorem crossing_shaft (v : Bool) (p : Nat) (s : State) : (crossing v s p).shaft = s.shaft :=
  runAll_proj State.shaft (fun _ _ => rfl) (fun t s => by simp) _ _
@[simp] theorem crossing_geometry (v : Bool) (p : Nat) (s : State) : (crossing v s p).geometry = s.geometry :=
  runAll_proj State.geometry (fun _ _ => rfl) (fun t s => by simp) _ _
@[simp] theorem crossing_banks (v : Bool) (p : Nat) (s : State) : (crossing v s p).banks = s.banks :=
  runAll_proj State.banks (fun _ _ => rfl) (fun t s => by simp) _ _
@[simp] theorem crossing_sensors (v : Bool) (p : Nat) (s : State) : (crossing v s p).sensors = s.sensors :=
  runAll_proj State.sensors (fun _ _ => rfl) (fun t s => by simp) _ _
@[simp] theorem crossing_pins (v : Bool) (p : Nat) (s : State) : (crossing v s p).pins = s.pins :=
  runAll_proj State.pins (fun _ _ => rfl) (fun t s => by simp) _ _
@[simp] theorem crossing_pending (v : Bool) (p : Nat) (s : State) : (crossing v s p).pending = s.pending :=
  runAll_proj State.pending (fun _ _ => rfl) (fun t s => by simp) _ _
@[simp] theorem crossing_line_state (v : Bool) (p : Nat) (s : State) : (crossing v s p).line.state = s.line.state :=
  runAll_proj (fun s => s.line.state) (fun _ _ => rfl) (fun t s => by simp) _ _
@[simp] theorem crossings_shaft (v : Bool) (lo hi : Nat) (s : State) : (crossings v lo hi s).shaft = s.shaft :=
  foldl_proj State.shaft (fun s x => by simp) _ _
@[simp] theorem crossings_geometry (v : Bool) (lo hi : Nat) (s : State) : (crossings v lo hi s).geometry = s.geometry :=
  foldl_proj State.geometry (fun s x => by simp) _ _
@[simp] theorem crossings_banks (v : Bool) (lo hi : Nat) (s : State) : (crossings v lo hi s).banks = s.banks :=
  foldl_proj State.banks (fun s x => by simp) _ _
@[simp] theorem crossings_sensors (v : Bool) (lo hi : Nat) (s : State) : (crossings v lo hi s).sensors = s.sensors :=
  foldl_proj State.sensors (fun s x => by simp) _ _
@[simp] theorem crossings_pins (v : Bool) (lo hi : Nat) (s : State) : (crossings v lo hi s).pins = s.pins :=
  foldl_proj State.pins (fun s x => by simp) _ _
@[simp] theorem crossings_pending (v : Bool) (lo hi : Nat) (s : State) : (crossings v lo hi s).pending = s.pending :=
  foldl_proj State.pending (fun s x => by simp) _ _
@[simp] theorem crossings_line_state (v : Bool) (lo hi : Nat) (s : State) :
    (crossings v lo hi s).line.state = s.line.state :=
  foldl_proj (fun s => s.line.state) (fun s x => by simp) _ _

/-! ### A forward pitch boundary (R7) -/

@[simp] theorem doBoundary_geometry (n : Nat) (w v : Bool) (t : BoundaryTask) (s : State) :
    (doBoundary n w v t s).2.geometry = s.geometry := by
  cases t <;> simp [doBoundary]
@[simp] theorem doBoundary_sensors (n : Nat) (w v : Bool) (t : BoundaryTask) (s : State) :
    (doBoundary n w v t s).2.sensors = s.sensors := by
  cases t <;> simp [doBoundary]
@[simp] theorem doBoundary_pins (n : Nat) (w v : Bool) (t : BoundaryTask) (s : State) :
    (doBoundary n w v t s).2.pins = s.pins := by
  cases t <;> simp [doBoundary]
@[simp] theorem doBoundary_pending (n : Nat) (w v : Bool) (t : BoundaryTask) (s : State) :
    (doBoundary n w v t s).2.pending = s.pending := by
  cases t <;> simp [doBoundary]
@[simp] theorem pitchBoundary_geometry (v : Bool) (s : State) : (pitchBoundary v s).geometry = s.geometry :=
  (runFree_proj State.geometry (fun _ _ => rfl) (fun t s => by simp) _ _ _).trans (by simp)
@[simp] theorem pitchBoundary_sensors (v : Bool) (s : State) : (pitchBoundary v s).sensors = s.sensors :=
  (runFree_proj State.sensors (fun _ _ => rfl) (fun t s => by simp) _ _ _).trans (by simp)
@[simp] theorem pitchBoundary_pins (v : Bool) (s : State) : (pitchBoundary v s).pins = s.pins :=
  (runFree_proj State.pins (fun _ _ => rfl) (fun t s => by simp) _ _ _).trans (by simp)
@[simp] theorem pitchBoundary_pending (v : Bool) (s : State) : (pitchBoundary v s).pending = s.pending :=
  (runFree_proj State.pending (fun _ _ => rfl) (fun t s => by simp) _ _ _).trans (by simp)

/-! ### a count change within the pitch (R5, R6) -/

@[simp] theorem advanceCount_geometry (v : Bool) (c : Nat) (s : State) : (advanceCount v c s).geometry = s.geometry := by
  simp only [advanceCount]; split <;> simp
@[simp] theorem advanceCount_sensors (v : Bool) (c : Nat) (s : State) : (advanceCount v c s).sensors = s.sensors := by
  simp only [advanceCount]; split <;> simp
@[simp] theorem advanceCount_pins (v : Bool) (c : Nat) (s : State) : (advanceCount v c s).pins = s.pins := by
  simp only [advanceCount]; split <;> simp
@[simp] theorem advanceCount_pending (v : Bool) (c : Nat) (s : State) : (advanceCount v c s).pending = s.pending := by
  simp only [advanceCount]; split <;> simp

/-! ### a forward wrap (R3) -/

@[simp] theorem forwardWrap_geometry (v : Bool) (s : State) : (forwardWrap v s).geometry = s.geometry := by
  simp only [forwardWrap]; split <;> simp
@[simp] theorem forwardWrap_sensors (v : Bool) (s : State) : (forwardWrap v s).sensors = s.sensors := by
  simp only [forwardWrap]; split <;> simp
@[simp] theorem forwardWrap_pins (v : Bool) (s : State) : (forwardWrap v s).pins = s.pins := by
  simp only [forwardWrap]; split <;> simp
@[simp] theorem forwardWrap_pending (v : Bool) (s : State) : (forwardWrap v s).pending = s.pending := by
  simp only [forwardWrap]; split <;> simp

/-! ### a forward count step (R3) -/

@[simp] theorem forwardCount_geometry (v : Bool) (s : State) : (forwardCount v s).geometry = s.geometry := by
  unfold forwardCount; (repeat' split) <;> simp
@[simp] theorem forwardCount_sensors (v : Bool) (s : State) : (forwardCount v s).sensors = s.sensors := by
  unfold forwardCount; (repeat' split) <;> simp
@[simp] theorem forwardCount_pins (v : Bool) (s : State) : (forwardCount v s).pins = s.pins := by
  unfold forwardCount; (repeat' split) <;> simp
@[simp] theorem forwardCount_pending (v : Bool) (s : State) : (forwardCount v s).pending = s.pending := by
  unfold forwardCount; (repeat' split) <;> simp

/-! ### the reverse debt (R4) -/

@[simp] theorem addDebt_geometry (s : State) : (addDebt s).geometry = s.geometry := by
  unfold addDebt; (repeat' split) <;> simp
@[simp] theorem addDebt_sensors (s : State) : (addDebt s).sensors = s.sensors := by
  unfold addDebt; (repeat' split) <;> simp
@[simp] theorem addDebt_pins (s : State) : (addDebt s).pins = s.pins := by
  unfold addDebt; (repeat' split) <;> simp
@[simp] theorem addDebt_pending (s : State) : (addDebt s).pending = s.pending := by
  unfold addDebt; (repeat' split) <;> simp

/-! ### a backward wrap (R4) -/

@[simp] theorem backwardWrap_geometry (s : State) : (backwardWrap s).geometry = s.geometry := by
  simp [backwardWrap]
@[simp] theorem backwardWrap_sensors (s : State) : (backwardWrap s).sensors = s.sensors := by
  simp [backwardWrap]
@[simp] theorem backwardWrap_pins (s : State) : (backwardWrap s).pins = s.pins := by
  simp [backwardWrap]
@[simp] theorem backwardWrap_pending (s : State) : (backwardWrap s).pending = s.pending := by
  simp [backwardWrap]

/-! ### REVERSE (R11) -/

@[simp] theorem raiseReverse_geometry (s : State) : (raiseReverse s).geometry = s.geometry := by
  unfold raiseReverse; (repeat' split) <;> simp
@[simp] theorem raiseReverse_sensors (s : State) : (raiseReverse s).sensors = s.sensors := by
  unfold raiseReverse; (repeat' split) <;> simp
@[simp] theorem raiseReverse_pins (s : State) : (raiseReverse s).pins = s.pins := by
  unfold raiseReverse; (repeat' split) <;> simp
@[simp] theorem raiseReverse_pending (s : State) : (raiseReverse s).pending = s.pending := by
  unfold raiseReverse; (repeat' split) <;> simp

/-! ### a backward count step (R4, R11) -/

@[simp] theorem backwardCount_geometry (s : State) : (backwardCount s).geometry = s.geometry := by
  simp only [backwardCount]; (repeat' split) <;> simp
@[simp] theorem backwardCount_sensors (s : State) : (backwardCount s).sensors = s.sensors := by
  simp only [backwardCount]; (repeat' split) <;> simp
@[simp] theorem backwardCount_pins (s : State) : (backwardCount s).pins = s.pins := by
  simp only [backwardCount]; (repeat' split) <;> simp
@[simp] theorem backwardCount_pending (s : State) : (backwardCount s).pending = s.pending := by
  simp only [backwardCount]; (repeat' split) <;> simp

/-! ### the mismatch run (R13) -/

@[simp] theorem checkMismatch_geometry (d : Int) (s : State) : (checkMismatch d s).geometry = s.geometry := by
  unfold checkMismatch; (repeat' split) <;> simp
@[simp] theorem checkMismatch_sensors (d : Int) (s : State) : (checkMismatch d s).sensors = s.sensors := by
  unfold checkMismatch; (repeat' split) <;> simp
@[simp] theorem checkMismatch_pins (d : Int) (s : State) : (checkMismatch d s).pins = s.pins := by
  unfold checkMismatch; (repeat' split) <;> simp
@[simp] theorem checkMismatch_pending (d : Int) (s : State) : (checkMismatch d s).pending = s.pending := by
  unfold checkMismatch; (repeat' split) <;> simp

/-! ### a realignment across the wrap (R14) -/

@[simp] theorem realignAcross_geometry (v : Bool) (s : State) : (realignAcross v s).geometry = s.geometry := by
  simp [realignAcross]
@[simp] theorem realignAcross_sensors (v : Bool) (s : State) : (realignAcross v s).sensors = s.sensors := by
  simp [realignAcross]
@[simp] theorem realignAcross_pins (v : Bool) (s : State) : (realignAcross v s).pins = s.pins := by
  simp [realignAcross]
@[simp] theorem realignAcross_pending (v : Bool) (s : State) : (realignAcross v s).pending = s.pending := by
  simp [realignAcross]

/-! ### a realignment (R14) -/

@[simp] theorem realign_geometry (v : Bool) (d : Int) (s : State) : (realign v d s).geometry = s.geometry := by
  unfold realign; (repeat' split) <;> simp
@[simp] theorem realign_sensors (v : Bool) (d : Int) (s : State) : (realign v d s).sensors = s.sensors := by
  unfold realign; (repeat' split) <;> simp
@[simp] theorem realign_pins (v : Bool) (d : Int) (s : State) : (realign v d s).pins = s.pins := by
  unfold realign; (repeat' split) <;> simp
@[simp] theorem realign_pending (v : Bool) (d : Int) (s : State) : (realign v d s).pending = s.pending := by
  unfold realign; (repeat' split) <;> simp

/-! ### an index edge (R12 to R14) -/

@[simp] theorem indexEdge_geometry (v : Bool) (s : State) : (indexEdge v s).geometry = s.geometry := by
  simp only [indexEdge]; split <;> simp
@[simp] theorem indexEdge_sensors (v : Bool) (s : State) : (indexEdge v s).sensors = s.sensors := by
  simp only [indexEdge]; split <;> simp
@[simp] theorem indexEdge_pins (v : Bool) (s : State) : (indexEdge v s).pins = s.pins := by
  simp only [indexEdge]; split <;> simp
@[simp] theorem indexEdge_pending (v : Bool) (s : State) : (indexEdge v s).pending = s.pending := by
  simp only [indexEdge]; split <;> simp

end Sys2Proof.Machine
end

