-- ==== Sys2Proof/Laws/Places.lean ====
section
/-! SUPPORT. The places of the records: every operation but those of the chain at a boundary (R26) and of a line reset (R36)
leaves each record's seq, bank and position, and the counters, as they were. -/

namespace Sys2Proof.Machine

/-- What only the chain's own operations change of a record. -/
def Record.place (r : Record) : Seq × BankId × Nat := (r.seq, r.bank, r.position)

/-- What only the chain's own operations change of the chain. -/
def Chain.places (c : Chain) : List (Seq × BankId × Nat) × Seq × Counter × Counter × Counter × Counter :=
  (c.records.map Record.place, c.nextSeq, c.fed, c.good, c.rejected, c.purged)

/-- Records rewritten in place keep the places. -/
theorem places_map (f : Record → Record) (c : Chain) (h : ∀ r, (f r).place = r.place) :
    ({ c with records := c.records.map f } : Chain).places = c.places := by
  simp [Chain.places, Function.comp_def, h]

theorem updateRecord_places (q : Seq) (f : Record → Record) (s : State) (h : ∀ r, (f r).place = r.place) :
    (updateRecord q f s).chain.places = s.chain.places :=
  places_map _ s.chain (fun r => by split <;> simp [h])

theorem decideRecord_place (st : LineState) (v : Bool) (r : Record) : (decideRecord st v r).place = r.place := by
  unfold decideRecord Record.addReason Record.place
  (repeat' split) <;> rfl

@[simp] theorem addReason_places (q : Seq) (e : Reason) (s : State) : (addReason q e s).chain.places = s.chain.places := by
  refine updateRecord_places q _ s (fun r => ?_); unfold Record.addReason; split <;> simp [Record.place]

@[simp] theorem setPatched_places (q : Seq) (w : Work) (s : State) : (setPatched q w s).chain.places = s.chain.places := by
  exact updateRecord_places q _ s (fun r => rfl)

@[simp] theorem setGummed_places (q : Seq) (w : Work) (s : State) : (setGummed q w s).chain.places = s.chain.places := by
  simp only [setGummed, forgetGum_chain]; exact updateRecord_places q _ s (fun r => rfl)

@[simp] theorem markZone_places (s : State) : (markZone s).chain.places = s.chain.places := by
  refine places_map _ s.chain (fun r => ?_); split <;> simp [Record.addReason] <;> split <;> simp [Record.place]

@[simp] theorem enterHalt_places (c : HaltCause) (l : Option Link) (s : State) : (enterHalt c l s).chain.places = s.chain.places := by
  unfold enterHalt; (repeat' split) <;> simp

@[simp] theorem raiseCause_places (c : HaltCause) (l : Option Link) (s : State) : (raiseCause c l s).chain.places = s.chain.places := by
  unfold raiseCause; (repeat' split) <;> simp

@[simp] theorem examineLevels_places (s : State) : (examineLevels s).chain.places = s.chain.places := by
  exact runAll_proj (fun s => s.chain.places) (fun _ _ => rfl) (fun t s => by simp) _ _

@[simp] theorem completeDrain_places (s : State) : (completeDrain s).chain.places = s.chain.places := by
  simp only [completeDrain]; split <;> simp

@[simp] theorem chainEmptyNotice_places (s : State) : (chainEmptyNotice s).chain.places = s.chain.places := by
  unfold chainEmptyNotice; (repeat' split) <;> simp

@[simp] theorem noteMissingMark_places (q : Seq) (s : State) : (noteMissingMark q s).chain.places = s.chain.places := by
  unfold noteMissingMark; (repeat' split) <;> simp

@[simp] theorem noteMissingPatch_places (q : Seq) (s : State) : (noteMissingPatch q s).chain.places = s.chain.places := by
  unfold noteMissingPatch; (repeat' split) <;> simp

@[simp] theorem settleMark_places (s : State) : (settleMark s).chain.places = s.chain.places := by
  unfold settleMark; (repeat' split) <;> simp

@[simp] theorem settlePatch_places (s : State) : (settlePatch s).chain.places = s.chain.places := by
  unfold settlePatch; (repeat' split) <;> simp

@[simp] theorem markCrossing_places (p : Nat) (s : State) : (markCrossing p s).chain.places = s.chain.places := by
  unfold markCrossing; (repeat' split) <;> simp

@[simp] theorem patchCrossing_places (p : Nat) (s : State) : (patchCrossing p s).chain.places = s.chain.places := by
  unfold patchCrossing; (repeat' split) <;> simp

@[simp] theorem registrationBoundary_places (s : State) : (registrationBoundary s).chain.places = s.chain.places := by
  simp [registrationBoundary]

@[simp] theorem acceptMeasurement_places (q : Seq) (f : BankFields) (e : Int) (s : State) : (acceptMeasurement q f e s).chain.places = s.chain.places := by
  simp only [acceptMeasurement, checkDrift_chain]; exact updateRecord_places q _ s (fun r => rfl)

@[simp] theorem refuseMeasurement_places (q : Seq) (e : Int) (s : State) : (refuseMeasurement q e s).chain.places = s.chain.places := by
  simp only [refuseMeasurement, addReason_places]; exact updateRecord_places q _ s (fun r => rfl)

@[simp] theorem measure_places (q : Seq) (s : State) : (measure q s).chain.places = s.chain.places := by
  simp only [measure]; (repeat' split) <;> simp

@[simp] theorem capture_places (q : Seq) (s : State) : (capture q s).chain.places = s.chain.places := by
  simp [capture]

@[simp] theorem markEdge_places (s : State) : (markEdge s).chain.places = s.chain.places := by
  unfold markEdge; (repeat' split) <;> simp

@[simp] theorem gumProgress_places (ch : Channel) (r : Record) (s : State) : (gumProgress ch r s).chain.places = s.chain.places := by
  unfold gumProgress; (repeat' split) <;> simp

@[simp] theorem noteMissingFold_places (q : Seq) (s : State) : (noteMissingFold q s).chain.places = s.chain.places := by
  unfold noteMissingFold; (repeat' split) <;> simp

@[simp] theorem settleFold_places (s : State) : (settleFold s).chain.places = s.chain.places := by
  unfold settleFold; (repeat' split) <;> simp

@[simp] theorem closeFold_places (s : State) : (closeFold s).chain.places = s.chain.places := by
  simp [closeFold]

@[simp] theorem foldCrossing_places (v : Bool) (p : Nat) (s : State) : (foldCrossing v p s).chain.places = s.chain.places := by
  unfold foldCrossing; (repeat' split) <;> simp

@[simp] theorem gumFoldBoundary_places (v : Bool) (s : State) : (gumFoldBoundary v s).chain.places = s.chain.places := by
  simp [gumFoldBoundary]

@[simp] theorem gateDecision_places (r : Record) (s : State) : (gateDecision r s).chain.places = s.chain.places := by
  simp only [gateDecision]; split <;> simp <;> exact updateRecord_places _ _ s (fun r => decideRecord_place _ _ r)

@[simp] theorem gateCrossing_places (p : Nat) (s : State) : (gateCrossing p s).chain.places = s.chain.places := by
  unfold gateCrossing; (repeat' split) <;> simp

@[simp] theorem countInto_places (r : Record) (s : State) : (countInto r s).chain.places = s.chain.places := by
  exact updateRecord_places _ _ _ (fun r => rfl)

@[simp] theorem countEvent_places (r : Record) (s : State) : (countEvent r s).chain.places = s.chain.places := by
  simp only [countEvent]; split <;> simp

@[simp] theorem countCrossing_places (p : Nat) (s : State) : (countCrossing p s).chain.places = s.chain.places := by
  unfold countCrossing; (repeat' split) <;> simp

@[simp] theorem batchBoundary_places (s : State) : (batchBoundary s).chain.places = s.chain.places := by
  simp [batchBoundary]

@[simp] theorem patchEdge_places (ch : Channel) (r : Record) (s : State) : (patchEdge ch r s).chain.places = s.chain.places := by
  unfold patchEdge; (repeat' split) <;> simp

@[simp] theorem gumEdge_places (ch : Channel) (r : Record) (s : State) : (gumEdge ch r s).chain.places = s.chain.places := by
  unfold gumEdge; (repeat' split) <;> simp

@[simp] theorem cameraEdge_places (r : Record) (s : State) : (cameraEdge r s).chain.places = s.chain.places := by
  unfold cameraEdge; split <;> simp; exact updateRecord_places _ _ s (fun r => rfl)

@[simp] theorem onEdge_places (ch : Channel) (q : Seq) (s : State) : (onEdge ch q s).chain.places = s.chain.places := by
  unfold onEdge; (repeat' split) <;> simp

@[simp] theorem takeEdge_places (e : Edge) (s : State) : (takeEdge e s).chain.places = s.chain.places := by
  unfold takeEdge; (repeat' split) <;> simp

@[simp] theorem takeOverdue_places (s : State) : (takeOverdue s).chain.places = s.chain.places := by
  simp only [takeOverdue, dropWaiting_chain]; exact runFree_proj (fun s => s.chain.places) (fun _ _ => rfl) (fun t s => by simp) _ _ _

@[simp] theorem firingBoundary_places (t : Nat) (v : Bool) (s : State) : (firingBoundary t v s).chain.places = s.chain.places := by
  simp only [firingBoundary]; refine (runAll_proj (fun s => s.chain.places) (fun _ _ => rfl) (fun t s => by simp) _ _).trans (by simp)

@[simp] theorem doCrossing_places (v : Bool) (p : Nat) (t : CrossingTask) (s : State) : (doCrossing v p t s).chain.places = s.chain.places := by
  cases t <;> simp [doCrossing]

@[simp] theorem crossing_places (v : Bool) (p : Nat) (s : State) : (crossing v s p).chain.places = s.chain.places :=
  runAll_proj (fun s => s.chain.places) (fun _ _ => rfl) (fun t s => by simp) _ _

@[simp] theorem crossings_places (v : Bool) (lo hi : Nat) (s : State) :
    (crossings v lo hi s).chain.places = s.chain.places :=
  foldl_proj (fun s => s.chain.places) (fun s x => by simp) _ _

@[simp] theorem addDebt_places (s : State) : (addDebt s).chain.places = s.chain.places := by
  unfold addDebt; (repeat' split) <;> simp

@[simp] theorem backwardWrap_places (s : State) : (backwardWrap s).chain.places = s.chain.places := by
  simp [backwardWrap]

@[simp] theorem raiseReverse_places (s : State) : (raiseReverse s).chain.places = s.chain.places := by
  unfold raiseReverse; (repeat' split) <;> simp

@[simp] theorem backwardCount_places (s : State) : (backwardCount s).chain.places = s.chain.places := by
  simp only [backwardCount]; (repeat' split) <;> simp

@[simp] theorem checkMismatch_places (d : Int) (s : State) : (checkMismatch d s).chain.places = s.chain.places := by
  unfold checkMismatch; (repeat' split) <;> simp

@[simp] theorem advanceCount_places (v : Bool) (c : Nat) (s : State) : (advanceCount v c s).chain.places = s.chain.places := by
  simp only [advanceCount]; split <;> simp

end Sys2Proof.Machine
end

