-- ==== Sys2Proof/Laws/Requests.lean ====
section
/-! SUPPORT. What the requests' own operations leave as it was, and that they keep the places of the records. -/

namespace Sys2Proof.Machine

/-! ### a bad argument (R153) -/

@[simp] theorem badArgument_shaft (l : Link) (c : Command) (s : State) : (badArgument l c s).shaft = s.shaft := by
  rfl
@[simp] theorem badArgument_geometry (l : Link) (c : Command) (s : State) : (badArgument l c s).geometry = s.geometry := by
  rfl
@[simp] theorem badArgument_chain (l : Link) (c : Command) (s : State) : (badArgument l c s).chain = s.chain := by
  rfl
@[simp] theorem badArgument_firing (l : Link) (c : Command) (s : State) : (badArgument l c s).firing = s.firing := by
  rfl
@[simp] theorem badArgument_registration (l : Link) (c : Command) (s : State) : (badArgument l c s).registration = s.registration := by
  rfl
@[simp] theorem badArgument_gumFold (l : Link) (c : Command) (s : State) : (badArgument l c s).gumFold = s.gumFold := by
  rfl
@[simp] theorem badArgument_verdicts (l : Link) (c : Command) (s : State) : (badArgument l c s).verdicts = s.verdicts := by
  rfl
@[simp] theorem badArgument_batch (l : Link) (c : Command) (s : State) : (badArgument l c s).batch = s.batch := by
  rfl
@[simp] theorem badArgument_banks (l : Link) (c : Command) (s : State) : (badArgument l c s).banks = s.banks := by
  rfl
@[simp] theorem badArgument_line (l : Link) (c : Command) (s : State) : (badArgument l c s).line = s.line := by
  rfl
@[simp] theorem badArgument_sensors (l : Link) (c : Command) (s : State) : (badArgument l c s).sensors = s.sensors := by
  rfl
@[simp] theorem badArgument_pins (l : Link) (c : Command) (s : State) : (badArgument l c s).pins = s.pins := by
  rfl
@[simp] theorem badArgument_choices (l : Link) (c : Command) (s : State) : (badArgument l c s).choices = s.choices := by
  rfl
@[simp] theorem badArgument_pending (l : Link) (c : Command) (s : State) : (badArgument l c s).pending = s.pending := by
  rfl

/-! ### a new cpp adopted (R2) -/

@[simp] theorem adoptCpp_geometry (s : State) : (adoptCpp s).geometry = s.geometry := by
  unfold adoptCpp; (repeat' split) <;> simp
@[simp] theorem adoptCpp_chain (s : State) : (adoptCpp s).chain = s.chain := by
  unfold adoptCpp; (repeat' split) <;> simp
@[simp] theorem adoptCpp_firing (s : State) : (adoptCpp s).firing = s.firing := by
  unfold adoptCpp; (repeat' split) <;> simp
@[simp] theorem adoptCpp_registration (s : State) : (adoptCpp s).registration = s.registration := by
  unfold adoptCpp; (repeat' split) <;> simp
@[simp] theorem adoptCpp_gumFold (s : State) : (adoptCpp s).gumFold = s.gumFold := by
  unfold adoptCpp; (repeat' split) <;> simp
@[simp] theorem adoptCpp_verdicts (s : State) : (adoptCpp s).verdicts = s.verdicts := by
  unfold adoptCpp; (repeat' split) <;> simp
@[simp] theorem adoptCpp_batch (s : State) : (adoptCpp s).batch = s.batch := by
  unfold adoptCpp; (repeat' split) <;> simp
@[simp] theorem adoptCpp_banks (s : State) : (adoptCpp s).banks = s.banks := by
  unfold adoptCpp; (repeat' split) <;> simp
@[simp] theorem adoptCpp_line (s : State) : (adoptCpp s).line = s.line := by
  unfold adoptCpp; (repeat' split) <;> simp
@[simp] theorem adoptCpp_ports (s : State) : (adoptCpp s).ports = s.ports := by
  unfold adoptCpp; (repeat' split) <;> simp
@[simp] theorem adoptCpp_sensors (s : State) : (adoptCpp s).sensors = s.sensors := by
  unfold adoptCpp; (repeat' split) <;> simp
@[simp] theorem adoptCpp_pins (s : State) : (adoptCpp s).pins = s.pins := by
  unfold adoptCpp; (repeat' split) <;> simp
@[simp] theorem adoptCpp_choices (s : State) : (adoptCpp s).choices = s.choices := by
  unfold adoptCpp; (repeat' split) <;> simp
@[simp] theorem adoptCpp_pending (s : State) : (adoptCpp s).pending = s.pending := by
  unfold adoptCpp; (repeat' split) <;> simp

/-! ### windows and subjects at COMMIT and RELEASE GEOMETRY (R77, R89) -/

@[simp] theorem settleStations_shaft (s : State) : (settleStations s).shaft = s.shaft := by
  simp [settleStations]
@[simp] theorem settleStations_geometry (s : State) : (settleStations s).geometry = s.geometry := by
  simp [settleStations]
@[simp] theorem settleStations_chain (s : State) : (settleStations s).chain = s.chain := by
  simp [settleStations]
@[simp] theorem settleStations_firing (s : State) : (settleStations s).firing = s.firing := by
  simp [settleStations]
@[simp] theorem settleStations_verdicts (s : State) : (settleStations s).verdicts = s.verdicts := by
  simp [settleStations]
@[simp] theorem settleStations_batch (s : State) : (settleStations s).batch = s.batch := by
  simp [settleStations]
@[simp] theorem settleStations_banks (s : State) : (settleStations s).banks = s.banks := by
  simp [settleStations]
@[simp] theorem settleStations_line (s : State) : (settleStations s).line = s.line := by
  simp [settleStations]
@[simp] theorem settleStations_ports (s : State) : (settleStations s).ports = s.ports := by
  simp [settleStations]
@[simp] theorem settleStations_sensors (s : State) : (settleStations s).sensors = s.sensors := by
  simp [settleStations]
@[simp] theorem settleStations_pins (s : State) : (settleStations s).pins = s.pins := by
  simp [settleStations]
@[simp] theorem settleStations_choices (s : State) : (settleStations s).choices = s.choices := by
  simp [settleStations]
@[simp] theorem settleStations_pending (s : State) : (settleStations s).pending = s.pending := by
  simp [settleStations]

/-! ### COMMIT GEOMETRY (R136) -/

@[simp] theorem commitGeometry_geometry (s : State) : (commitGeometry s).geometry = s.geometry := by
  simp [commitGeometry]
@[simp] theorem commitGeometry_verdicts (s : State) : (commitGeometry s).verdicts = s.verdicts := by
  simp [commitGeometry]
@[simp] theorem commitGeometry_batch (s : State) : (commitGeometry s).batch = s.batch := by
  simp [commitGeometry]
@[simp] theorem commitGeometry_banks (s : State) : (commitGeometry s).banks = s.banks := by
  simp [commitGeometry]
@[simp] theorem commitGeometry_sensors (s : State) : (commitGeometry s).sensors = s.sensors := by
  simp [commitGeometry]
@[simp] theorem commitGeometry_pins (s : State) : (commitGeometry s).pins = s.pins := by
  simp [commitGeometry]
@[simp] theorem commitGeometry_pending (s : State) : (commitGeometry s).pending = s.pending := by
  simp [commitGeometry]
@[simp] theorem commitGeometry_places (s : State) : (commitGeometry s).chain.places = s.chain.places := by
  simp [commitGeometry]

/-! ### RELEASE GEOMETRY (R137) -/

@[simp] theorem releaseGeometry_geometry (s : State) : (releaseGeometry s).geometry = s.geometry := by
  simp [releaseGeometry]
@[simp] theorem releaseGeometry_chain (s : State) : (releaseGeometry s).chain = s.chain := by
  simp [releaseGeometry]
@[simp] theorem releaseGeometry_firing (s : State) : (releaseGeometry s).firing = s.firing := by
  simp [releaseGeometry]
@[simp] theorem releaseGeometry_verdicts (s : State) : (releaseGeometry s).verdicts = s.verdicts := by
  simp [releaseGeometry]
@[simp] theorem releaseGeometry_batch (s : State) : (releaseGeometry s).batch = s.batch := by
  simp [releaseGeometry]
@[simp] theorem releaseGeometry_banks (s : State) : (releaseGeometry s).banks = s.banks := by
  simp [releaseGeometry]
@[simp] theorem releaseGeometry_ports (s : State) : (releaseGeometry s).ports = s.ports := by
  simp [releaseGeometry]
@[simp] theorem releaseGeometry_sensors (s : State) : (releaseGeometry s).sensors = s.sensors := by
  simp [releaseGeometry]
@[simp] theorem releaseGeometry_pins (s : State) : (releaseGeometry s).pins = s.pins := by
  simp [releaseGeometry]
@[simp] theorem releaseGeometry_choices (s : State) : (releaseGeometry s).choices = s.choices := by
  simp [releaseGeometry]
@[simp] theorem releaseGeometry_pending (s : State) : (releaseGeometry s).pending = s.pending := by
  simp [releaseGeometry]

/-! ### START (R138) -/

@[simp] theorem startLine_geometry (s : State) : (startLine s).geometry = s.geometry := by
  simp only [startLine]; split <;> simp
@[simp] theorem startLine_chain (s : State) : (startLine s).chain = s.chain := by
  simp only [startLine]; split <;> simp
@[simp] theorem startLine_registration (s : State) : (startLine s).registration = s.registration := by
  simp only [startLine]; split <;> simp
@[simp] theorem startLine_gumFold (s : State) : (startLine s).gumFold = s.gumFold := by
  simp only [startLine]; split <;> simp
@[simp] theorem startLine_verdicts (s : State) : (startLine s).verdicts = s.verdicts := by
  simp only [startLine]; split <;> simp
@[simp] theorem startLine_batch (s : State) : (startLine s).batch = s.batch := by
  simp only [startLine]; split <;> simp
@[simp] theorem startLine_banks (s : State) : (startLine s).banks = s.banks := by
  simp only [startLine]; split <;> simp
@[simp] theorem startLine_sensors (s : State) : (startLine s).sensors = s.sensors := by
  simp only [startLine]; split <;> simp
@[simp] theorem startLine_pins (s : State) : (startLine s).pins = s.pins := by
  simp only [startLine]; split <;> simp
@[simp] theorem startLine_choices (s : State) : (startLine s).choices = s.choices := by
  simp only [startLine]; split <;> simp
@[simp] theorem startLine_pending (s : State) : (startLine s).pending = s.pending := by
  simp only [startLine]; split <;> simp

/-! ### DRAIN (R139) -/

@[simp] theorem beginDrain_geometry (v : Bool) (s : State) : (beginDrain v s).geometry = s.geometry := by
  simp only [beginDrain]; split <;> simp
@[simp] theorem beginDrain_verdicts (v : Bool) (s : State) : (beginDrain v s).verdicts = s.verdicts := by
  simp only [beginDrain]; split <;> simp
@[simp] theorem beginDrain_sensors (v : Bool) (s : State) : (beginDrain v s).sensors = s.sensors := by
  simp only [beginDrain]; split <;> simp
@[simp] theorem beginDrain_pins (v : Bool) (s : State) : (beginDrain v s).pins = s.pins := by
  simp only [beginDrain]; split <;> simp
@[simp] theorem beginDrain_pending (v : Bool) (s : State) : (beginDrain v s).pending = s.pending := by
  simp only [beginDrain]; split <;> simp
@[simp] theorem beginDrain_places (v : Bool) (s : State) : (beginDrain v s).chain.places = s.chain.places := by
  simp only [beginDrain]; split <;> simp

/-! ### CLEAR HALT (R144) -/

@[simp] theorem clearHalt_shaft (s : State) : (clearHalt s).shaft = s.shaft := by
  simp only [clearHalt]; split <;> simp
@[simp] theorem clearHalt_geometry (s : State) : (clearHalt s).geometry = s.geometry := by
  simp only [clearHalt]; split <;> simp
@[simp] theorem clearHalt_chain (s : State) : (clearHalt s).chain = s.chain := by
  simp only [clearHalt]; split <;> simp
@[simp] theorem clearHalt_firing (s : State) : (clearHalt s).firing = s.firing := by
  simp only [clearHalt]; split <;> simp
@[simp] theorem clearHalt_gumFold (s : State) : (clearHalt s).gumFold = s.gumFold := by
  simp only [clearHalt]; split <;> simp
@[simp] theorem clearHalt_verdicts (s : State) : (clearHalt s).verdicts = s.verdicts := by
  simp only [clearHalt]; split <;> simp
@[simp] theorem clearHalt_sensors (s : State) : (clearHalt s).sensors = s.sensors := by
  simp only [clearHalt]; split <;> simp
@[simp] theorem clearHalt_pins (s : State) : (clearHalt s).pins = s.pins := by
  simp only [clearHalt]; split <;> simp
@[simp] theorem clearHalt_choices (s : State) : (clearHalt s).choices = s.choices := by
  simp only [clearHalt]; split <;> simp
@[simp] theorem clearHalt_pending (s : State) : (clearHalt s).pending = s.pending := by
  simp only [clearHalt]; split <;> simp

/-! ### the Batch Unit at LINE RESET (R119) -/

@[simp] theorem purgeBatch_shaft (s : State) : (purgeBatch s).shaft = s.shaft := by
  simp [purgeBatch]
@[simp] theorem purgeBatch_geometry (s : State) : (purgeBatch s).geometry = s.geometry := by
  simp [purgeBatch]
@[simp] theorem purgeBatch_chain (s : State) : (purgeBatch s).chain = s.chain := by
  simp [purgeBatch]
@[simp] theorem purgeBatch_firing (s : State) : (purgeBatch s).firing = s.firing := by
  simp [purgeBatch]
@[simp] theorem purgeBatch_registration (s : State) : (purgeBatch s).registration = s.registration := by
  simp [purgeBatch]
@[simp] theorem purgeBatch_gumFold (s : State) : (purgeBatch s).gumFold = s.gumFold := by
  simp [purgeBatch]
@[simp] theorem purgeBatch_verdicts (s : State) : (purgeBatch s).verdicts = s.verdicts := by
  simp [purgeBatch]
@[simp] theorem purgeBatch_banks (s : State) : (purgeBatch s).banks = s.banks := by
  simp [purgeBatch]
@[simp] theorem purgeBatch_sensors (s : State) : (purgeBatch s).sensors = s.sensors := by
  simp [purgeBatch]
@[simp] theorem purgeBatch_pins (s : State) : (purgeBatch s).pins = s.pins := by
  simp [purgeBatch]
@[simp] theorem purgeBatch_choices (s : State) : (purgeBatch s).choices = s.choices := by
  simp [purgeBatch]
@[simp] theorem purgeBatch_pending (s : State) : (purgeBatch s).pending = s.pending := by
  simp [purgeBatch]

/-! ### LINE RESET (R149) -/

@[simp] theorem lineReset_geometry (s : State) : (lineReset s).geometry = s.geometry := by
  simp [lineReset]
@[simp] theorem lineReset_sensors (s : State) : (lineReset s).sensors = s.sensors := by
  simp [lineReset]
@[simp] theorem lineReset_pins (s : State) : (lineReset s).pins = s.pins := by
  simp [lineReset]
@[simp] theorem lineReset_pending (s : State) : (lineReset s).pending = s.pending := by
  simp [lineReset]

/-! ### VALIDATE BANK in STAGING (R124) -/

@[simp] theorem validateStaging_shaft (b : BankId) (s : State) : (validateStaging b s).shaft = s.shaft := by
  unfold validateStaging; (repeat' split) <;> simp
@[simp] theorem validateStaging_geometry (b : BankId) (s : State) : (validateStaging b s).geometry = s.geometry := by
  unfold validateStaging; (repeat' split) <;> simp
@[simp] theorem validateStaging_chain (b : BankId) (s : State) : (validateStaging b s).chain = s.chain := by
  unfold validateStaging; (repeat' split) <;> simp
@[simp] theorem validateStaging_firing (b : BankId) (s : State) : (validateStaging b s).firing = s.firing := by
  unfold validateStaging; (repeat' split) <;> simp
@[simp] theorem validateStaging_registration (b : BankId) (s : State) : (validateStaging b s).registration = s.registration := by
  unfold validateStaging; (repeat' split) <;> simp
@[simp] theorem validateStaging_gumFold (b : BankId) (s : State) : (validateStaging b s).gumFold = s.gumFold := by
  unfold validateStaging; (repeat' split) <;> simp
@[simp] theorem validateStaging_verdicts (b : BankId) (s : State) : (validateStaging b s).verdicts = s.verdicts := by
  unfold validateStaging; (repeat' split) <;> simp
@[simp] theorem validateStaging_batch (b : BankId) (s : State) : (validateStaging b s).batch = s.batch := by
  unfold validateStaging; (repeat' split) <;> simp
@[simp] theorem validateStaging_line (b : BankId) (s : State) : (validateStaging b s).line = s.line := by
  unfold validateStaging; (repeat' split) <;> simp
@[simp] theorem validateStaging_sensors (b : BankId) (s : State) : (validateStaging b s).sensors = s.sensors := by
  unfold validateStaging; (repeat' split) <;> simp
@[simp] theorem validateStaging_pins (b : BankId) (s : State) : (validateStaging b s).pins = s.pins := by
  unfold validateStaging; (repeat' split) <;> simp
@[simp] theorem validateStaging_choices (b : BankId) (s : State) : (validateStaging b s).choices = s.choices := by
  unfold validateStaging; (repeat' split) <;> simp
@[simp] theorem validateStaging_pending (b : BankId) (s : State) : (validateStaging b s).pending = s.pending := by
  unfold validateStaging; (repeat' split) <;> simp

/-! ### ARM CHANGEOVER (R127) -/

@[simp] theorem armBank_shaft (b : BankId) (s : State) : (armBank b s).shaft = s.shaft := by
  simp only [armBank]; split <;> simp
@[simp] theorem armBank_geometry (b : BankId) (s : State) : (armBank b s).geometry = s.geometry := by
  simp only [armBank]; split <;> simp
@[simp] theorem armBank_chain (b : BankId) (s : State) : (armBank b s).chain = s.chain := by
  simp only [armBank]; split <;> simp
@[simp] theorem armBank_firing (b : BankId) (s : State) : (armBank b s).firing = s.firing := by
  simp only [armBank]; split <;> simp
@[simp] theorem armBank_gumFold (b : BankId) (s : State) : (armBank b s).gumFold = s.gumFold := by
  simp only [armBank]; split <;> simp
@[simp] theorem armBank_verdicts (b : BankId) (s : State) : (armBank b s).verdicts = s.verdicts := by
  simp only [armBank]; split <;> simp
@[simp] theorem armBank_sensors (b : BankId) (s : State) : (armBank b s).sensors = s.sensors := by
  simp only [armBank]; split <;> simp
@[simp] theorem armBank_pins (b : BankId) (s : State) : (armBank b s).pins = s.pins := by
  simp only [armBank]; split <;> simp
@[simp] theorem armBank_choices (b : BankId) (s : State) : (armBank b s).choices = s.choices := by
  simp only [armBank]; split <;> simp
@[simp] theorem armBank_pending (b : BankId) (s : State) : (armBank b s).pending = s.pending := by
  simp only [armBank]; split <;> simp

/-! ### VERDICT (R96, R97) -/

@[simp] theorem takeVerdict_shaft (q : Seq) (v : VerdictResult) (n : Nat) (s : State) :
    (takeVerdict q v n s).2.shaft = s.shaft := by
  unfold takeVerdict; (repeat' split) <;> simp
@[simp] theorem takeVerdict_geometry (q : Seq) (v : VerdictResult) (n : Nat) (s : State) :
    (takeVerdict q v n s).2.geometry = s.geometry := by
  unfold takeVerdict; (repeat' split) <;> simp
@[simp] theorem takeVerdict_firing (q : Seq) (v : VerdictResult) (n : Nat) (s : State) :
    (takeVerdict q v n s).2.firing = s.firing := by
  unfold takeVerdict; (repeat' split) <;> simp
@[simp] theorem takeVerdict_registration (q : Seq) (v : VerdictResult) (n : Nat) (s : State) :
    (takeVerdict q v n s).2.registration = s.registration := by
  unfold takeVerdict; (repeat' split) <;> simp
@[simp] theorem takeVerdict_gumFold (q : Seq) (v : VerdictResult) (n : Nat) (s : State) :
    (takeVerdict q v n s).2.gumFold = s.gumFold := by
  unfold takeVerdict; (repeat' split) <;> simp
@[simp] theorem takeVerdict_batch (q : Seq) (v : VerdictResult) (n : Nat) (s : State) :
    (takeVerdict q v n s).2.batch = s.batch := by
  unfold takeVerdict; (repeat' split) <;> simp
@[simp] theorem takeVerdict_banks (q : Seq) (v : VerdictResult) (n : Nat) (s : State) :
    (takeVerdict q v n s).2.banks = s.banks := by
  unfold takeVerdict; (repeat' split) <;> simp
@[simp] theorem takeVerdict_line (q : Seq) (v : VerdictResult) (n : Nat) (s : State) :
    (takeVerdict q v n s).2.line = s.line := by
  unfold takeVerdict; (repeat' split) <;> simp
@[simp] theorem takeVerdict_ports (q : Seq) (v : VerdictResult) (n : Nat) (s : State) :
    (takeVerdict q v n s).2.ports = s.ports := by
  unfold takeVerdict; (repeat' split) <;> simp
@[simp] theorem takeVerdict_sensors (q : Seq) (v : VerdictResult) (n : Nat) (s : State) :
    (takeVerdict q v n s).2.sensors = s.sensors := by
  unfold takeVerdict; (repeat' split) <;> simp
@[simp] theorem takeVerdict_pins (q : Seq) (v : VerdictResult) (n : Nat) (s : State) :
    (takeVerdict q v n s).2.pins = s.pins := by
  unfold takeVerdict; (repeat' split) <;> simp
@[simp] theorem takeVerdict_choices (q : Seq) (v : VerdictResult) (n : Nat) (s : State) :
    (takeVerdict q v n s).2.choices = s.choices := by
  unfold takeVerdict; (repeat' split) <;> simp
@[simp] theorem takeVerdict_pending (q : Seq) (v : VerdictResult) (n : Nat) (s : State) :
    (takeVerdict q v n s).2.pending = s.pending := by
  unfold takeVerdict; (repeat' split) <;> simp
@[simp] theorem takeVerdict_places (q : Seq) (v : VerdictResult) (n : Nat) (s : State) :
    (takeVerdict q v n s).2.chain.places = s.chain.places := by
  unfold takeVerdict
  (repeat' split) <;> simp
  exact updateRecord_places _ _ s (fun r => by unfold applyVerdict; split <;> simp [Record.place, Record.addReason]; split <;> simp)

/-! ### The end of an exchange (R153) -/

@[simp] theorem endExchange_shaft (l : Link) (bs : List Byte) (s : State) : (endExchange l bs s).shaft = s.shaft := by
  simp only [endExchange]; (repeat' split) <;> simp
@[simp] theorem endExchange_geometry (l : Link) (bs : List Byte) (s : State) : (endExchange l bs s).geometry = s.geometry := by
  simp only [endExchange]; (repeat' split) <;> simp
@[simp] theorem endExchange_chain (l : Link) (bs : List Byte) (s : State) : (endExchange l bs s).chain = s.chain := by
  simp only [endExchange]; (repeat' split) <;> simp
@[simp] theorem endExchange_firing (l : Link) (bs : List Byte) (s : State) : (endExchange l bs s).firing = s.firing := by
  simp only [endExchange]; (repeat' split) <;> simp
@[simp] theorem endExchange_registration (l : Link) (bs : List Byte) (s : State) : (endExchange l bs s).registration = s.registration := by
  simp only [endExchange]; (repeat' split) <;> simp
@[simp] theorem endExchange_gumFold (l : Link) (bs : List Byte) (s : State) : (endExchange l bs s).gumFold = s.gumFold := by
  simp only [endExchange]; (repeat' split) <;> simp
@[simp] theorem endExchange_verdicts (l : Link) (bs : List Byte) (s : State) : (endExchange l bs s).verdicts = s.verdicts := by
  simp only [endExchange]; (repeat' split) <;> simp
@[simp] theorem endExchange_batch (l : Link) (bs : List Byte) (s : State) : (endExchange l bs s).batch = s.batch := by
  simp only [endExchange]; (repeat' split) <;> simp
@[simp] theorem endExchange_banks (l : Link) (bs : List Byte) (s : State) : (endExchange l bs s).banks = s.banks := by
  simp only [endExchange]; (repeat' split) <;> simp
@[simp] theorem endExchange_line (l : Link) (bs : List Byte) (s : State) : (endExchange l bs s).line = s.line := by
  simp only [endExchange]; (repeat' split) <;> simp
@[simp] theorem endExchange_sensors (l : Link) (bs : List Byte) (s : State) : (endExchange l bs s).sensors = s.sensors := by
  simp only [endExchange]; (repeat' split) <;> simp
@[simp] theorem endExchange_pins (l : Link) (bs : List Byte) (s : State) : (endExchange l bs s).pins = s.pins := by
  simp only [endExchange]; (repeat' split) <;> simp
@[simp] theorem endExchange_pending (l : Link) (bs : List Byte) (s : State) : (endExchange l bs s).pending = s.pending := by
  simp only [endExchange]; (repeat' split) <;> simp

end Sys2Proof.Machine
end

