-- ==== Sys2Proof/Laws/Chain.lean ====
section
/-! SUPPORT. All that the chain's own operations do to the chain (R26 to R30, R36). -/

namespace Sys2Proof.Machine

/-- Leaving (R27, R28): what the chain is after stage 1. -/
theorem leavingStage_chain (s : State) :
    (leavingStage s).chain =
      { s.chain with
        records := s.chain.records.filter (staysInChain s.geometry)
        rejected := addCount s.chain.rejected (s.chain.records.filter (leavesAtGate s.geometry))
        good := addCount s.chain.good (s.chain.records.filter (leavesAtCount s.geometry)) } := by
  simp [leavingStage]

/-- A line reset's discard (R36): what the chain is after it. -/
theorem discardRecords_chain (s : State) :
    (discardRecords s).chain =
      { s.chain with records := [], purged := addCount s.chain.purged s.chain.records } := by
  simp [discardRecords]

/-- Every record leaves at the gate, leaves at COUNT or stays. -/
theorem leaving_lengths (g : Geometry) (l : List Record) :
    (l.filter (leavesAtGate g)).length + (l.filter (leavesAtCount g)).length + (l.filter (staysInChain g)).length
      = l.length := by
  induction l with
  | nil => rfl
  | cons r l ih =>
    by_cases h1 : leavesAtGate g r <;> by_cases h2 : (r.position == g.posCount) <;>
      simp_all [leavesAtCount, staysInChain] <;> omega

/-- The bank a record is created under: the armed one, where a changeover takes effect, else the active one (R30). -/
def feedBank (s : State) : Option BankId :=
  match armedBank s with
  | some b => some b
  | none => activeBank s

end Sys2Proof.Machine
end

