-- ==== Sys2Proof/Laws/Shaft.lean ====
section
/-! SUPPORT. What the shaft events are made of (R3, R4, R13, R14): a property that the Shaft Tracker's own writes, the
crossings, the boundary and the halt causes keep is kept by every shaft event. -/

namespace Sys2Proof.Machine

theorem forwardCount_induct (P : State → Prop) (shaft : ∀ s x, P s → P { s with shaft := x })
    (cross : ∀ v lo hi s, P s → P (crossings v lo hi s)) (boundary : ∀ v s, P s → P (pitchBoundary v s))
    (v : Bool) (s : State) (h : P s) : P (forwardCount v s) := by
  unfold forwardCount
  split
  · simp only [advanceCount]
    split
    · exact cross _ _ _ _ (shaft _ _ (shaft _ _ h))
    · exact shaft _ _ h
  · simp only [forwardWrap]
    split
    · exact boundary _ _ (shaft _ _ h)
    · exact shaft _ _ (shaft _ _ h)

theorem addDebt_induct (P : State → Prop) (shaft : ∀ s x, P s → P { s with shaft := x })
    (cause : ∀ c s, P s → P (raiseCause c none s)) (s : State) (h : P s) : P (addDebt s) := by
  unfold addDebt
  split
  · exact shaft _ _ h
  · exact cause _ _ h

theorem backwardCount_induct (P : State → Prop) (index : ∀ s c, P s → P { s with choices := c })
    (shaft : ∀ s x, P s → P { s with shaft := x }) (cause : ∀ c s, P s → P (raiseCause c none s))
    (s : State) (h : P s) : P (backwardCount s) := by
  have reverse : ∀ x, P x → P (raiseReverse x) := by
    intro x hx
    unfold raiseReverse
    split
    · exact cause _ _ hx
    · exact hx
  have chosen : P (choose 2 s).2 := by
    obtain ⟨c, hc⟩ := choose_state 2 s
    rw [hc]; exact index _ _ h
  simp only [backwardCount]
  split
  · exact addDebt_induct P shaft cause _ (shaft _ _ (reverse _ h))
  · split
    · split
      · exact shaft _ _ (reverse _ chosen)
      · exact reverse _ (shaft _ _ chosen)
    · exact shaft _ _ h

theorem indexEdge_induct (P : State → Prop) (shaft : ∀ s x, P s → P { s with shaft := x })
    (cross : ∀ v lo hi s, P s → P (crossings v lo hi s)) (boundary : ∀ v s, P s → P (pitchBoundary v s))
    (cause : ∀ c s, P s → P (raiseCause c none s)) (v : Bool) (s : State) (h : P s) : P (indexEdge v s) := by
  have mismatch : ∀ d x, P x → P (checkMismatch d x) := by
    intro d x hx
    unfold checkMismatch
    split
    · exact shaft _ _ hx
    · split
      · exact shaft _ _ hx
      · exact cause _ _ (shaft _ _ hx)
  have advance : ∀ c x, P x → P (advanceCount v c x) := by
    intro c x hx
    simp only [advanceCount]
    split
    · exact cross _ _ _ _ (shaft _ _ (shaft _ _ hx))
    · exact shaft _ _ hx
  simp only [indexEdge]
  split
  · refine shaft _ _ ?_
    unfold realign
    split
    · split
      · exact advance _ _ (mismatch _ _ h)
      · exact cross _ _ _ _ (shaft _ _ (shaft _ _ (boundary _ _ (cross _ _ _ _ (mismatch _ _ h)))))
    · split
      · split
        · exact shaft _ _ (mismatch _ _ h)
        · exact addDebt_induct P shaft cause _ (shaft _ _ (mismatch _ _ h))
      · exact mismatch _ _ h
  · exact h

end Sys2Proof.Machine
end

