-- ==== Sys2Proof/Laws/Lines.lean ====
section
/-! SUPPORT. How the line state moves inside the operations (R134, R139 to R144): which of them can enter or leave CONFIG,
and what an entry to HALT leaves. -/

namespace Sys2Proof.Machine

/-! ### Operations that keep the line state -/

@[simp] theorem changeHolders_line_state (f : BitVec 3 → BitVec 3) (sts : List Station) (s : State) :
    (changeHolders f sts s).line.state = s.line.state := rfl

@[simp] theorem clearHolds_line_state (s : State) : (clearHolds s).line.state = s.line.state := rfl

@[simp] theorem armBank_line_state (b : BankId) (s : State) : (armBank b s).line.state = s.line.state := by
  simp only [armBank]; split <;> simp

@[simp] theorem purgeBatch_line_state (s : State) : (purgeBatch s).line.state = s.line.state := by
  simp [purgeBatch]

/-! ### Halt causes (R140, R141) -/

/-- A halt cause in READY, RUN or DRAIN leads to HALT. -/
@[simp] theorem enterHalt_line_state (c : HaltCause) (l : Option Link) (s : State) :
    (enterHalt c l s).line.state = .halt := by
  simp [enterHalt]

/-- Where a halt cause leaves the line: CONFIG stays, every other state is HALT afterwards. -/
theorem raiseCause_line_state (c : HaltCause) (l : Option Link) (s : State) :
    (raiseCause c l s).line.state = if s.line.state = .config then .config else .halt := by
  unfold raiseCause; split <;> simp_all

@[simp] theorem raiseCause_config (c : HaltCause) (l : Option Link) (s : State) :
    (raiseCause c l s).line.state = .config ↔ s.line.state = .config := by
  rw [raiseCause_line_state]; split <;> simp_all

@[simp] theorem examineLevels_config (s : State) :
    (examineLevels s).line.state = .config ↔ s.line.state = .config :=
  iff_of_eq (runAll_proj (act := fun c => raiseCause c none) (fun s => s.line.state = .config) (fun _ _ => rfl)
    (fun t s => by simp) _ s)

/-! ### Drain completion and the boundary -/

theorem completeDrain_config (s : State) : (completeDrain s).line.state ≠ .config := by
  simp only [completeDrain, ne_eq, examineLevels_config, takeChangeover_line_state]; split <;> simp

@[simp] theorem chainEmptyNotice_config (s : State) :
    (chainEmptyNotice s).line.state = .config ↔ s.line.state = .config := by
  unfold chainEmptyNotice; split <;> simp_all [completeDrain_config]

@[simp] theorem doBoundary_config (n : Nat) (w v : Bool) (t : BoundaryTask) (s : State) :
    (doBoundary n w v t s).2.line.state = .config ↔ s.line.state = .config := by
  cases t <;> simp [doBoundary]

/-! ### Requests that name a transition -/

@[simp] theorem startLine_line_state (s : State) : (startLine s).line.state = .run := by
  simp only [startLine]; split <;> simp

theorem beginDrain_config (v : Bool) (s : State) : (beginDrain v s).line.state ≠ .config := by
  simp only [beginDrain]
  split
  · exact completeDrain_config _
  · simp

@[simp] theorem clearHalt_line_state (s : State) : (clearHalt s).line.state = .ready := by
  simp only [clearHalt]; split <;> simp

theorem commitGeometry_config (s : State) : (commitGeometry s).line.state ≠ .config := by
  simp [commitGeometry]

@[simp] theorem releaseGeometry_line_state (s : State) : (releaseGeometry s).line.state = .config := by
  simp [releaseGeometry]

theorem lineReset_config (s : State) : (lineReset s).line.state ≠ .config := by
  simp [lineReset]

/-! ### The chain after them -/

/-- An operation that keeps the places keeps an empty chain empty. -/
theorem records_nil_of_places {s t : State} (h : t.chain.places = s.chain.places) (hs : s.chain.records = []) :
    t.chain.records = [] := by
  have := congrArg Prod.fst h
  simpa [Chain.places, hs] using this

/-- LINE RESET leaves the chain empty (R36). -/
@[simp] theorem lineReset_records (s : State) : (lineReset s).chain.records = [] :=
  records_nil_of_places (s := discardRecords (purgeBatch s)) (by simp [lineReset]) (by simp [discardRecords_chain])

end Sys2Proof.Machine
end

