-- ==== Sys2Proof/Laws/Posts.lean ====
section
/-! SUPPORT. What the blocks do to the ports: they post events (R159) and nothing else. Every operation but the ports' own leaves
each port as it was, with its pending set grown at most. -/

namespace Sys2Proof.Machine

/-- The ports of one state are those of another with events added to their pending sets. -/
def Posts (s t : State) : Prop :=
  ∀ l, t.ports.get l = { s.ports.get l with pending := (t.ports.get l).pending }
    ∧ (s.ports.get l).pending &&& ~~~(t.ports.get l).pending = 0

theorem Posts.of_eq {s t : State} (h : t.ports = s.ports) : Posts s t := by
  intro l; rw [h]; exact ⟨rfl, by simp⟩

theorem Posts.refl (s : State) : Posts s s := .of_eq rfl

theorem mask_subset_trans {n : Nat} {a b c : BitVec n} (h : a &&& ~~~b = 0) (h' : b &&& ~~~c = 0) : a &&& ~~~c = 0 := by
  apply BitVec.eq_of_getLsbD_eq
  intro i _
  have h1 := congrArg (·.getLsbD i) h
  have h2 := congrArg (·.getLsbD i) h'
  simp at h1 h2 ⊢
  intro x y
  by_cases hb : b.getLsbD i <;> simp_all

theorem Posts.trans {a b c : State} (h : Posts a b) (h' : Posts b c) : Posts a c := by
  intro l
  refine ⟨?_, mask_subset_trans (h l).2 (h' l).2⟩
  rw [(h' l).1, (h l).1]

/-- Any two states between which the ports were not written stand in a chain of posts. -/
theorem Posts.then_eq {a b c : State} (h : Posts a b) (e : c.ports = b.ports) : Posts a c := h.trans (.of_eq e)

theorem post_posts (e : Event) (s : State) : Posts s (post e s) := by
  intro l
  refine ⟨by cases l <;> rfl, ?_⟩
  have : ((post e s).ports.get l).pending = maskAdd (s.ports.get l).pending e.index := by cases l <;> rfl
  rw [this]
  apply BitVec.eq_of_getLsbD_eq
  intro i _; simp [maskAdd]
  intro h1 _ h2; simp [h1] at h2

theorem addFeedCause_posts (c : FeedCause) (s : State) : Posts s (addFeedCause c s) := by
  simp only [addFeedCause]; split
  · exact Posts.trans (.of_eq rfl) (post_posts _ { s with line.feedInhibit := maskAdd s.line.feedInhibit c.index })
  · exact .of_eq rfl

theorem setFeedCause_posts (c : FeedCause) (b : Bool) (s : State) : Posts s (setFeedCause c b s) := by
  unfold setFeedCause; split
  · exact addFeedCause_posts _ _
  · exact .of_eq rfl

theorem retakeSupplies_posts (s : State) : Posts s (retakeSupplies s) :=
  (setFeedCause_posts _ _ s).trans (setFeedCause_posts _ _ _)

theorem retireBank_posts (b : BankId) (s : State) : Posts s (retireBank b s) := by
  unfold retireBank; split
  · exact .of_eq rfl
  · exact Posts.trans (.of_eq rfl) (post_posts _ (setBankState b .valid s))

theorem takeChangeover_posts (s : State) : Posts s (takeChangeover s) := by
  unfold takeChangeover; split
  · exact .refl s
  · rename_i b _
    refine Posts.trans ?_ (retakeSupplies_posts _)
    refine Posts.then_eq (b := post .changeoverTaken _) (Posts.trans ?_ (post_posts _ _)) rfl
    split
    · exact .of_eq rfl
    · exact Posts.trans (.of_eq rfl) (retireBank_posts _ (setBankState b .active s))

theorem releaseBank_posts (b : BankId) (s : State) : Posts s (releaseBank b s) := by
  unfold releaseBank; split
  · exact Posts.trans (.of_eq rfl) (post_posts _ (setBankState b .valid s))
  · exact .refl s

theorem releaseNotices_posts (before : List Record) (s : State) : Posts s (releaseNotices before s) := by
  have one : ∀ b x, Posts x (if namesBank before b && !bankNamed x b then releaseBank b x else x) := by
    intro b x; split
    · exact releaseBank_posts _ _
    · exact .refl x
  exact (one .bank0 s).trans (one .bank1 _)

theorem checkBacklog_posts (s : State) : Posts s (checkBacklog s) := by
  unfold checkBacklog; split
  · exact (Posts.trans (.of_eq rfl) (post_posts .backlog { s with batch.backlog := true })).trans (addFeedCause_posts _ _)
  · split
    · exact .of_eq rfl
    · exact .refl s

theorem closeBatch_posts (c : CloseCause) (s : State) : Posts s (closeBatch c s) := by
  unfold closeBatch; split
  · exact .refl s
  · exact (Posts.then_eq (.refl s) rfl).trans ((post_posts .batchClosed { s with batch := _ }).trans (checkBacklog_posts _))

theorem enterHalt_posts (c : HaltCause) (l : Option Link) (s : State) : Posts s (enterHalt c l s) := by
  simp only [enterHalt]
  exact Posts.trans (.of_eq (by split <;> rfl)) (post_posts .halted _)

theorem raiseCause_posts (c : HaltCause) (l : Option Link) (s : State) : Posts s (raiseCause c l s) := by
  unfold raiseCause
  split <;> first | exact .refl s | exact .of_eq rfl | exact enterHalt_posts c l s

theorem examineLevels_posts (s : State) : Posts s (examineLevels s) :=
  runAll_induct (Posts s) (fun _ => True) (fun _ _ h => h) (fun t x _ h => h.trans (raiseCause_posts _ _ x)) _ _
    (fun _ _ => trivial) (.refl s)

theorem completeDrain_posts (s : State) : Posts s (completeDrain s) := by
  simp only [completeDrain]
  refine Posts.trans (Posts.trans (Posts.trans ?_ (post_posts .drained _)) (takeChangeover_posts _)) (examineLevels_posts _)
  refine Posts.then_eq (b := if s.line.closeFlag = some true then closeBatch .drain _ else _) ?_ rfl
  split
  · exact Posts.trans (.of_eq rfl) (closeBatch_posts .drain (noSubjects (leaveRunning { s with line.state := .ready })))
  · exact .of_eq rfl

theorem chainEmptyNotice_posts (s : State) : Posts s (chainEmptyNotice s) := by
  unfold chainEmptyNotice
  split <;> first | exact .refl s | exact takeChangeover_posts s | exact completeDrain_posts s

theorem foldReport_posts (s : State) : Posts s (foldReport s) := by
  simp only [foldReport]; (repeat' split) <;> first | exact .of_eq rfl | exact Posts.trans (.of_eq rfl) (post_posts .stray _)

theorem foldCheckEdge_posts (s : State) : Posts s (foldCheckEdge s) := by
  unfold foldCheckEdge; split
  · exact foldReport_posts s
  · exact .refl s

theorem openFold_posts (v : Bool) (s : State) : Posts s (openFold v s) := by
  simp only [openFold]; (repeat' split) <;> first | exact .of_eq rfl | exact Posts.trans (.of_eq rfl) (foldReport_posts _)

theorem foldCrossing_posts (v : Bool) (p : Nat) (s : State) : Posts s (foldCrossing v p s) := by
  unfold foldCrossing; split
  · exact .refl s
  · have one : ∀ c : Prop, [Decidable c] → Posts s (if c then openFold v s else s) := by
      intro c _; split
      · exact openFold_posts v s
      · exact .refl s
    dsimp only
    split
    · exact Posts.then_eq (one _) (closeFold_ports _)
    · exact one _

theorem gumFoldBoundary_posts (v : Bool) (s : State) : Posts s (gumFoldBoundary v s) := by
  refine Posts.trans (.of_eq (t := cleanProgress (takeFoldTarget (settleFold s))) (by simp)) ?_
  unfold gumFoldBoundary openFoldAtZero
  split
  · exact .refl _
  · split
    · exact openFold_posts _ _
    · exact .refl _

theorem checkDrift_posts (n : Nat) (s : State) : Posts s (checkDrift n s) := by
  simp only [checkDrift]; split
  · exact Posts.trans (.of_eq rfl) (post_posts .driftAlert _)
  · exact .of_eq rfl

theorem acceptMeasurement_posts (q : Seq) (f : BankFields) (e : Int) (s : State) : Posts s (acceptMeasurement q f e s) :=
  Posts.trans (.of_eq rfl) (checkDrift_posts _ _)

theorem measure_posts (q : Seq) (s : State) : Posts s (measure q s) := by
  simp only [measure]
  (repeat' split) <;> first | exact .refl s | exact acceptMeasurement_posts _ _ _ s

theorem markEdge_posts (s : State) : Posts s (markEdge s) := by
  unfold markEdge
  (repeat' split) <;> first | exact .refl s | exact .of_eq (by simp) | exact (measure_posts _ s).then_eq rfl

theorem logTrigger_posts (t : Trigger) (s : State) : Posts s (logTrigger t s) := by
  simp only [logTrigger]
  (repeat' split) <;> first | exact .of_eq rfl | exact (Posts.of_eq rfl).trans (post_posts .triggersWaiting _) | exact Posts.trans (.of_eq rfl) (post_posts .triggerOverflow _)

theorem cameraEdge_posts (r : Record) (s : State) : Posts s (cameraEdge r s) := by
  unfold cameraEdge; split
  · refine Posts.then_eq (b := logTrigger _ (updateRecord r.seq (fun r => { r with verdict := .pending }) s)) ?_ rfl
    exact Posts.trans (.of_eq rfl) (logTrigger_posts _ _)
  · exact .of_eq rfl

theorem onEdge_posts (ch : Channel) (q : Seq) (s : State) : Posts s (onEdge ch q s) := by
  unfold onEdge
  (repeat' split) <;> first | exact .of_eq (by simp) | exact cameraEdge_posts _ s

theorem takeEdge_posts (e : Edge) (s : State) : Posts s (takeEdge e s) := by
  unfold takeEdge; split
  · exact onEdge_posts _ _ s
  · exact .of_eq (by simp)

theorem overfillBatch_posts (s : State) : Posts s (overfillBatch s) := by
  unfold overfillBatch
  (repeat' split) <;> first | exact .refl s | exact Posts.trans (.of_eq rfl) (post_posts .overfill _)

theorem changeoverCheck_posts (r : Record) (s : State) : Posts s (changeoverCheck r s) := by
  unfold changeoverCheck; split
  · exact Posts.trans (.of_eq (by simp)) (closeBatch_posts _ _)
  · exact .refl s

theorem applyCheck_posts (c : CloseCheck) (s : State) : Posts s (applyCheck c s) := by
  unfold applyCheck
  split
  · exact .refl s
  · exact overfillBatch_posts s
  · exact Posts.trans (.of_eq (by simp)) (closeBatch_posts _ _)

theorem countEvent_posts (r : Record) (s : State) : Posts s (countEvent r s) := by
  have h : Posts s (countInto r (openIfNone r (changeoverCheck r s))) :=
    (changeoverCheck_posts r s).then_eq (by simp)
  simp only [countEvent]; split
  · exact Posts.then_eq (b := applyCheck (closeCheck _) _) (h.trans (applyCheck_posts _ _)) (by simp; rfl)
  · exact h.trans (applyCheck_posts _ _)

theorem countCrossing_posts (p : Nat) (s : State) : Posts s (countCrossing p s) := by
  unfold countCrossing; split
  · exact .refl s
  · exact countEvent_posts _ s

theorem doCrossing_posts (v : Bool) (p : Nat) (t : CrossingTask) (s : State) : Posts s (doCrossing v p t s) := by
  cases t
  · exact takeEdge_posts _ s
  · exact .of_eq (by simp [doCrossing])
  · exact .of_eq (by simp [doCrossing])
  · exact foldCrossing_posts _ _ s
  · exact .of_eq (by simp [doCrossing])
  · exact countCrossing_posts _ s

theorem crossings_posts (v : Bool) (lo hi : Nat) (s : State) : Posts s (crossings v lo hi s) := by
  have one : ∀ p x, Posts x (crossing v x p) := fun p x =>
    runAll_induct (Posts x) (fun _ => True) (fun _ _ h => h) (fun t y _ h => h.trans (doCrossing_posts v p t y)) _ _
      (fun _ _ => trivial) (.refl x)
  have all : ∀ (l : List Nat) (x : State), Posts x (l.foldl (crossing v) x) := by
    intro l
    induction l with
    | nil => intro x; exact .refl x
    | cons p l ih => intro x; exact (one p x).trans (ih _)
  exact all _ s

theorem firingBoundary_posts (n : Nat) (w : Bool) (s : State) : Posts s (firingBoundary n w s) := by
  have one : Posts s (takeOverdue s) := by
    refine Posts.then_eq (b := runFree (fun x s => ([], takeEdge x.edge s)) overdueAble (overdueEdges s).length (overdueEdges s) s) ?_ rfl
    exact runFree_induct (Posts s) (fun _ => True) (fun _ _ h => h)
      (fun t x _ h => ⟨h.trans (takeEdge_posts _ x), fun _ _ => trivial⟩) _ _ _ (fun _ _ => trivial) (.refl s)
  simp only [firingBoundary]
  refine runAll_induct (Posts s) (fun _ => True) (fun _ _ h => h) (fun t x _ h => h.trans (takeEdge_posts _ x)) _ _
    (fun _ _ => trivial) (one.then_eq (by simp))

theorem chainBoundary_posts (s : State) : Posts s (chainBoundary s) := by
  have one : Posts s (advanceStage (leavingStage s)) := by
    refine Posts.then_eq (b := leavingStage s) ?_ rfl
    unfold leavingStage
    exact Posts.trans (.of_eq rfl) (releaseNotices_posts s.chain.records _)
  unfold chainBoundary feedStage; split
  · exact (one.trans (takeChangeover_posts _)).then_eq (by simp)
  · exact one

theorem doBoundary_posts (n : Nat) (w v : Bool) (t : BoundaryTask) (s : State) : Posts s (doBoundary n w v t s).2 := by
  cases t
  · exact raiseCause_posts _ _ s
  · exact chainBoundary_posts s
  · exact firingBoundary_posts _ _ s
  · exact .of_eq (by simp [doBoundary])
  · exact gumFoldBoundary_posts _ s
  · exact .of_eq (by simp [doBoundary])
  · exact Posts.trans (.of_eq rfl) (countCrossing_posts 0 { s with batch.kickMark := none })
  · exact chainEmptyNotice_posts s

theorem pitchBoundary_posts (v : Bool) (s : State) : Posts s (pitchBoundary v s) :=
  runFree_induct (Posts s) (fun _ => True) (fun _ _ h => h)
    (fun t x _ h => ⟨h.trans (doBoundary_posts _ _ _ t x), fun _ _ => trivial⟩) _ _ _ (fun _ _ => trivial) (.of_eq rfl)

theorem forwardCount_posts (v : Bool) (s : State) : Posts s (forwardCount v s) :=
  forwardCount_induct (Posts s) (fun _ _ h => h) (fun _ _ _ x h => h.trans (crossings_posts _ _ _ x))
    (fun _ x h => h.trans (pitchBoundary_posts _ x)) v s (.refl s)

theorem backwardCount_posts (s : State) : Posts s (backwardCount s) :=
  backwardCount_induct (Posts s) (fun _ _ h => h) (fun _ _ h => h) (fun _ x h => h.trans (raiseCause_posts _ _ x)) s (.refl s)

theorem indexEdge_posts (v : Bool) (s : State) : Posts s (indexEdge v s) :=
  indexEdge_induct (Posts s) (fun _ _ h => h) (fun _ _ _ x h => h.trans (crossings_posts _ _ _ x))
    (fun _ x h => h.trans (pitchBoundary_posts _ x)) (fun _ x h => h.trans (raiseCause_posts _ _ x)) v s (.refl s)

theorem commitGeometry_posts (s : State) : Posts s (commitGeometry s) :=
  Posts.trans (.of_eq (by simp)) (examineLevels_posts _)

theorem startLine_posts (s : State) : Posts s (startLine s) := by
  simp only [startLine]; split
  · exact .of_eq rfl
  · exact Posts.trans (.of_eq rfl) (post_posts .feedInhibited _)

theorem beginDrain_posts (v : Bool) (s : State) : Posts s (beginDrain v s) := by
  simp only [beginDrain]; split
  · exact Posts.trans (.of_eq rfl) (completeDrain_posts _)
  · exact .of_eq rfl

theorem clearHalt_posts (s : State) : Posts s (clearHalt s) := by
  simp only [clearHalt]; split
  · exact Posts.trans (.of_eq rfl) (takeChangeover_posts _)
  · exact .of_eq rfl

theorem lineReset_posts (s : State) : Posts s (lineReset s) := by
  have one : Posts s (discardRecords (purgeBatch s)) :=
    (Posts.then_eq (closeBatch_posts .purge s) rfl).trans
      (Posts.trans (.of_eq rfl) (releaseNotices_posts (purgeBatch s).chain.records _))
  simp only [lineReset]
  exact ((one.then_eq (by simp)).trans (takeChangeover_posts _)).trans (examineLevels_posts _)

theorem armBank_posts (b : BankId) (s : State) : Posts s (armBank b s) := by
  simp only [armBank]; split
  · exact Posts.trans (.of_eq rfl) (takeChangeover_posts _)
  · exact .of_eq rfl

end Sys2Proof.Machine
end

