-- ==== Sys2Proof/Laws/Records.lean ====
section
/-! SUPPORT. How the records change in place: every operation but those of the chain and VERDICT keeps each record's seq, bank and
position, only adds reasons while the fate is UNDECIDED, moves the verdict to PENDING at most and keeps what R25 says. -/

namespace Sys2Proof.Machine

theorem runFree_rule {α : Type} [DecidableEq α] {act : α → State → List α × State}
    {able : α → List α → State → Bool} (P : List α → State → Prop) (Q : State → Prop)
    (index : ∀ l s c, P l s → P l { s with choices := c })
    (task : ∀ l t s, t ∈ l → P l s → P (l.erase t ++ (act t s).1) (act t s).2)
    (done : ∀ l s, P l s → Q s) :
    ∀ (fuel : Nat) (l : List α) (s : State), P l s → Q (runFree act able fuel l s) := by
  intro fuel
  induction fuel with
  | zero => intro l s h; exact done _ _ h
  | succ fuel ih =>
    intro l s h
    have hc : P l (choose (l.filter (fun t => able t l s)).length s).2 := by
      obtain ⟨c, e⟩ := choose_state (l.filter (fun t => able t l s)).length s
      rw [e]; exact index _ _ _ h
    simp only [runFree]
    split
    · exact done _ _ hc
    · rename_i t hget
      have hmem : t ∈ l := (List.mem_filter.mp (List.mem_of_getElem? hget)).1
      exact ih _ _ (task _ _ _ hmem hc)

/-- A record kept in place, with pos_COUNT at `n`. -/
structure Record.Kept (n : Nat) (r r' : Record) : Prop where
  place : r'.place = r.place
  mono : r.reasons &&& ~~~r'.reasons = 0
  closed : r.fate ≠ .undecided → r'.fate = r.fate ∧ r'.reasons = r.reasons
  verdict : r'.verdict = r.verdict ∨ (r.verdict = .uninspected ∧ r'.verdict = .pending)
  counted : r.counted = true → r'.counted = true
  countAt : r'.counted = true → r.counted = true ∨ r.position = n
  sound : r.Sound → r'.Sound

theorem mono_trans {a b c : BitVec 11} (h : a &&& ~~~b = 0) (h' : b &&& ~~~c = 0) : a &&& ~~~c = 0 := by
  have : ∀ i, (a &&& ~~~c).getLsbD i = (0#11).getLsbD i := by
    intro i
    have h1 := congrArg (·.getLsbD i) h
    have h2 := congrArg (·.getLsbD i) h'
    simp at h1 h2 ⊢
    intro x y
    by_cases hb : b.getLsbD i <;> simp_all
  exact BitVec.eq_of_getLsbD_eq (fun i _ => this i)

theorem mono_add (a : BitVec 11) (k : Nat) : a &&& ~~~(maskAdd a k) = 0 := by
  apply BitVec.eq_of_getLsbD_eq; intro i _; simp [maskAdd]; intro h1 _ h2; simp [h1] at h2

theorem Record.Kept.refl (n : Nat) (r : Record) : Record.Kept n r r := ⟨rfl, by simp, fun _ => ⟨rfl, rfl⟩, .inl rfl, id, .inl, id⟩

theorem Record.Kept.trans {n : Nat} {a b c : Record} (h : Record.Kept n a b) (h' : Record.Kept n b c) : Record.Kept n a c where
  place := h'.place.trans h.place
  mono := mono_trans h.mono h'.mono
  closed hf := by
    obtain ⟨e1, e2⟩ := h.closed hf
    obtain ⟨e3, e4⟩ := h'.closed (by rw [e1]; exact hf)
    exact ⟨e3.trans e1, e4.trans e2⟩
  verdict := by
    rcases h.verdict with e | ⟨e1, e2⟩ <;> rcases h'.verdict with e' | ⟨e1', e2'⟩
    · exact .inl (e'.trans e)
    · exact .inr ⟨e ▸ e1', e2'⟩
    · exact .inr ⟨e1, e'.trans e2⟩
    · rw [e2] at e1'; cases e1'
  counted hc := h'.counted (h.counted hc)
  countAt hc := by
    have hp : b.position = a.position := congrArg (fun p => p.2.2) h.place
    rcases h'.countAt hc with h1 | h1
    · exact h.countAt h1
    · exact .inr (hp ▸ h1)
  sound := h'.sound ∘ h.sound

theorem record_kept_addReason (n : Nat) (e : Reason) (r : Record) : Record.Kept n r (r.addReason e) := by
  unfold Record.addReason
  split
  · rename_i hf
    refine ⟨rfl, mono_add _ _, fun h => absurd hf h, .inl rfl, id, .inl, ?_⟩
    rintro ⟨h1, h2, h3, h4⟩
    refine ⟨?_, h2, ?_, h4⟩
    · intro h; simp [hf] at h
    · intro h; have := h3 h; simp [maskHas, maskAdd] at *; exact .inl this
  · exact Record.Kept.refl n r

/-- The records of two states, each kept in place. -/
abbrev RecordsKept (n : Nat) (s t : State) : Prop := List.Forall₂ (Record.Kept n) s.chain.records t.chain.records

theorem RecordsKept.refl (n : Nat) (s : State) : RecordsKept n s s := List.forall₂_same.mpr (fun r _ => Record.Kept.refl n r)
theorem RecordsKept.trans {n : Nat} {a b c : State} (h : RecordsKept n a b) (h' : RecordsKept n b c) : RecordsKept n a c := by
  have key : ∀ {l1 l2 l3 : List Record}, List.Forall₂ (Record.Kept n) l1 l2 → List.Forall₂ (Record.Kept n) l2 l3 → List.Forall₂ (Record.Kept n) l1 l3 := by
    intro l1 l2 l3 h1
    induction h1 generalizing l3 with
    | nil => intro h; cases h; exact .nil
    | cons hk _ ih => intro h; cases h with | cons hk' ht => exact .cons (hk.trans hk') (ih ht)
  exact key h h'

theorem RecordsKept.of_eq {n : Nat} {s t : State} (h : t.chain = s.chain) : RecordsKept n s t := by
  unfold RecordsKept; rw [h]; exact RecordsKept.refl n s

theorem RecordsKept.map (n : Nat) (s t : State) (f : Record → Record) (h : ∀ r ∈ s.chain.records, Record.Kept n r (f r))
    (e : t.chain.records = s.chain.records.map f) : RecordsKept n s t := by
  unfold RecordsKept; rw [e]
  exact List.forall₂_map_right_iff.mpr (List.forall₂_same.mpr h)

theorem RecordsKept.update (n : Nat) (q : Seq) (f : Record → Record) (s : State)
    (h : ∀ r ∈ s.chain.records, r.seq = q → Record.Kept n r (f r)) : RecordsKept n s (updateRecord q f s) := by
  refine RecordsKept.map n _ _ (fun r => if r.seq == q then f r else r) (fun r hr => ?_) rfl
  split
  · rename_i he; exact h r hr (by simpa using he)
  · exact Record.Kept.refl n r

/-- No two records share a seq (R20). -/
abbrev UniqueSeqs (s : State) : Prop := (s.chain.records.map Record.seq).Nodup

theorem UniqueSeqs.eq {s : State} (h : UniqueSeqs s) {r r' : Record} (hr : r ∈ s.chain.records) (hr' : r' ∈ s.chain.records) (he : r.seq = r'.seq) : r = r' :=
  List.inj_on_of_nodup_map h hr hr' he

theorem unique_of_law {s : State} (h : ChainLaw s) : UniqueSeqs s := by
  unfold UniqueSeqs
  rw [List.Nodup, List.pairwise_map]
  refine h.2.2.1.imp ?_
  intro x y hxy he
  have := hxy.2
  simp [Record.age, he] at this

theorem unique_of_places {s t : State} (hp : t.chain.places = s.chain.places) (hu : UniqueSeqs s) : UniqueSeqs t := by
  have h1 := congrArg (fun p => p.1.map (fun q => q.1)) hp
  simp only [Chain.places, List.map_map, Function.comp_def, Record.place] at h1
  unfold UniqueSeqs at *
  have : t.chain.records.map Record.seq = s.chain.records.map Record.seq := h1
  rw [this]; exact hu

theorem mem_bySeq {s : State} {q : Seq} {r : Record} (h : recordBySeq s q = some r) : r ∈ s.chain.records ∧ r.seq = q := by
  unfold recordBySeq at h
  exact ⟨List.mem_of_find?_eq_some h, by simpa using List.find?_some h⟩
theorem mem_at {s : State} {p : Nat} {r : Record} (h : recordAt s p = some r) : r ∈ s.chain.records ∧ r.position = p := by
  unfold recordAt at h
  split at h
  · exact ⟨List.mem_of_find?_eq_some h, by simpa using List.find?_some h⟩
  · cases h
theorem mem_before {s : State} {p : Nat} {r : Record} (h : recordBefore s p = some r) : r ∈ s.chain.records ∧ r.position + 1 = p := by
  unfold recordBefore at h
  split at h
  · cases h
  · have := mem_at h; exact ⟨this.1, by omega⟩

variable (n : Nat)

theorem kept_addReason (q : Seq) (e : Reason) (s : State) : RecordsKept n s (addReason q e s) :=
  RecordsKept.update n q _ s (fun r _ _ => record_kept_addReason n e r)

theorem kept_noteMissingMark (q : Seq) (s : State) : RecordsKept n s (noteMissingMark q s) := by
  unfold noteMissingMark; (repeat' split) <;> first | exact RecordsKept.refl n s | exact kept_addReason n _ _ s
theorem kept_noteMissingPatch (q : Seq) (s : State) : RecordsKept n s (noteMissingPatch q s) := by
  unfold noteMissingPatch; (repeat' split) <;> first | exact RecordsKept.refl n s | exact kept_addReason n _ _ s
theorem kept_settleMark (s : State) : RecordsKept n s (settleMark s) := by
  unfold settleMark; (repeat' split) <;> first | exact RecordsKept.refl n s | exact kept_noteMissingMark n _ s
theorem kept_settlePatch (s : State) : RecordsKept n s (settlePatch s) := by
  unfold settlePatch; (repeat' split) <;> first | exact RecordsKept.refl n s | exact kept_noteMissingPatch n _ s
theorem kept_noteMissingFold (q : Seq) (s : State) : RecordsKept n s (noteMissingFold q s) := by
  unfold noteMissingFold; (repeat' split) <;> first | exact RecordsKept.refl n s | exact kept_addReason n _ _ s
theorem kept_settleFold (s : State) : RecordsKept n s (settleFold s) := by
  unfold settleFold; (repeat' split) <;> first | exact RecordsKept.refl n s | exact kept_noteMissingFold n _ s

theorem kept_openMark (s : State) : RecordsKept n s (openMark s) := .of_eq (by simp)
theorem kept_markCrossing (p : Nat) (s : State) : RecordsKept n s (markCrossing p s) := by
  unfold markCrossing
  split
  · exact RecordsKept.refl n s
  · dsimp only
    split <;> split <;> first | exact RecordsKept.trans (.of_eq (by simp)) (kept_settleMark n _) | exact .of_eq (by simp)
theorem kept_patchCrossing (p : Nat) (s : State) : RecordsKept n s (patchCrossing p s) := by
  unfold patchCrossing
  split
  · exact RecordsKept.refl n s
  · dsimp only
    split <;> split <;> first | exact RecordsKept.trans (.of_eq (by simp)) (kept_settlePatch n _) | exact .of_eq (by simp)
theorem kept_registrationBoundary (s : State) : RecordsKept n s (registrationBoundary s) :=
  ((kept_settleMark n s).trans (kept_settlePatch n _)).trans (.of_eq (by simp [registrationBoundary]))
theorem kept_closeFold (s : State) : RecordsKept n s (closeFold s) := kept_settleFold n s
theorem kept_foldCrossing (v : Bool) (p : Nat) (s : State) : RecordsKept n s (foldCrossing v p s) := by
  unfold foldCrossing
  split
  · exact RecordsKept.refl n s
  · dsimp only
    split <;> split <;> first | exact RecordsKept.trans (.of_eq (by simp)) (kept_closeFold n _) | exact .of_eq (by simp)
theorem kept_gumFoldBoundary (v : Bool) (s : State) : RecordsKept n s (gumFoldBoundary v s) :=
  (kept_settleFold n s).trans (.of_eq (by simp [gumFoldBoundary]))

theorem kept_same {r r' : Record} (h1 : r'.place = r.place) (h2 : r'.reasons = r.reasons) (h3 : r'.fate = r.fate)
   (h4 : r'.verdict = r.verdict) (h5 : r'.counted = r.counted) (h6 : r'.verdictCause = r.verdictCause)
   (h7 : r'.shift = r.shift) (h8 : r'.regError = r.regError) : Record.Kept n r r' :=
  ⟨h1, by rw [h2]; simp, fun _ => ⟨h3, h2⟩, .inl h4, fun h => h5 ▸ h, fun h => .inl (h5 ▸ h), by
    unfold Record.Sound; rw [h2, h3, h4, h6, h7, h8]; exact id⟩

theorem kept_setPatched (q : Seq) (w : Work) (s : State) : RecordsKept n s (setPatched q w s) :=
  RecordsKept.update n q _ s (fun _ _ _ => kept_same n rfl rfl rfl rfl rfl rfl rfl rfl)
theorem kept_setGummed (q : Seq) (w : Work) (s : State) : RecordsKept n s (setGummed q w s) :=
  RecordsKept.update n q _ s (fun _ _ _ => kept_same n rfl rfl rfl rfl rfl rfl rfl rfl)

theorem regError_range (c x : Nat) : -2048 ≤ registrationError c x ∧ registrationError c x ≤ 2047 := by
  unfold registrationError; omega

theorem kept_acceptMeasurement (q : Seq) (f : BankFields) (e : Int) (he : -2048 ≤ e ∧ e ≤ 2047) (s : State) : RecordsKept n s (acceptMeasurement q f e s) := by
  have : RecordsKept n s (updateRecord q (fun r => { r with regError := some e, shift := some (shiftOf f.shiftMax e) }) s) :=
    RecordsKept.update n q _ s (fun r _ _ => ⟨rfl, by simp, fun _ => ⟨rfl, rfl⟩, .inl rfl, id, .inl, fun ⟨a, b, c, d, _⟩ => ⟨a, b, c, by simp, by simpa using he⟩⟩)
  exact this.trans (.of_eq (by simp [acceptMeasurement]))
theorem kept_refuseMeasurement (q : Seq) (e : Int) (he : -2048 ≤ e ∧ e ≤ 2047) (s : State) : RecordsKept n s (refuseMeasurement q e s) := by
  refine RecordsKept.trans (RecordsKept.update n q (fun r => { r with regError := some e }) s (fun r _ _ => ?_)) (kept_addReason n _ _ _)
  exact ⟨rfl, by simp, fun _ => ⟨rfl, rfl⟩, .inl rfl, id, .inl, fun ⟨a, b, c, d, _⟩ => ⟨a, b, c, by simp, by simpa using he⟩⟩
theorem kept_measure (q : Seq) (s : State) : RecordsKept n s (measure q s) := by
  simp only [measure]
  (repeat' split) <;> first | exact RecordsKept.refl n s | exact kept_acceptMeasurement n _ _ _ (regError_range _ _) s | exact kept_refuseMeasurement n _ _ (regError_range _ _) s
theorem kept_markEdge (s : State) : RecordsKept n s (markEdge s) := by
  unfold markEdge
  (repeat' split) <;> first | exact RecordsKept.refl n s | exact kept_measure n _ s | exact kept_addReason n _ _ s

theorem kept_gumProgress (ch : Channel) (r : Record) (s : State) : RecordsKept n s (gumProgress ch r s) := by
  unfold gumProgress
  (repeat' split) <;> first | exact RecordsKept.refl n s | exact kept_setGummed n _ _ s

theorem kept_patchEdge (ch : Channel) (r : Record) (s : State) : RecordsKept n s (patchEdge ch r s) := by
  unfold patchEdge
  split
  · split
    · exact ((kept_addReason n r.seq .stationInhibited s).trans (kept_setPatched n r.seq .skipped _)).trans (.of_eq (by simp))
    · split
      · refine RecordsKept.trans (b := if ch = .patchGlue then setPatched r.seq .done s else s) ?_ (.of_eq (by simp))
        split
        · exact kept_setPatched n _ _ s
        · exact RecordsKept.refl n s
      · exact (kept_setPatched n r.seq .skipped _).trans (.of_eq (by simp))
  · exact .of_eq (by simp)

theorem kept_gumEdge (ch : Channel) (r : Record) (s : State) : RecordsKept n s (gumEdge ch r s) := by
  unfold gumEdge
  split
  · split
    · exact ((kept_addReason n r.seq .stationInhibited s).trans (kept_setGummed n r.seq .skipped _)).trans (.of_eq (by simp))
    · split
      · exact (kept_setGummed n r.seq .skipped _).trans (.of_eq (by simp))
      · split
        · exact ((kept_addReason n r.seq .gumFault s).trans (kept_setGummed n r.seq .skipped _)).trans (.of_eq (by simp))
        · exact (kept_gumProgress n ch r s).trans (.of_eq (by simp))
  · exact .of_eq (by simp)

theorem kept_cameraEdge (r : Record) (s : State) (hu : UniqueSeqs s) (hr : r ∈ s.chain.records) : RecordsKept n s (cameraEdge r s) := by
  unfold cameraEdge
  split
  · rename_i h
    refine RecordsKept.trans (RecordsKept.update n r.seq (fun r => { r with verdict := .pending }) s (fun r' hr' he => ?_)) (.of_eq (by simp))
    have : r' = r := hu.eq hr' hr he
    subst this
    exact ⟨rfl, by simp, fun _ => ⟨rfl, rfl⟩, .inr ⟨h.2.2, rfl⟩, id, .inl, fun ⟨a, b, c, d⟩ => ⟨a, by
      have := b; rw [h.2.2] at this; simpa using this, by simp, d⟩⟩
  · exact .of_eq (by simp)

theorem kept_onEdge (ch : Channel) (q : Seq) (s : State) (hu : UniqueSeqs s) : RecordsKept n s (onEdge ch q s) := by
  unfold onEdge
  split
  · exact .of_eq (by simp)
  · rename_i r hr
    split <;> first | exact .of_eq (by simp) | exact kept_patchEdge n _ _ s | exact kept_gumEdge n _ _ s | exact kept_cameraEdge n _ s hu (mem_bySeq hr).1

theorem kept_takeEdge (e : Edge) (s : State) (hu : UniqueSeqs s) : RecordsKept n s (takeEdge e s) := by
  unfold takeEdge
  split
  · exact kept_onEdge n _ _ s hu
  · exact .of_eq (by simp)

theorem kept_decide (st : LineState) (v : Bool) (r : Record) (h : r.fate = .undecided) : Record.Kept n r (decideRecord st v r) := by
  have hr := decideRecord_place st v r
  have hv : (decideRecord st v r).verdict = r.verdict := by
    unfold decideRecord Record.addReason; (repeat' split) <;> simp_all
  have hc : (decideRecord st v r).counted = r.counted := by
    unfold decideRecord Record.addReason; (repeat' split) <;> rfl
  refine ⟨hr, ?_, fun h' => absurd h h', .inl hv, fun x => hc ▸ x, fun x => .inl (hc ▸ x), ?_⟩
  · unfold decideRecord Record.addReason; (repeat' split) <;> simp [mono_add]
  · rintro ⟨a, b, c, d⟩
    unfold decideRecord Record.addReason
    (repeat' split) <;> refine ⟨?_, ?_, ?_, ?_⟩ <;> simp_all [maskHas, maskAdd]

theorem kept_gateDecision (r : Record) (s : State) (hu : UniqueSeqs s) (hr : r ∈ s.chain.records) (hf : r.fate = .undecided) : RecordsKept n s (gateDecision r s) := by
  have h1 : RecordsKept n s (updateRecord r.seq (decideRecord s.line.state (yes (fieldsOf s r.bank).noVerdictFate)) s) := by
    refine RecordsKept.update n _ _ s (fun r' hr' he => ?_)
    have : r' = r := hu.eq hr' hr he
    subst this
    exact kept_decide n _ _ _ hf
  refine h1.trans (.of_eq ?_)
  simp only [gateDecision]; split <;> simp

theorem kept_gateCrossing (p : Nat) (s : State) (hu : UniqueSeqs s) : RecordsKept n s (gateCrossing p s) := by
  unfold gateCrossing
  split
  · exact RecordsKept.refl n s
  · rename_i r h
    unfold gateSubject at h
    split at h
    · cases h
    · split at h
      · cases h
      · rename_i r' hb
        split at h
        · rename_i hc
          cases h
          exact kept_gateDecision n _ s hu (mem_before hb).1 hc.1
        · cases h

theorem kept_countEvent (r : Record) (s : State) (hu : UniqueSeqs s) (hr : r ∈ s.chain.records) (hp : r.position = n) : RecordsKept n s (countEvent r s) := by
  have h1 : ∀ x : State, x.chain = s.chain → RecordsKept n s (countInto r x) := by
    intro x hx
    have : RecordsKept n x (countInto r x) := by
      refine RecordsKept.update n _ _ { x with batch := _ } (fun r' hr' he => ?_)
      have : r' = r := hu.eq (hx ▸ hr') hr he
      subst this
      exact ⟨rfl, by simp, fun _ => ⟨rfl, rfl⟩, .inl rfl, fun _ => rfl, fun _ => .inr hp, id⟩
    exact RecordsKept.trans (.of_eq hx) this
  simp only [countEvent]
  split
  · exact (h1 (openIfNone r (changeoverCheck r s)) (by simp)).trans (.of_eq (by simp))
  · exact (h1 (openIfNone r (changeoverCheck r s)) (by simp)).trans (.of_eq (by simp))

theorem kept_countCrossing (p : Nat) (s : State) (hu : UniqueSeqs s) (hn : s.geometry.posCount = n) : RecordsKept n s (countCrossing p s) := by
  unfold countCrossing
  split
  · exact RecordsKept.refl n s
  · rename_i r h
    unfold countSubject at h
    split at h
    · cases h
    · rename_i r' hb
      split at h
      · cases h
        exact kept_countEvent n _ s hu (mem_at hb).1 (by rw [(mem_at hb).2, hn])
      · cases h

theorem kept_markZone (s : State) : RecordsKept n s (markZone s) := by
  refine RecordsKept.map n _ _ _ (fun r _ => ?_) rfl
  split
  · exact record_kept_addReason n _ r
  · exact Record.Kept.refl n r
theorem kept_raiseCause (c : HaltCause) (l : Option Link) (s : State) : RecordsKept n s (raiseCause c l s) := by
  have : RecordsKept n s (enterHalt c l s) := by
    simp only [enterHalt]
    split
    · exact (kept_markZone n s).trans (.of_eq (by simp))
    · exact .of_eq (by simp)
  unfold raiseCause; split <;> first | exact RecordsKept.refl n s | exact this
theorem kept_examineLevels (s : State) : RecordsKept n s (examineLevels s) := by
  exact runAll_induct (RecordsKept n s) (fun _ => True) (fun _ _ h => h) (fun t x _ h => h.trans (kept_raiseCause n _ _ x)) _ _ (fun _ _ => trivial) (RecordsKept.refl n s)
theorem kept_completeDrain (s : State) : RecordsKept n s (completeDrain s) := by
  simp only [completeDrain]
  refine RecordsKept.trans (.of_eq ?_) (kept_examineLevels n _)
  split <;> simp
theorem kept_chainEmptyNotice (s : State) : RecordsKept n s (chainEmptyNotice s) := by
  unfold chainEmptyNotice; split <;> first | exact RecordsKept.refl n s | exact kept_completeDrain n s | exact .of_eq (by simp)


/-! ### Crossings and the boundary's listeners -/
theorem kept_doCrossing (v : Bool) (p : Nat) (t : CrossingTask) (s : State) (hu : UniqueSeqs s) (hn : s.geometry.posCount = n) : RecordsKept n s (doCrossing v p t s) := by
  cases t
  · exact kept_takeEdge n _ s hu
  · exact kept_markCrossing n _ s
  · exact kept_patchCrossing n _ s
  · exact kept_foldCrossing n _ _ s
  · exact kept_gateCrossing n _ s hu
  · exact kept_countCrossing n _ s hu hn

/-- A state whose records stand in place, under the same geometry. -/
structure InPlace (n : Nat) (s t : State) : Prop where
  records : RecordsKept n s t
  places : t.chain.places = s.chain.places
  geometry : t.geometry = s.geometry
  config : t.line.state = .config ↔ s.line.state = .config

theorem InPlace.refl (s : State) : InPlace n s s := ⟨RecordsKept.refl n s, rfl, rfl, Iff.rfl⟩
theorem InPlace.trans {n : Nat} {a b c : State} (h : InPlace n a b) (h' : InPlace n b c) : InPlace n a c :=
  ⟨h.records.trans h'.records, h'.places.trans h.places, h'.geometry.trans h.geometry, h'.config.trans h.config⟩

theorem inPlace_crossing (v : Bool) (p : Nat) (s : State) (hu : UniqueSeqs s) (hn : s.geometry.posCount = n) : InPlace n s (crossing v s p) := by
  refine runAll_induct (InPlace n s) (fun _ => True) (fun _ _ h => ⟨h.records, h.places, h.geometry, h.config⟩) (fun t x _ h => ?_) _ _ (fun _ _ => trivial) (InPlace.refl n s)
  exact h.trans ⟨kept_doCrossing n v p t x (unique_of_places h.places hu) (by rw [h.geometry]; exact hn), by simp, by simp, by simp⟩

theorem inPlace_crossings (v : Bool) (lo hi : Nat) (s : State) (hu : UniqueSeqs s) (hn : s.geometry.posCount = n) : InPlace n s (crossings v lo hi s) := by
  unfold crossings
  generalize List.range' (lo + 1) (hi - lo) = l
  have : ∀ (l : List Nat) (x : State), InPlace n s x → InPlace n s (l.foldl (crossing v) x) := by
    intro l
    induction l with
    | nil => intro x h; exact h
    | cons p l ih =>
      intro x h
      exact ih _ (h.trans (inPlace_crossing n v p x (unique_of_places h.places hu) (by rw [h.geometry]; exact hn)))
  exact this l s (InPlace.refl n s)

theorem inPlace_takeOverdue (s : State) (hu : UniqueSeqs s) : InPlace n s (takeOverdue s) := by
  have : InPlace n s (runFree (fun x s => ([], takeEdge x.edge s)) overdueAble (overdueEdges s).length (overdueEdges s) s) := by
    refine runFree_induct (InPlace n s) (fun _ => True) (fun _ _ h => ⟨h.records, h.places, h.geometry, h.config⟩) (fun t x _ h => ⟨?_, fun _ _ => trivial⟩) _ _ _ (fun _ _ => trivial) (InPlace.refl n s)
    exact h.trans ⟨kept_takeEdge n _ x (unique_of_places h.places hu), by simp, by simp, by simp⟩
  exact this.trans ⟨.of_eq (by simp [takeOverdue]), by simp [takeOverdue], by simp [takeOverdue], by simp [takeOverdue]⟩

theorem inPlace_firingBoundary (t : Nat) (v : Bool) (s : State) (hu : UniqueSeqs s) : InPlace n s (firingBoundary t v s) := by
  have h1 := inPlace_takeOverdue n s hu
  have h2 : InPlace n s (planningStep (takeSnapshot t v (openPitch (takeOverdue s)))) := h1.trans ⟨.of_eq (by simp), by simp, by simp, by simp⟩
  refine runAll_induct (InPlace n s) (fun _ => True) (fun _ _ h => ⟨h.records, h.places, h.geometry, h.config⟩) (fun t x _ h => ?_) _ _ (fun _ _ => trivial) h2
  exact h.trans ⟨kept_takeEdge n _ x (unique_of_places h.places hu), by simp, by simp, by simp⟩

theorem inPlace_raiseCause (c : HaltCause) (l : Option Link) (s : State) : InPlace n s (raiseCause c l s) := ⟨kept_raiseCause n c l s, by simp, by simp, by simp⟩

theorem inPlace_doBoundary (k : Nat) (w v : Bool) (t : BoundaryTask) (s : State) (ht : t ≠ .chain) (hu : UniqueSeqs s) (hn : s.geometry.posCount = n) :
    InPlace n s (doBoundary k w v t s).2 := by
  cases t
  · exact inPlace_raiseCause n _ _ s
  · exact absurd rfl ht
  · exact inPlace_firingBoundary n _ _ s hu
  · exact ⟨kept_registrationBoundary n s, by simp [doBoundary], by simp [doBoundary], by simp [doBoundary]⟩
  · exact ⟨kept_gumFoldBoundary n _ s, by simp [doBoundary], by simp [doBoundary], by simp [doBoundary]⟩
  · exact ⟨kept_gateCrossing n _ s hu, by simp [doBoundary], by simp [doBoundary], by simp [doBoundary]⟩
  · refine ⟨?_, by simp [doBoundary], by simp [doBoundary], by simp [doBoundary]⟩
    exact RecordsKept.trans (b := { s with batch.kickMark := none }) (.of_eq rfl) (kept_countCrossing n 0 { s with batch.kickMark := none } hu hn)
  · exact ⟨kept_chainEmptyNotice n s, by simp [doBoundary], by simp [doBoundary], by simp [doBoundary]⟩
end Sys2Proof.Machine
end

