-- ==== Sys2Proof/WellFormed.lean ====
section
/-! DEFINITION. Which commands can come about: a request frame carries at most 56 payload bytes (R153 step 2, R164). -/

namespace Sys2Proof

/-- The payload of a request command; `none` for a reset, a field event or a link event. -/
def Instr.payload? : Instr → Option (List Byte)
  | .powerOnReset _ _ => none
  | .forwardCountStep _ _ => none
  | .backwardCountStep => none
  | .illegalTransition => none
  | .indexEdge _ _ => none
  | .pitchTimerHold => none
  | .markEdge => none
  | .patchPresentEdge => none
  | .patchWebOkChange _ => none
  | .gumOkChange _ => none
  | .foldCheckEdge => none
  | .estopChange _ => none
  | .jamChange _ => none
  | .exchangeStart _ => none
  | .exchangeEnd _ _ => none
  | .linkTimeout _ _ => none
  | .collect _ p => some p
  | .readStatus _ p => some p
  | .readEvents _ p => some p
  | .ackEvents _ p => some p
  | .enableEvents _ p => some p
  | .disableEvents _ p => some p
  | .readCounters _ p => some p
  | .feedHold _ p => some p
  | .feedRelease _ p => some p
  | .inhibitStation _ p => some p
  | .releaseStation _ p => some p
  | .halt _ p => some p
  | .readRecord _ p => some p
  | .writeGeometry p => some p
  | .commitGeometry p => some p
  | .releaseGeometry p => some p
  | .writeBank p => some p
  | .validateBank p => some p
  | .readBank p => some p
  | .armChangeover p => some p
  | .disarm p => some p
  | .start p => some p
  | .drain p => some p
  | .clearHalt p => some p
  | .lineReset p => some p
  | .readHaltRecord p => some p
  | .readDrift p => some p
  | .clearHolds p => some p
  | .readTriggers p => some p
  | .verdict p => some p
  | .setBatchSize p => some p
  | .closeBatch p => some p
  | .peekBatch p => some p
  | .takeBatch p => some p

/-- A command is well formed when its payload, if it has one, fits a request frame (R153 step 2: 56 or less). -/
def Instr.wellFormed (i : Instr) : Bool :=
  match i.payload? with
  | none => true
  | some p => decide (p.length ≤ 56)

end Sys2Proof
end

