-- ==== Sys2Proof/Tests/Slice0.lean ====
section
/-! SUPPORT. Checks on small states: the frame bound, the spec's worked cases, one step of each family, and for each
statement with hypotheses a state and operands that meet them. -/

namespace Sys2Proof.Tests

open Sys2Proof Sys2Proof.Machine

/-! ## Small states -/

/-- The state a command leaves. -/
def after (i : Instr) (s : State) : State :=
  match exec i s with
  | .next t => t
  | .fault _ => s
  | .refused _ => s

/-- The answer a link holds: status, payload. -/
def answerOf (l : Link) (s : State) : Option (Status × List Byte) :=
  (s.ports.get l).held.map fun r => (r.status, r.payload)

/-- The fields of a valid bank, in the manner of the worked cases 3.9.1 and 4.9.1. -/
def fields : BankFields where
  recipeTag := 520
  inspectEnable := 1
  noVerdictFate := 1
  gateDecide := 3000
  countPhase := 1200
  windowEnable := 1
  markExpected := 1000
  markOpen := 500
  markClose := 1500
  tol := 128
  shiftMax := 64
  driftAlert := 2
  patchCheckOpen := 500
  patchCheckClose := 1500
  gumSeamEnable := 1
  gumFlapEnable := 1
  skipGumOnReject := 0
  foldCheckEnable := 1
  foldOpen := 500
  foldClose := 1500
  channels := .all ⟨1, 1500, 1900⟩

/-- A record of bank 0 fresh from the feed, at a position. -/
def fresh (q : Seq) (p : Nat) : Record := { newRecord q .bank0 fields with position := p }

/-- A line in a state, with bank 0 active and records in the chain; the accounts agree. -/
def lineIn (st : LineState) (records : List Record) : State :=
  { State.reset with
    line := { State.reset.line with state := st, locked := st != .config, closeFlag := if st = .drain then some true else none }
    chain := { State.reset.chain with
      records := records, fed := BitVec.ofNat 32 records.length, nextSeq := BitVec.ofNat 24 records.length }
    banks := ⟨⟨.active, fields⟩, .powerOn⟩
    sensors := ⟨true, true, false, false, false⟩ }

/-- A running line with two records. -/
def running : State := lineIn .run [fresh 1 0, fresh 0 3]

/-- A running line whose batch unit holds an open batch and one in the queue. -/
def batching : State :=
  { running with batch := { running.batch with
      openBatch := some ⟨40, .bank0, 520, 3, 2, 1001, 1002, 0, false, false, false⟩
      queue := [⟨39, .bank0, 520, 3, 3, 998, 1000, 0, .full, false, false⟩]
      nextNumber := 41 } }

/-- A running line with a record at pos_MARK whose window stands in a state. -/
def marking (w : MarkWindow) (phase : Nat) : State :=
  { lineIn .run [fresh 7 1] with
    shaft := { State.reset.shaft with count := phase, phase := phase }
    registration := { State.reset.registration with markSubject := some 7, markWindow := w } }

/-- The index is checked against an index_count, from a count. -/
def indexing (count indexCount : Nat) : State :=
  { lineIn .run [] with
    geometry := { State.reset.geometry with indexCheck := 1, indexCount := indexCount }
    shaft := { State.reset.shaft with count := count, phase := count, highWater := count } }

/-- The line port in an exchange begun in IDLE, or in WORKING for a busy one. -/
def exchanging (busy abandoned : Bool) (clocked : Nat) (buffer : List Byte) : State :=
  { State.reset with ports := { State.reset.ports with line := { State.reset.ports.line with
      state := if busy then .working else .receiving
      work := if busy then some ⟨.start, []⟩ else none
      buffer := buffer
      exchange := some ⟨busy, abandoned, responseFrame 0 ⟨.noResponse, 0, []⟩, 0, if busy then 1 else 0, clocked⟩ } } }

/-! ## The frame bound (R153 step 2, R164) -/

theorem test_frame_bound : (Instr.writeGeometry (List.replicate 56 0)).wellFormed = true := by decide

theorem test_frame_too_long : (Instr.writeGeometry (List.replicate 57 0)).wellFormed = false := by decide

/-- R164 gives this frame's bytes. -/
theorem test_collect_frame : requestFrame Command.collect.code [] = [0xB5, 0x01, 0x00, 0x15] := by decide +kernel

theorem test_table_spells_nothing : decodeTableWord 8 0 = none := by decide

/-! ## The spec's worked cases -/

/-- Case 4.9.1. -/
theorem test_drift_filter :
    [12, 10, -4, 12, 2, -10].foldl (fun m e => m ++ [driftFilter (m.getLastD 0) e]) [] = [24, 41, 28, 48, 46, 21] := by decide

/-- Case 3.9.1. -/
theorem test_leads_patch_glue : [lead true 48000 2500, lead true 48000 1500] = [213, 128] := by decide

/-- Case 3.9.1. -/
theorem test_edges_patch_glue :
    (effectiveOn ⟨1, 1500, 1900⟩ 13 213, firingWidth ⟨1, 1500, 1900⟩ 213 128) = (1300, 485) := by decide

/-- Case 3.9.2. -/
theorem test_edges_cut_knife :
    (lead true 50000 3000, lead true 50000 1000, effectiveOn ⟨1, 40, 240⟩ 0 246, firingWidth ⟨1, 40, 240⟩ 246 82)
    = (246, 82, -206, 364) := by decide

/-- Case 3.9.3. -/
theorem test_lead_clamped :
    [lead true 35000 20000, lead true 40000 20000] = [2048, 2048]
    ∧ [leadClamped true 35000 20000, leadClamped true 40000 20000] = [true, false] := by decide

/-- Case 1.8.2. -/
theorem test_index_differences :
    [indexing 4094 0, indexing 5 0, indexing 3 0, indexing 1 4095].map indexDifference = [2, -5, -3, -2] := by decide

/-- Case 1.8.2, edge 2. -/
theorem test_index_realigns_backward :
    let t := after (.indexEdge 0 false) (indexing 5 0)
  (t.shaft.count, t.shaft.highWater, t.shaft.mismatchRun, t.shaft.reverseDebt) = (0, 5, 1, 0) := by decide

/-- Case 1.8.2, the last paragraph. -/
theorem test_index_owes_a_wrap :
    let t := after (.indexEdge 0 false) (indexing 1 4095)
  (t.shaft.count, t.shaft.highWater, t.shaft.reverseDebt, t.line.state) = (4095, 1, 1, .run) := by decide

/-! ## Shaft and sensors -/

/-- R1: (0,0) is followed by (1,0). -/
theorem test_forward_step :
    let t := after (.forwardCountStep 10 false) running
  (t.shaft.pairA, t.shaft.pairB, t.shaft.count, t.shaft.highWater, t.shaft.pitchTimer) = (true, false, 1, 1, 10) := by decide

/-- Case 1.8.1, the backward wrap. -/
theorem test_backward_step_owes :
    let t := after .backwardCountStep (lineIn .halt [])
  (t.shaft.pairA, t.shaft.pairB, t.shaft.count, t.shaft.reverseDebt) = (false, true, 4095, 1) := by decide

theorem test_boundary_feeds :
    ((chainBoundary running).chain.records.map fun r => (r.seq, r.position)) = [(2, 0), (1, 1), (0, 4)] := by decide

/-- R27: an undecided record leaves from the gate as rejected. -/
theorem test_undecided_leaves_rejected :
    let t := chainBoundary (lineIn .halt [fresh 0 16])
  (t.chain.records, t.chain.rejected, t.chain.good) = ([], 1, 0) := by decide

theorem test_mark_measured_early :
    ((after .markEdge (marking .opened 974)).chain.records.map fun r => (r.regError, r.shift)) = [(some (-26), some (-26))] := by decide

/-- R24: DOUBLE_MARK is the second reason. -/
theorem test_mark_second :
    ((after .markEdge (marking .captured 974)).chain.records.map fun r => r.reasons) = [2] := by decide

/-- R145: GUM_LOW is the second cause. -/
theorem test_gum_low_inhibits : (after (.gumOkChange false) running).line.feedInhibit = 2 := by decide

/-- R142: positions 2 to 15, DISTURBED. -/
theorem test_jam_marks_the_zone :
    ((after (.jamChange true) running).chain.records.map fun r => (r.position, r.reasons)) = [(0, 0), (3, 0x200)] := by decide

/-! ## Links and requests -/

/-- R152: NO_RESPONSE. -/
theorem test_first_exchange :
    ((after (.exchangeStart .line) State.reset).ports.line.exchange.map fun x => x.frame) = some [0xB5, 0x10, 0, 0, 0, 0x67] := by decide +kernel

/-- R152: the frame's last byte, then 0x00. -/
theorem test_bytes_after_the_frame :
    (after (.exchangeEnd .line [0xB5, 0x01]) (exchanging true false 5 [])).ports.line.shifted = [0x67, 0x00] := by decide +kernel

/-- R151: the reset pin asserted. -/
theorem test_reset_pin_held :
    let t := after (.exchangeStart .line) (after (.powerOnReset true (true, false)) running)
  (t.ports.line.exchange, t.pins.ready.line, t.pins.dataOut.line, t.line.state, t.shaft.pairA) = (none, false, .low, .config, true) := by decide

/-- R151: at its release the port is IDLE. -/
theorem test_reset_pin_released :
    let t := after (.powerOnReset false (false, false)) (after (.powerOnReset true (true, false)) running)
  (t.ports.line.state, t.pins.ready.line, t.pins.dataOut.line) = (.idle, true, .bytes []) := by decide

theorem test_request_taken :
    ((after (.exchangeEnd .line [0xB5, 0x01, 0x00, 0x15]) (exchanging false false 0 [])).ports.line.work)
    = some ⟨.collect, []⟩ := by decide +kernel

/-- Case 10.7, exchange 5. -/
theorem test_corrupted_request :
    let p := (after (.exchangeEnd .line [0xB5, 0x01, 0x00, 0x14]) (exchanging false false 0 [])).ports.line
  (p.held, p.frameErrors, p.pending) = (some ⟨.frameError, 0x01, []⟩, 1, 0x1000) := by decide +kernel

theorem test_timeout_seen :
    let p := (after (.linkTimeout .line [0xB5]) (exchanging false false 0 [])).ports.line
  (p.held, p.flags, p.timeouts) = (some ⟨.frameError, 0, []⟩, 2, 1) := by decide

theorem test_status_of_a_running_line :
    answerOf .packer (after (.readStatus .packer []) running)
    = some (.ok, [2, 0, 0, 0, 4, 0, 2, 0, 0, 0, 0, 0, 0]) := by decide

/-- R117: 1 to 2000. -/
theorem test_batch_size_argument :
    [answerOf .packer (after (.setBatchSize [0xD0, 0x07]) running), answerOf .packer (after (.setBatchSize [0xD1, 0x07]) running)]
    = [some (.ok, []), some (.badArgument, [])] := by decide

/-- Case 7.8.1, the count of 1006. -/
theorem test_batch_overfills :
    let full := { batching with batch.queue := List.replicate 16 ⟨39, .bank0, 520, 3, 3, 998, 1000, 0, .full, false, false⟩ }
  ((countEvent (fresh 0 20) full).batch.openBatch.map fun o => (o.count, o.overfill)) = some (3, true) := by decide

theorem test_take_mismatch : answerOf .packer (after (.takeBatch [40, 0]) batching) = some (.mismatch, []) := by decide

/-- Run 11.5. -/
theorem test_late_verdict :
    let s := lineIn .run [{ fresh 0 15 with fate := .passUnverified, verdict := .pending }]
  answerOf .inspection (after (.verdict [0, 0, 0, 1, 7]) s) = some (.tooLate, []) := by decide

theorem test_geometry_locked : answerOf .line (after (.commitGeometry []) running) = some (.locked, []) := by decide

/-- R135: the power-on geometry is valid. -/
theorem test_commit_reset_geometry : (after (.commitGeometry []) State.reset).line.state = .ready := by decide

theorem test_start_needs_a_bank :
    answerOf .line (after (.start []) (after (.commitGeometry []) State.reset)) = some (.wrongState, []) := by decide

/-- R127: in CONFIG the changeover takes effect at once. -/
theorem test_armed_at_once :
    answerOf .line (after (.armChangeover [0]) { State.reset with banks := ⟨⟨.valid, fields⟩, .powerOn⟩ }) = some (.ok, [4]) := by decide

theorem test_holds_kept_apart :
    (after (.feedRelease .line []) (after (.feedHold .packer []) running)).line.feedInhibit = 0x20 := by decide

theorem test_inhibit_all : (after (.inhibitStation .inspection [3]) running).line.holders = ⟨2, 2, 2⟩ := by decide

theorem test_record_read :
    answerOf .line (after (.readRecord .line [1, 1, 0, 0]) running)
    = some (.ok, [1, 0, 0, 0, 0, 0, 0, 0, 0, 0, 0, 0, 1, 1, 2, 0, 0, 0]) := by decide

/-- After LINE RESET an EMPTY target's window does not open in that pitch (R89); after the next boundary it may. -/
theorem test_fold_window_after_line_reset :
    let s := after (.lineReset []) { lineIn .ready [] with gumFold := { State.reset.gumFold with foldTarget := .empty .bank0 } }
    let run := { s with line.state := .run }
    s.gumFold.foldTarget = .empty .bank0 ∧ (foldCrossing true 500 run).gumFold.foldOpen = false
    ∧ (foldCrossing true 500 (gumFoldBoundary false run)).gumFold.foldOpen = true := by decide

/-- At a forward boundary an EMPTY target with fold_open 0 opens its window under an active FOLD_CHECK level and counts a
stray blank (R84 step 5, R85, R88); a record target not settled is settled first (R84 step 1, R87). -/
theorem test_fold_boundary :
    let s := { lineIn .run [fresh 7 11] with
      banks := ⟨⟨.active, { fields with foldCheckEnable := 1, foldOpen := 0 }⟩, .powerOn⟩
      gumFold := { State.reset.gumFold with foldTarget := .record 7 } }
    let t := gumFoldBoundary true s
    t.gumFold.strayBlanks = 1 ∧ maskHas t.ports.packer.pending Event.stray.index = true
    ∧ (t.chain.records.map Record.reasons) = [maskAdd 0 Reason.foldFault.index]
    ∧ (gumFoldBoundary false s).gumFold.strayBlanks = 0 := by decide

theorem test_drain_empty : (after (.drain [1]) (lineIn .run [])).line.state = .ready := by decide

/-! ## Hypotheses met: the queue and the laws -/

theorem witness_StepRunsTheFrontCommand : State.reset.pending = [] := rfl

/-- A state with the reset pin asserted, and a command that is not POWER_ON_RESET. -/
theorem witness_EveryCommandCompletes :
    (after (.powerOnReset true (true, false)) running).sensors.resetPin = true ∧ running.sensors.resetPin = false
    ∧ ∀ pin pair, Instr.markEdge ≠ .powerOnReset pin pair := ⟨by decide, by decide, by simp⟩

theorem witness_LineStateMoves :
    (lineIn .ready []).sensors.resetPin = false ∧ exec (.start []) (lineIn .ready []) = .next (after (.start []) (lineIn .ready [])) := ⟨rfl, rfl⟩

theorem witness_OnlyItsOwnCommandsChangeIt :
    running.sensors.resetPin = false ∧ exec (.halt .packer []) running = .next (after (.halt .packer []) running)
    ∧ ∀ pin pair, Instr.halt .packer [] ≠ .powerOnReset pin pair := ⟨rfl, rfl, by simp⟩

/-- Every law below is kept by this step. -/
theorem witness_step :
    step { batching with pending := [.estopChange true, .markEdge] }
    = .next (after (.estopChange true) { batching with pending := [.markEdge] }) := rfl

theorem witness_Accounts : Accounts { batching with pending := [.estopChange true, .markEdge] } := by decide

theorem witness_ChainLaw : ChainLaw { batching with pending := [.estopChange true, .markEdge] } := by decide

theorem witness_RecordsSound : RecordsSound { batching with pending := [.estopChange true, .markEdge] } := by decide

theorem witness_BankLaw : BankLaw { batching with pending := [.estopChange true, .markEdge] } := by decide

theorem witness_ShaftLaw : ShaftLaw { batching with pending := [.estopChange true, .markEdge] } := by decide

theorem witness_QuietLaw : QuietLaw { batching with pending := [.estopChange true, .markEdge] } := ⟨by decide, by decide⟩

theorem witness_SupplyLaw : SupplyLaw { batching with pending := [.estopChange true, .markEdge] } := by decide

theorem witness_BatchLaw : BatchLaw { batching with pending := [.estopChange true, .markEdge] } := by decide

theorem witness_PortLaw : PortLaw { batching with pending := [.estopChange true, .markEdge] } := by simp [batching, running, lineIn, State.reset, State.powerOn, Port.powerOn, Port.Law]

/-! ## Hypotheses met: the shaft -/

theorem witness_ForwardStepWithinThePitch :
    let s := { running with shaft.reverseDebt := 1 }
  0 < s.shaft.reverseDebt ∧ running.sensors.resetPin = false ∧ running.shaft.count + 1 < running.shaft.workingCpp ∧ running.shaft.reverseDebt = 0
    ∧ (running.shaft.count + 1) * 4096 / running.shaft.workingCpp ≤ 4095 := by decide

/-- The period of 30 000 µs is the shortest that is no overspeed. -/
theorem witness_ForwardBoundaryMovesTheChain :
    let s := { running with shaft := { running.shaft with count := 4095, timingQualified := true } }
  s.sensors.resetPin = false ∧ s.shaft.workingCpp ≤ s.shaft.count + 1 ∧ s.shaft.reverseDebt = 0
    ∧ BoundaryWithoutCause { s with shaft.pitchTimer := min (s.shaft.pitchTimer + 30000) 2000001 } := by decide

theorem witness_BoundaryCausesHaltTheLine :
    let fast := { running with shaft := { running.shaft with count := 4095, timingQualified := true } }
  let blind := { fast with geometry.indexCheck := 1, shaft.boundariesSinceIndex := 1 }
  (fast.line.state = .run ∧ fast.shaft.timingQualified = true ∧ min (fast.shaft.pitchTimer + 29999) 2000001 < 30000)
    ∧ (blind.line.state = .run ∧ blind.geometry.indexCheck = 1 ∧ blind.shaft.boundariesSinceIndex = 1
      ∧ ¬min (blind.shaft.pitchTimer + 30000) 2000001 < 30000)
    ∧ fast.sensors.resetPin = false ∧ blind.sensors.resetPin = false
    ∧ fast.shaft.workingCpp ≤ fast.shaft.count + 1 ∧ fast.shaft.reverseDebt = 0
    ∧ blind.shaft.workingCpp ≤ blind.shaft.count + 1 ∧ blind.shaft.reverseDebt = 0 := by decide

/-- The states of R16's table, with an index missing, and a drain whose last record leaves at this boundary. -/
theorem witness_BoundaryCauses_states :
    ([LineState.config, .ready, .drain, .halt].all fun st =>
      let s := { lineIn st [fresh 0 20] with geometry.indexCheck := 1, shaft.count := 4095, shaft.boundariesSinceIndex := 1 }
      decide (s.sensors.resetPin = false ∧ s.shaft.workingCpp ≤ s.shaft.count + 1 ∧ s.shaft.reverseDebt = 0
        ∧ s.line.state = st ∧ s.geometry.indexCheck = 1 ∧ 1 ≤ s.shaft.boundariesSinceIndex))
    ∧ (chainBoundary (lineIn .drain [fresh 0 20])).chain.records = [] := by decide

theorem witness_BackwardStep :
    [LineState.config, .ready, .run, .drain, .halt].all fun st =>
  let s := lineIn st []
  let owing := { s with shaft.reverseDebt := 255 }
  decide (s.sensors.resetPin = false ∧ s.line.state = st ∧ ¬(s.shaft.count = 0 ∧ 255 ≤ s.shaft.reverseDebt)
    ∧ owing.line.state = st ∧ owing.shaft.count = 0 ∧ 255 ≤ owing.shaft.reverseDebt) := by decide

/-- Case 1.8.2, edge 3; both clauses about a second mismatch are met, the HALT one by the same shaft in HALT. -/
theorem witness_IndexEdge :
    let s := { indexing 3 0 with shaft := { (indexing 3 0).shaft with mismatchRun := 1 } }
  ShaftLaw s ∧ s.sensors.resetPin = false ∧ s.geometry.indexCheck = 1 ∧ s.line.state ≠ .config ∧ s.shaft.reverseDebt = 0
    ∧ s.shaft.lastStep ≠ some .backward ∧ indexDifference s = -3 ∧ s.shaft.mismatchRun = 1 := by decide

/-- A count that needs none, both directions within the pitch at its ends, and both across the wrap at it. -/
theorem witness_IndexEdge_directions :
    [(0, 0, 0), (5, 0, -5), (1, 4095, -2), (3, 5, 2), (4093, 4095, 2), (4094, 0, 2)].all fun (count, index, d) =>
  let s := indexing count index
  decide (ShaftLaw s ∧ s.sensors.resetPin = false ∧ s.geometry.indexCheck = 1 ∧ s.line.state ≠ .config
    ∧ s.shaft.reverseDebt = 0 ∧ s.shaft.lastStep ≠ some .backward ∧ indexDifference s = d ∧ BoundaryWithoutCause s) := by decide

theorem witness_IndexEdge_ignored :
    let s := { indexing 3 0 with shaft := { (indexing 3 0).shaft with lastStep := some .backward } }
  State.reset.geometry.indexCheck ≠ 1 ∧ s.shaft.lastStep = some .backward := by decide

/-! ## Hypotheses met: the sensors -/

/-- Both sides of the tolerance of 128. -/
theorem witness_MarkEdge :
    running.line.state = .run ∧ running.registration.markWindow = .shut ∧ (lineIn .halt []).line.state = .halt
    ∧ (marking .captured 974).registration.markSubject = some 7
    ∧ (marking .opened 1128).registration.markWindow = .opened ∧ recordBySeq (marking .opened 1128) 7 = some (fresh 7 1)
    ∧ registrationError 1128 fields.markExpected = fields.tol ∧ registrationError 1129 fields.markExpected = fields.tol + 1 := by decide

theorem witness_Measurements :
    0 < running.shaft.workingCpp ∧ running.shaft.workingCpp % 2 = 0
    ∧ ((192 : Int) ≤ 32767 ∧ -192 ≤ (0 : Int) ∧ (0 : Int) ≤ 192 ∧ -192 ≤ 16 * (12 : Int) ∧ 16 * (12 : Int) ≤ 192) := by decide

theorem witness_PatchAndFoldEdges :
    let patched := { fresh 7 4 with patched := .done }
  let s := { lineIn .run [patched] with
    registration := { State.reset.registration with patchSubject := some 7, patchOpen := true }
    gumFold := { State.reset.gumFold with foldTarget := .record 7, foldOpen := true } }
  let e := { s with gumFold.foldTarget := .empty .bank0 }
  s.line.state = .run ∧ s.registration.patchOpen = true ∧ s.registration.patchSubject = some 7
    ∧ recordBySeq s 7 = some patched ∧ patched.patched = .done ∧ running.registration.patchOpen = false
    ∧ s.gumFold.foldOpen = true ∧ s.gumFold.foldSeen = false ∧ s.gumFold.foldTarget = .record 7
    ∧ e.gumFold.foldTarget = .empty .bank0 ∧ running.gumFold.foldTarget = .absent := by decide

/-! ## Hypotheses met: halts and links -/

theorem witness_HaltCauses :
    running.sensors.resetPin = false ∧ (lineIn .config []).line.state = .config ∧ (lineIn .halt []).line.state = .halt
    ∧ running.line.state ≠ .config ∧ running.line.state ≠ .halt ∧ running.sensors.estop = false ∧ running.sensors.jam = false
    ∧ (after (.estopChange true) running).sensors.estop = true := by decide

theorem witness_ExchangeStart :
    State.reset.ports.line.exchange = none ∧ State.reset.ports.line.state = .idle
    ∧ (exchanging false false 0 []).ports.line.exchange ≠ none
    ∧ (after (.exchangeEnd .line [0xB5, 0x01, 0x00, 0x15]) (exchanging false false 0 [])).ports.line.state = .working
    ∧ (after (.exchangeEnd .line [0xB5, 0x01, 0x00, 0x15]) (exchanging false false 0 [])).ports.line.exchange = none := by decide +kernel

/-- The longest request frame. -/
theorem witness_ExchangeEnd_taken :
    let payload := List.replicate 56 (0 : Byte)
  Command.writeGeometry.acceptedOn .line = true ∧ payload.length ≤ 56
    ∧ (exchanging false false 0 []).ports.line.buffer ++ requestFrame Command.writeGeometry.code payload
      = requestFrame Command.writeGeometry.code payload ++ [] := ⟨rfl, by decide, by simp [exchanging, State.reset, State.powerOn]⟩

theorem witness_ExchangeEnd_turned_away :
    let s := exchanging false false 0 []
  s.ports.line.buffer ++ requestFrame 0x0E [] = requestFrame 0x0E [] ++ [] ∧ (∀ c : Command, c.code ≠ 0x0E)
    ∧ Command.verdict.acceptedOn .line = false ∧ s.ports.line.exchange ≠ none := ⟨by decide +kernel, by intro c; cases c <;> decide, rfl, by decide⟩

theorem witness_ExchangeEnd_unsound :
    ([] : List Byte).head? ≠ some 0xB5#8 ∧ [0xB5#8, 1].length < 3 ∧ 56 < ([0xB5#8, 1, 57].getD 2 0).toNat
    ∧ [0xB5#8, 1, 0].length < ([0xB5#8, 1, 0].getD 2 0).toNat + 4
    ∧ crc8 (([0xB5#8, 1, 0, 0x14].drop 1).take 2) ≠ [0xB5#8, 1, 0, 0x14].getD 3 0 := by decide +kernel

/-- A frame complete at its fourth byte, one byte short of it, and a response of six bytes shifted out. -/
theorem witness_BusyAndAbandoned :
    State.reset.ports.line.exchange = none ∧ (exchanging true false 0 []).sensors.resetPin = false
    ∧ (exchanging false true 2 [0xB5, 1]).sensors.resetPin = false
    ∧ ((exchanging true false 0 []).ports.line.exchange.map fun x => (x.busy, x.abandoned)) = some (true, false)
    ∧ ((exchanging false true 2 [0xB5, 1]).ports.line.exchange.map fun x => (x.busy, x.abandoned)) = some (false, true)
    ∧ (let x := exchanging false false 4 [0xB5, 1, 0, 0x15]
       (x.ports.line.exchange.map fun e => decide (3 ≤ e.clocked ∧ 0 + 4 ≤ e.clocked)) = some true)
    ∧ (let x := exchanging false false 3 [0xB5, 1, 0]
       (x.ports.line.exchange.map fun e => decide (e.clocked < 0 + 4)) = some true)
    ∧ (let x := exchanging false false 6 []
       (x.ports.line.exchange.map fun e => decide (e.frame.length ≤ e.clocked)) = some true) := by decide

theorem witness_CrcAndCatalogue : Command.ofCode 0x41 = some .verdict ∧ Command.verdict.code = 0x41 := by decide

/-! ## Hypotheses met: requests -/

theorem witness_UnfitRequests :
    (Instr.setBatchSize [0, 0]).request? = some (.packer, .setBatchSize, [0, 0]) ∧ commandFits .setBatchSize [0, 0] = false
    ∧ commandFits .setBatchSize [0xD0, 0x07] = true ∧ commandFits .setBatchSize [0xD1, 0x07] = false := by decide

theorem witness_EveryRequest :
    running.sensors.resetPin = false ∧ (Instr.verdict [0, 0, 0, 1, 7]).request? = some (.inspection, .verdict, [0, 0, 0, 1, 7])
    ∧ (Instr.start []).request? = some (.line, .start, [])
    ∧ answerOf .line (after (.start []) running) = some (.wrongState, []) := by decide

theorem witness_PortRequests :
    (4 : Nat) ≤ 4 ∧ (0x1F : Byte).toNat < 32
    ∧ answerOf .line (after (.readCounters .line [4]) State.reset) = some (.ok, [4, 0, 0, 0, 0, 0, 0, 0, 0, 0, 0, 0, 0]) := by decide

theorem witness_RecordReads :
    (47 : Nat) ≤ 47 ∧ recordAt running 3 = some (fresh 0 3) ∧ recordAt running 4 = none ∧ recordBySeq running 1 = some (fresh 1 0) := by decide

theorem witness_Holds : (0 : Nat) ≤ 3 ∧ (3 : Nat) ≤ 3 := by decide

theorem witness_StoredRecords :
    (∀ v ∈ [State.reset.geometry.cpp, 65535], v < 65536) ∧ (∀ v ∈ [State.reset.geometry.posMark, 255], v < 256)
    ∧ FieldGroup.registration.size = 17 ∧ (List.replicate 17 (0xFF : Byte)).length = FieldGroup.registration.size := by decide

theorem witness_Geometry :
    (geometryArgument (List.replicate 55 1)).isSome = true ∧ State.reset.line.state = .config ∧ running.line.state ≠ .config
    ∧ (lineIn .ready []).line.state = .ready ∧ (lineIn .ready []).chain.records = []
    ∧ (lineIn .ready [fresh 0 3]).chain.records ≠ [] := by decide

/-- Each just beyond its range; the codes are those of R136 and R124. -/
theorem witness_Checks :
    firstFailure (geometryChecks { State.reset.geometry with cpp := 510 }) = some 1
    ∧ firstFailure (geometryChecks { State.reset.geometry with posCount := 48 }) = some 11
    ∧ firstFailure (bankChecks { fields with tol := 1025 }) = some 8
    ∧ firstFailure (bankChecks { fields with channels := .all ⟨1, 1500, 1515⟩ }) = some 33 := by decide

theorem witness_CommitGeometry :
    State.reset.line.state = .config ∧ firstFailure (geometryChecks State.reset.geometry) = none
    ∧ firstFailure (geometryChecks { State.reset.geometry with zoneLast := 16 }) = some 13
    ∧ State.reset.sensors.estop = false ∧ State.reset.sensors.resetPin = false ∧ (after (.estopChange true) State.reset).sensors.estop = true
    ∧ (after (.jamChange true) (after (.estopChange true) State.reset)).sensors = ⟨false, false, true, true, false⟩ := by decide

theorem witness_StartAndClearHalt :
    (lineIn .ready []).line.state = .ready ∧ activeBank (lineIn .ready []) = some .bank0 ∧ activeBank State.reset = none
    ∧ (lineIn .halt []).line.state = .halt ∧ (lineIn .halt []).sensors.estop = false ∧ (lineIn .halt []).sensors.jam = false := by decide

theorem witness_Drain :
    running.line.state = .run ∧ running.sensors.resetPin = false ∧ running.chain.records ≠ [] ∧ (lineIn .run []).chain.records = []
    ∧ armedBank running = none ∧ armedBank { running with banks := ⟨⟨.active, fields⟩, ⟨.armed, fields⟩⟩ } = some .bank1 := by decide

/-- A drain whose chain is empty with each close flag, and the boundary that empties the chain. -/
theorem witness_DrainCompleted :
    let s := { lineIn .drain [fresh 0 20] with shaft.count := 4095 }
    (lineIn .drain []).line.state = .drain ∧ (lineIn .drain []).chain.records = [] ∧ (lineIn .ready []).line.state = .ready
    ∧ s.sensors.resetPin = false ∧ s.shaft.workingCpp ≤ s.shaft.count + 1 ∧ s.shaft.reverseDebt = 0
    ∧ BoundaryWithoutCause { s with shaft.pitchTimer := min (s.shaft.pitchTimer + 40000) 2000001 } ∧ s.chain.records ≠ []
    ∧ (chainBoundary s).chain.records = [] ∧ (chainBoundary (lineIn .drain [fresh 0 19])).chain.records ≠ []
    ∧ s.line.closeFlag = some true ∧ s.line.state = .drain := by decide

theorem witness_LineReset :
    (lineIn .halt [fresh 0 3]).line.state = .halt ∧ (lineIn .halt [fresh 0 3]).sensors.resetPin = false ∧ (lineIn .ready []).line.state = .ready ∧ running.line.state ≠ .ready
    ∧ running.line.state ≠ .halt ∧ running.sensors.estop = false ∧ running.sensors.jam = false
    ∧ levelCauses { lineIn .ready [] with sensors := ⟨true, true, true, true, false⟩ } = [.estop, .jam] := by decide

theorem witness_Banks :
    [BankState.empty, .staging, .valid, .armed, .active, .draining].all fun b =>
  decide (bankState { running with banks := ⟨⟨b, fields⟩, .powerOn⟩ } .bank0 = b) := by decide

theorem witness_Banks_group :
    (List.replicate 5 (0 : Byte)).length = (FieldGroup.channel .batchKicker).size
    ∧ firstFailure (bankChecks BankFields.zero) = some 7 ∧ firstFailure (bankChecks fields) = none := by decide

theorem witness_Changeovers :
    let s := { running with banks := ⟨⟨.active, fields⟩, ⟨.valid, fields⟩⟩ }
  let a := { running with banks := ⟨⟨.active, fields⟩, ⟨.armed, fields⟩⟩ }
  bankState s .bank1 = .valid ∧ bankState s (BankId.other .bank1) ≠ .armed ∧ s.line.state = .run
    ∧ (lineIn .ready []).chain.records = [] ∧ bankState a .bank1 = .armed ∧ armedBank a = some .bank1
    ∧ bankState a (BankId.other .bank1) = .active ∧ bankNamed a .bank0 = true ∧ bankNamed (lineIn .run []) .bank0 = false := by decide

/-! ## Hypotheses met: the inspection and packer links -/

theorem witness_Inspection :
    let s := { lineIn .run [{ fresh 5 13 with verdict := .pending }] with verdicts.triggerLog := [⟨5, .bank0⟩] }
  s.verdicts.triggerLog ≠ [] ∧ running.verdicts.triggerLog = [] ∧ (1 : Byte).toNat ≤ 1 ∧ (15 : Byte).toNat ≤ 15
    ∧ recordBySeq s 5 = some { fresh 5 13 with verdict := .pending } ∧ (fresh 5 13).fate = .undecided
    ∧ (fresh 5 13).position ≠ s.geometry.posGate ∧ (fresh 5 16).position = s.geometry.posGate
    ∧ s.chain.records.Pairwise (fun x y => x.seq ≠ y.seq) ∧ recordBySeq s 6 = none ∧ (fresh 5 13).verdict = .uninspected := by decide

theorem witness_Packer :
    (1 : Nat) ≤ 2000 ∧ (1 : Nat) ≤ 65535 ∧ running.batch.queue = [] ∧ running.batch.closeRequest = false
    ∧ (after (.closeBatch []) running).batch.closeRequest = true ∧ (batching.batch.queue.map (·.number)) = [39]
    ∧ batching.batch.backlog = false := by decide

/-! ## Hypotheses met: the units -/

/-- The widest window, with a clamp and at the widest width that is not clamped. -/
theorem witness_Leads :
    (0 : Nat) < 1 ∧ lead true 48000 2500 < 2048
    ∧ (let w : ChannelFields := ⟨1, 2047, 4095⟩
       w.onPhase < w.offPhase ∧ w.offPhase ≤ 4095 ∧ w.onPhase + 16 ≤ w.offPhase ∧ w.offPhase ≤ w.onPhase + 2048
        ∧ (-512 : Int) ≤ -512 ∧ (512 : Int) ≤ 512 ∧ widthClamped w 0 2048 = true ∧ widthClamped w 2048 512 = false) := by decide

theorem witness_Planning :
    (lineIn .ready []).line.state.running = false ∧ running.line.state.running = true
    ∧ ({ running with firing.planningContinuous := true } : State).firing.planningContinuous = true
    ∧ recordBefore (lineIn .run [fresh 0 3]) 4 = some (fresh 0 3) := by decide

theorem witness_FeedCutKickerCamera :
    recordBySeq running 9 = none ∧ recordBySeq running 0 = some (fresh 0 3)
    ∧ (List.replicate 16 (⟨0, .bank0⟩ : Trigger)).length ≤ 16 ∧ (fieldsOf running .bank0).inspectEnable = 1
    ∧ running.line.holders.inspect = 0 ∧ (fresh 0 3).verdict = .uninspected := by decide

theorem witness_PatchFirings :
    recordBySeq running 0 = some (fresh 0 3) ∧ (fieldsOf running .bank0).windowEnable = 1 ∧ (fresh 0 3).patched = .due
    ∧ running.line.holders.patch = 0 ∧ (fresh 0 3).regError = none
    ∧ ({ fresh 0 3 with regError := some 13, reasons := 0x008 } : Record).reasons &&& 7 = 0
    ∧ (after (.inhibitStation .line [0]) running).line.holders.patch ≠ 0 := by decide

theorem witness_GumFirings :
    recordBySeq running 0 = some (fresh 0 3) ∧ (fieldsOf running .bank0).gumSeamEnable = 1
    ∧ (fieldsOf running .bank0).gumFlapEnable = 1 ∧ (fresh 0 3).gummed = .due ∧ running.line.holders.gum = 0
    ∧ (fieldsOf running .bank0).skipGumOnReject ≠ 1 ∧ running.sensors.gumOk = true
    ∧ (after (.gumOkChange false) running).sensors.gumOk = false ∧ running.gumFold.progress = [] := by decide

theorem witness_GateFirings :
    let f : Firing := ⟨0, 0, 100, 200, .waiting, false⟩
  let s := { lineIn .run [fresh 0 15] with firing.held := (PerChannel.all []).set .rejectGate [f] }
  let held := fun st => { s with firing.held := (PerChannel.all []).set .cutKnife [{ f with state := st }] }
  firingFor s .cutKnife 0 = none ∧ (firingFor (held .on) .cutKnife 0).map Firing.state = some .on
    ∧ (firingFor (held .planned) .cutKnife 0).map Firing.state = some .planned ∧
  recordBySeq s 0 = some (fresh 0 15) ∧ (fresh 0 15).fate = .undecided ∧ (fresh 0 15).position + 1 = s.geometry.posGate
    ∧ (fresh 0 16).position = s.geometry.posGate ∧ firingFor s .rejectGate 0 = some f ∧ f.state = .waiting := by decide

theorem witness_Settlement :
    let s := { marking .opened 900 with
    registration := { (marking .opened 900).registration with patchSubject := some 7 }
    gumFold.foldTarget := .record 7 }
  s.line.state ≠ .config ∧ recordBySeq s 7 = some (fresh 7 1) ∧ s.registration.markSubject = some 7
    ∧ s.registration.markSettled = false ∧ s.registration.patchSubject = some 7 ∧ s.registration.patchSettled = false
    ∧ s.gumFold.foldTarget = .record 7 ∧ s.gumFold.foldSettled = false
    ∧ (fieldsOf s .bank0).markOpen = 500 ∧ (fieldsOf s .bank0).markClose = 1500
    ∧ (fieldsOf s .bank0).patchCheckOpen = 500 ∧ (fieldsOf s .bank0).patchCheckClose = 1500
    ∧ (fieldsOf s .bank0).foldOpen = 500 ∧ (fieldsOf s .bank0).foldClose = 1500
    ∧ ({ s with gumFold.foldTarget := .empty .bank0 } : State).gumFold.foldTarget = .empty .bank0 := by decide

theorem witness_WindowsAndSubjects :
    running.line.state.running = true ∧ (lineIn .halt []).line.state.running = false
    ∧ (recordAt running running.geometry.posMark).isNone = true
    ∧ (recordAt (marking .opened 900) (marking .opened 900).geometry.posMark).isSome = true := by decide

theorem witness_GateDecision :
    let s := lineIn .run [fresh 0 15]
  (fresh 0 15).fate = .undecided ∧ s.line.state ≠ .config ∧ recordBefore s s.geometry.posGate = some (fresh 0 15)
    ∧ (fieldsOf s .bank0).gateDecide = 3000 ∧ s.chain.records.Pairwise (fun x y => x.seq ≠ y.seq)
    ∧ (fresh 0 15).reasons = 0 ∧ (fresh 0 15).verdict = .uninspected
    ∧ recordBefore running running.geometry.posGate = none ∧ State.reset.line.state = .config
    ∧ recordBefore (lineIn .run [{ fresh 0 15 with fate := .pass }]) 16 = some { fresh 0 15 with fate := .pass } := by decide

theorem witness_ClosedBatch :
    batching.batch.openBatch.isSome = true ∧ (batching.batch.backlog = true → 8 ≤ batching.batch.queue.length) := by decide

theorem witness_CountEvent :
    batching.line.state = .run ∧ (∀ o ∈ batching.batch.openBatch, o.bank = (fresh 0 20).bank ∧ o.superseded = false)
    ∧ (batching.batch.openBatch.map fun o => decide (o.size ≤ o.count + 1)) = some true ∧ batching.batch.queue.length < 16
    ∧ recordAt (lineIn .run [fresh 0 20]) 20 = some (fresh 0 20) ∧ recordAt running 20 = none
    ∧ ({ fresh 0 20 with bank := .bank1 } : Record).bank ≠ .bank0 ∧ 2 ≤ batching.batch.nextSize := by decide

/-- In READY a batch of size 1 is opened and closed FULL at one count event (R108, R110, R112). -/
theorem test_count_jogged :
    let t := countEvent (fresh 0 20) { lineIn .ready [fresh 0 20] with batch := { State.reset.batch with nextSize := 1 } }
    t.batch.openBatch = none ∧ (t.batch.queue.map fun b => (b.cause, b.separationMissed)) = [(.full, true)]
    ∧ t.batch.separationMissed = 1 ∧ t.batch.kickMark = none := by decide

end Sys2Proof.Tests
end

/-! # Halt causes and the Shaft Tracker

What a halt cause writes, and what the work inside a shaft event leaves of the Shaft Tracker, the geometry and the
lock (R2 to R8, R134, R141). -/

namespace Sys2Proof.Machine

/-! ## What a halt cause writes (R140, R141, R143) -/

/-- An entry to HALT makes the period not valid and leaves the rest of the Shaft Tracker. -/
@[simp] theorem enterHalt_shaft (c : HaltCause) (l : Option Link) (s : State) :
    (enterHalt c l s).shaft = (spoilPeriod s).shaft := by
  unfold enterHalt; dsimp only; split <;> rfl

/-- An entry to HALT in the Line Sequencer: the halt record is filled, the close flag dropped. -/
@[simp] theorem enterHalt_line (c : HaltCause) (l : Option Link) (s : State) :
    (enterHalt c l s).line
      = { s.line with haltRecord := haltEntryRecord c l s, closeFlag := none, state := .halt } := by
  unfold enterHalt; dsimp only; split <;> rfl

theorem raiseCause_in_config {s : State} (h : s.line.state = .config) (c : HaltCause) (l : Option Link) :
    raiseCause c l s = s := by
  simp [raiseCause, h]

theorem raiseCause_in_halt {s : State} (h : s.line.state = .halt) (c : HaltCause) (l : Option Link) :
    raiseCause c l s = { s with line.haltRecord.further := maskAdd s.line.haltRecord.further c.index } := by
  simp [raiseCause, h]

theorem raiseCause_enters {s : State} (hc : s.line.state ≠ .config) (hh : s.line.state ≠ .halt) (c : HaltCause)
    (l : Option Link) : raiseCause c l s = enterHalt c l s := by
  cases h : s.line.state <;> simp_all [raiseCause]

/-- Where the period is not valid already, a halt cause leaves the Shaft Tracker as it is. -/
theorem raiseCause_shaft_of_spoiled {s : State} (h : (spoilPeriod s).shaft = s.shaft) (c : HaltCause)
    (l : Option Link) : (raiseCause c l s).shaft = s.shaft := by
  cases hs : s.line.state <;> simp [raiseCause, hs, h]

/-- A halt cause does not read the free-order index. -/
theorem raiseCause_choices_commute (c : HaltCause) (l : Option Link) (s : State) (k : Nat) :
    raiseCause c l { s with choices := k } = { raiseCause c l s with choices := k } := by
  have entered : enterHalt c l { s with choices := k } = { enterHalt c l s with choices := k } := by
    unfold enterHalt; dsimp only; split <;> rfl
  cases hs : s.line.state <;> simp only [raiseCause, hs, entered]

/-! ## What the work inside a shaft event leaves -/

/-- The geometry, the lock and whether the line is in CONFIG are kept; the Shaft Tracker is kept too, but that an entry
to HALT makes the period not valid. -/
structure KeepsShaft (s t : State) : Prop where
  geometry : t.geometry = s.geometry
  locked : t.line.locked = s.line.locked
  config : t.line.state = .config ↔ s.line.state = .config
  shaft : (t.shaft = s.shaft ∧ (t.line.state = .halt ↔ s.line.state = .halt))
    ∨ (t.shaft = (spoilPeriod s).shaft ∧ t.line.state = .halt)

theorem KeepsShaft.of_eq {s t : State} (hs : t.shaft = s.shaft) (hg : t.geometry = s.geometry)
    (hl : t.line.locked = s.line.locked) (hst : t.line.state = s.line.state) : KeepsShaft s t :=
  ⟨hg, hl, by rw [hst], .inl ⟨hs, by rw [hst]⟩⟩

theorem KeepsShaft.refl (s : State) : KeepsShaft s s := .of_eq rfl rfl rfl rfl

theorem KeepsShaft.trans {a b c : State} (h : KeepsShaft a b) (h' : KeepsShaft b c) : KeepsShaft a c := by
  refine ⟨h'.geometry.trans h.geometry, h'.locked.trans h.locked, h'.config.trans h.config, ?_⟩
  rcases h.shaft with ⟨e, hb⟩ | ⟨e, hb⟩ <;> rcases h'.shaft with ⟨e', hc⟩ | ⟨e', hc⟩
  · exact .inl ⟨e'.trans e, hc.trans hb⟩
  · exact .inr ⟨by rw [e']; simp only [spoilPeriod, e], hc⟩
  · exact .inr ⟨e'.trans e, hc.mpr hb⟩
  · exact .inr ⟨by rw [e']; simp only [spoilPeriod, e], hc⟩

theorem enterHalt_keepsShaft {s : State} (h : s.line.state ≠ .config) (c : HaltCause) (l : Option Link) :
    KeepsShaft s (enterHalt c l s) :=
  ⟨by simp, by simp, by simp [h], .inr ⟨by simp, by simp⟩⟩

theorem raiseCause_keepsShaft (c : HaltCause) (l : Option Link) (s : State) : KeepsShaft s (raiseCause c l s) := by
  by_cases hc : s.line.state = .config
  · rw [raiseCause_in_config hc]; exact .refl s
  · by_cases hh : s.line.state = .halt
    · rw [raiseCause_in_halt hh]; exact .of_eq rfl rfl rfl rfl
    · rw [raiseCause_enters hc hh]; exact enterHalt_keepsShaft hc c l

theorem examineLevels_keepsShaft (s : State) : KeepsShaft s (examineLevels s) :=
  runAll_induct (KeepsShaft s) (fun _ => True) (fun _ _ h => h.trans (.of_eq rfl rfl rfl rfl))
    (fun c x _ h => h.trans (raiseCause_keepsShaft c none x)) _ _ (fun _ _ => trivial) (.refl s)

/-- A drain completed goes by way of READY, where the levels may halt the line. -/
theorem completeDrain_keepsShaft {s : State} (h : s.line.state = .drain) : KeepsShaft s (completeDrain s) := by
  simp only [completeDrain]
  refine KeepsShaft.trans ⟨?_, ?_, ?_, .inl ⟨?_, ?_⟩⟩ (examineLevels_keepsShaft _)
  all_goals split <;> simp [h]

theorem chainEmptyNotice_keepsShaft (s : State) : KeepsShaft s (chainEmptyNotice s) := by
  unfold chainEmptyNotice
  split
  case h_2 => exact .of_eq (by simp) (by simp) (by simp) (by simp)
  case h_4 h => exact completeDrain_keepsShaft h
  all_goals exact .refl s

theorem doBoundary_keepsShaft (n : Nat) (w v : Bool) (t : BoundaryTask) (s : State) :
    KeepsShaft s (doBoundary n w v t s).2 := by
  cases t with
  | cause c => exact raiseCause_keepsShaft c none s
  | emptyNotice => exact chainEmptyNotice_keepsShaft s
  | _ => exact .of_eq (by simp [doBoundary]) (by simp) (by simp [doBoundary]) (by simp [doBoundary])

/-- After the Shaft Tracker has closed the pitch, only a halt at the boundary writes to it (R7, R9). -/
theorem pitchBoundary_keepsShaft (v : Bool) (s : State) : KeepsShaft (closePitch s) (pitchBoundary v s) :=
  runFree_induct (KeepsShaft (closePitch s)) (fun _ => True) (fun _ _ h => h.trans (.of_eq rfl rfl rfl rfl))
    (fun t x _ h => ⟨h.trans (doBoundary_keepsShaft _ _ _ t x), fun _ _ => trivial⟩) _ _ _ (fun _ _ => trivial) (.refl _)

theorem crossing_keepsShaft (v : Bool) (p : Nat) (s : State) : KeepsShaft s (crossing v s p) :=
  runAll_induct (KeepsShaft s) (fun _ => True) (fun _ _ h => h.trans (.of_eq rfl rfl rfl rfl))
    (fun t x _ h => h.trans (.of_eq (by simp) (by simp) (by cases t <;> simp [doCrossing]) (by simp))) _ _
    (fun _ _ => trivial) (.refl s)

theorem crossings_keepsShaft (v : Bool) (lo hi : Nat) (s : State) : KeepsShaft s (crossings v lo hi s) := by
  have fold : ∀ (l : List Nat) (x : State), KeepsShaft x (l.foldl (crossing v) x) := by
    intro l
    induction l with
    | nil => exact .refl
    | cons p l ih => exact fun x => (crossing_keepsShaft v p x).trans (ih _)
  exact fold _ s

/-- The Shaft Tracker after a forward boundary: the pitch is closed, and the period is valid unless the line was
halted (R7, R8, R9). -/
theorem pitchBoundary_shaft (v : Bool) (s : State) :
    (pitchBoundary v s).shaft = { (closePitch s).shaft with
      periodValid := periodIsValid s && (pitchBoundary v s).line.state != .halt
      timingQualified := s.line.state.running && (pitchBoundary v s).line.state != .halt } := by
  rcases (pitchBoundary_keepsShaft v s).shaft with ⟨e, hh⟩ | ⟨e, hh⟩
  · rw [e]
    by_cases h : s.line.state = .halt
    · simp [closePitch, periodIsValid, h, LineState.running]
    · have : (pitchBoundary v s).line.state ≠ .halt := fun h' => h (hh.mp h')
      simp [closePitch, this]
  · rw [e, hh]; simp [spoilPeriod]

end Sys2Proof.Machine

/-! # The shaft events and the Shaft Tracker (R1 to R9, R12 to R15) -/

namespace Sys2Proof.Machine

/-! ## The forward count step (R3, R5, R7) -/

/-- The state in which a forward count step is counted: time has passed, the pair and the direction are noted. -/
def steppedForward (elapsed : Nat) (s : State) : State :=
  setLastStep .forward (setPair (nextPair s.shaft.pairA s.shaft.pairB) (passTime elapsed s))

theorem exec_forwardCountStep (elapsed : Nat) (level : Bool) (s : State) :
    exec (.forwardCountStep elapsed level) s = .next (conclude (forwardCount level (steppedForward elapsed s))) := rfl

/-- Within the pitch the count and the phase move on, and without debt the high-water phase rises with them. -/
theorem advanceCount_shaft (level : Bool) (c : Nat) (s : State) :
    (advanceCount level c s).shaft = { s.shaft with
      count := c, phase := phaseOf c s.shaft.workingCpp
      highWater := if s.shaft.reverseDebt = 0 then max s.shaft.highWater (phaseOf c s.shaft.workingCpp)
        else s.shaft.highWater } := by
  simp only [advanceCount]
  split <;> simp [raiseHighWater, setCount, *]

theorem forwardCount_within (level : Bool) {s : State} (h : s.shaft.count + 1 < s.shaft.workingCpp) :
    forwardCount level s = advanceCount level (s.shaft.count + 1) s := if_pos h

/-- A wrap with debt repays one. -/
theorem forwardCount_indebted (level : Bool) {s : State} (h : s.shaft.workingCpp ≤ s.shaft.count + 1)
    (hd : s.shaft.reverseDebt ≠ 0) :
    forwardCount level s = { s with shaft := { s.shaft with
      count := 0, phase := 0, reverseDebt := s.shaft.reverseDebt - 1 } } := by
  simp [forwardCount, forwardWrap, setCount, phaseOf, hd, Nat.not_lt.mpr h]

/-- A wrap without debt is a forward boundary at count 0. -/
theorem forwardCount_boundary (level : Bool) {s : State} (h : s.shaft.workingCpp ≤ s.shaft.count + 1)
    (hd : s.shaft.reverseDebt = 0) :
    forwardCount level s = pitchBoundary level { s with shaft := { s.shaft with count := 0, phase := 0 } } := by
  simp [forwardCount, forwardWrap, setCount, phaseOf, hd, Nat.not_lt.mpr h]

/-- The state in which a forward count step takes its boundary: stepped, at count 0. -/
def wrapped (elapsed : Nat) (s : State) : State :=
  { s with shaft := { s.shaft with
      pairA := !s.shaft.pairB, pairB := s.shaft.pairA, lastStep := some .forward, count := 0, phase := 0
      pitchTimer := min (s.shaft.pitchTimer + elapsed) 2000001 } }

theorem exec_forwardCountStep_boundary (elapsed : Nat) (level : Bool) {s : State}
    (h : s.shaft.workingCpp ≤ s.shaft.count + 1) (hd : s.shaft.reverseDebt = 0) :
    exec (.forwardCountStep elapsed level) s = .next (conclude (pitchBoundary level (wrapped elapsed s))) := by
  rw [exec_forwardCountStep, forwardCount_boundary (s := steppedForward elapsed s) level h hd]
  rfl

/-! ## What a boundary records, in the words of R8, R10 and R15 -/

theorem running_eq (x : LineState) : x.running = (x == .run || x == .drain) := by
  cases x <;> rfl

theorem running_iff (x : LineState) : x.running = true ↔ x = .run ∨ x = .drain := by
  cases x <;> simp [LineState.running]

theorem indexChecked_iff (s : State) :
    indexChecked s = true ↔ s.geometry.indexCheck = 1 ∧ s.line.state ≠ .config := by
  simp [indexChecked, yes]

/-- R15: boundaries since index after a boundary. -/
theorem boundariesAfter_eq (s : State) :
    boundariesAfter s = if s.geometry.indexCheck = 1 ∧ s.line.state ≠ .config then
        (if s.shaft.boundariesSinceIndex = 0 then 1 else 0)
      else s.shaft.boundariesSinceIndex := by
  unfold boundariesAfter
  rw [if_congr (indexChecked_iff s) rfl rfl]
  by_cases h : s.shaft.boundariesSinceIndex = 0
  · simp [h]
  · simp [h, show 1 ≤ s.shaft.boundariesSinceIndex by omega]

/-- Settles O17: the count moves on within the pitch, repays debt at a wrap, or closes the pitch at a boundary. -/
theorem forwardStepMovesTheShaftTracker : Obligations.ForwardStepMovesTheShaftTracker := by
  intro elapsed level s pin
  have pin' : (forwardCount level (steppedForward elapsed s)).sensors.resetPin = false := by
    simpa [steppedForward] using pin
  refine ⟨_, exec_forwardCountStep elapsed level s, ?_⟩
  rw [conclude_shaft _ pin', conclude_line _ pin']
  by_cases hw : s.shaft.count + 1 < s.shaft.workingCpp
  · rw [forwardCount_within (s := steppedForward elapsed s) level hw, advanceCount_shaft]
    simp only [hw, if_true]
    rfl
  · simp only [hw, if_false]
    have wraps : s.shaft.workingCpp ≤ s.shaft.count + 1 := Nat.not_lt.mp hw
    by_cases hd : s.shaft.reverseDebt = 0
    · have taken : forwardCount level (steppedForward elapsed s) = pitchBoundary level (wrapped elapsed s) :=
        forwardCount_boundary (s := steppedForward elapsed s) level wraps hd
      rw [taken, pitchBoundary_shaft]
      simp [hd, closePitch, boundariesAfter_eq, periodIsValid, running_eq, longestPeriod, wrapped]
    · rw [forwardCount_indebted (s := steppedForward elapsed s) level wraps hd]
      simp only [hd, if_false]
      rfl

end Sys2Proof.Machine

/-! # The backward count step (R4, R9, R11) -/

namespace Sys2Proof.Machine

/-- The state in which a backward count step is counted: the pair and the direction are noted, the period is spoiled. -/
def steppedBackward (s : State) : State :=
  spoilPeriod (setLastStep .backward (setPair (previousPair s.shaft.pairA s.shaft.pairB) s))

theorem exec_backwardCountStep (s : State) :
    exec .backwardCountStep s = .next (conclude (backwardCount (steppedBackward s))) := rfl

/-- The Shaft Tracker after a backward count step that finds the period spoiled (R4, R5). -/
def Shaft.back (x : Shaft) : Shaft :=
  let count := if x.count = 0 then x.workingCpp - 1 else x.count - 1
  { x with
    count := count, phase := phaseOf count x.workingCpp
    reverseDebt := if x.count = 0 ∧ x.reverseDebt < 255 then x.reverseDebt + 1 else x.reverseDebt }

theorem raiseReverse_idle {s : State} (h : s.line.state.running = false) : raiseReverse s = s := by
  simp [raiseReverse, h]

theorem raiseReverse_running {s : State} (h : s.line.state.running = true) :
    raiseReverse s = enterHalt .reverse none s := by
  rw [raiseReverse, if_pos h]
  rcases (running_iff _).mp h with e | e <;> simp [raiseCause, e]

theorem addDebt_owes {s : State} (h : s.shaft.reverseDebt < 255) :
    addDebt s = { s with shaft.reverseDebt := s.shaft.reverseDebt + 1 } := if_pos h

theorem addDebt_fault {s : State} (h : 255 ≤ s.shaft.reverseDebt) :
    addDebt s = raiseCause .encoderFault none s := if_neg (Nat.not_lt.mpr h)

theorem addDebt_shaft {s : State} (h : (spoilPeriod s).shaft = s.shaft) :
    (addDebt s).shaft = { s.shaft with
      reverseDebt := if s.shaft.reverseDebt < 255 then s.shaft.reverseDebt + 1 else s.shaft.reverseDebt } := by
  by_cases hd : s.shaft.reverseDebt < 255
  · simp [addDebt_owes hd, hd]
  · simp [addDebt_fault (Nat.not_lt.mp hd), raiseCause_shaft_of_spoiled h, hd]

/-- Outside RUN and DRAIN a backward count step raises no REVERSE and nothing is free. -/
theorem backwardCount_idle {s : State} (h : s.line.state.running = false) :
    backwardCount s = if s.shaft.count = 0 then backwardWrap s else setCount (s.shaft.count - 1) s := by
  simp [backwardCount, h, raiseReverse_idle]

/-- In RUN and DRAIN the line is halted by REVERSE: at a wrap before the count changes, otherwise before or after it
(R11, log 10). -/
theorem backwardCount_running {s : State} (h : s.line.state.running = true) :
    (s.shaft.count = 0 ∧ backwardCount s = backwardWrap (enterHalt .reverse none s))
    ∨ (s.shaft.count ≠ 0 ∧ ∃ k,
        backwardCount s = setCount (s.shaft.count - 1) (enterHalt .reverse none { s with choices := k })
        ∨ backwardCount s = enterHalt .reverse none (setCount (s.shaft.count - 1) { s with choices := k })) := by
  by_cases hc : s.shaft.count = 0
  · exact .inl ⟨hc, by simp [backwardCount, hc, raiseReverse_running h]⟩
  · obtain ⟨k, hk⟩ := choose_state 2 s
    refine .inr ⟨hc, k, ?_⟩
    have before : raiseReverse { s with choices := k } = enterHalt .reverse none { s with choices := k } :=
      raiseReverse_running h
    have after : raiseReverse (setCount (s.shaft.count - 1) { s with choices := k })
        = enterHalt .reverse none (setCount (s.shaft.count - 1) { s with choices := k }) := raiseReverse_running h
    simp only [backwardCount, if_neg hc, h, if_true, hk, before, after]
    split
    · exact .inl rfl
    · exact .inr rfl

theorem backwardCount_shaft {s : State} (h : (spoilPeriod s).shaft = s.shaft) :
    (backwardCount s).shaft = s.shaft.back := by
  have spoiled : s.shaft.periodValid = false ∧ s.shaft.timingQualified = false := by
    rw [← h]; exact ⟨rfl, rfl⟩
  have wrap : ∀ x : State, x.shaft = s.shaft → s.shaft.count = 0 → (backwardWrap x).shaft = s.shaft.back := by
    intro x hx hc
    have hd : (spoilPeriod (setCount (x.shaft.workingCpp - 1) x)).shaft = (setCount (x.shaft.workingCpp - 1) x).shaft := by
      simp [spoilPeriod, setCount, hx, spoiled]
    rw [backwardWrap, addDebt_shaft hd]
    simp [setCount, hx, Shaft.back, hc]
  by_cases hr : s.line.state.running = true
  · rcases backwardCount_running hr with ⟨hc, e⟩ | ⟨hc, k, e | e⟩
    · rw [e]; exact wrap _ (by rw [enterHalt_shaft, h]) hc
    · rw [e]; simp [setCount, Shaft.back, hc, spoilPeriod, spoiled]
    · rw [e]; simp [setCount, Shaft.back, hc, spoilPeriod, spoiled]
  · rw [backwardCount_idle (by simpa using hr)]
    by_cases hc : s.shaft.count = 0
    · rw [if_pos hc]; exact wrap s rfl hc
    · simp [hc, setCount, Shaft.back]

/-- A step that raises no cause changes the Shaft Tracker alone. -/
theorem backwardCount_quiet {s : State} (hr : s.line.state.running = false)
    (hq : s.line.state = .config ∨ ¬ (s.shaft.count = 0 ∧ 255 ≤ s.shaft.reverseDebt)) :
    backwardCount s = { s with shaft := (backwardCount s).shaft } := by
  rw [backwardCount_idle hr]
  by_cases hc : s.shaft.count = 0
  · simp only [hc, if_true, backwardWrap]
    by_cases hd : s.shaft.reverseDebt < 255
    · rw [addDebt_owes (s := setCount (s.shaft.workingCpp - 1) s) hd]; rfl
    · rw [addDebt_fault (s := setCount (s.shaft.workingCpp - 1) s) (Nat.not_lt.mp hd), raiseCause_in_config]
      · rfl
      · rcases hq with e | hq
        · exact e
        · exact absurd ⟨hc, Nat.not_lt.mp hd⟩ hq
  · simp only [hc, if_false]; rfl

/-- The wrap of an idle line that finds the debt at its bound (R4). -/
theorem backwardCount_fault {s : State} (hr : s.line.state.running = false)
    (hf : s.shaft.count = 0 ∧ 255 ≤ s.shaft.reverseDebt) :
    backwardCount s = raiseCause .encoderFault none (setCount (s.shaft.workingCpp - 1) s) := by
  rw [backwardCount_idle hr, if_pos hf.1]
  exact addDebt_fault (s := setCount (s.shaft.workingCpp - 1) s) hf.2

/-- The halt record after a backward step in RUN or DRAIN (R11, R143). -/
theorem backwardCount_halts {s : State} (hr : s.line.state.running = true) :
    (backwardCount s).line.state = .halt
    ∧ (let record := (backwardCount s).line.haltRecord
       record.firstCause = some .reverse ∧ record.stateLeft = some s.line.state
       ∧ record.count = s.line.haltRecord.count + 1
       ∧ record.further = (if s.shaft.count = 0 ∧ 255 ≤ s.shaft.reverseDebt then
            maskAdd 0 HaltCause.encoderFault.index else 0)
       ∧ (s.shaft.count = 0 → record.phaseAtEntry = some s.shaft.phase)
       ∧ (record.phaseAtEntry = some s.shaft.phase
          ∨ record.phaseAtEntry = some (phaseOf (s.shaft.count - 1) s.shaft.workingCpp) ∧ s.shaft.count ≠ 0)) := by
  rcases backwardCount_running hr with ⟨hc, e⟩ | ⟨hc, k, e | e⟩
  · rw [e, backwardWrap]
    by_cases hd : s.shaft.reverseDebt < 255
    · rw [addDebt_owes (by simpa [setCount, spoilPeriod] using hd)]
      simp [haltEntryRecord, hc, Nat.not_le.mpr hd]
    · rw [addDebt_fault (by simpa [setCount, spoilPeriod] using hd), raiseCause_in_halt (by simp)]
      simp [haltEntryRecord, hc, Nat.not_lt.mp hd]
  · rw [e]; simp [haltEntryRecord, hc]
  · rw [e]; simp [haltEntryRecord, hc, setCount]

/-- Settles O21: what a backward count step leaves of the Shaft Tracker, and the causes it raises. -/
theorem backwardStepOwesAndReverses : Obligations.BackwardStepOwesAndReverses := by
  intro s pin
  have pin' : (backwardCount (steppedBackward s)).sensors.resetPin = false := by simpa [steppedBackward] using pin
  have shaft : (backwardCount (steppedBackward s)).shaft = (steppedBackward s).shaft.back := backwardCount_shaft rfl
  have stepped : steppedBackward s = { s with shaft := (steppedBackward s).shaft } := rfl
  have quiet : s.line.state.running = false →
      (s.line.state = .config ∨ ¬ (s.shaft.count = 0 ∧ 255 ≤ s.shaft.reverseDebt)) →
      backwardCount (steppedBackward s) = { s with shaft := (backwardCount (steppedBackward s)).shaft } := by
    intro hr hq
    exact backwardCount_quiet (s := steppedBackward s) hr hq
  refine ⟨_, exec_backwardCountStep s, ?_, ?_, ?_, ?_, ?_, ?_⟩
  · rw [conclude_shaft _ pin', shaft]; rfl
  · intro h
    rw [conclude_shaft _ pin', ← quiet (by simp [h, LineState.running]) (.inl h)]
  · intro h hf
    rw [conclude_shaft _ pin', ← quiet (by rcases h with h | h <;> simp [h, LineState.running]) (.inr hf)]
  · intro h hf
    have phase : (steppedBackward s).shaft.back.phase = phaseOf (s.shaft.workingCpp - 1) s.shaft.workingCpp :=
      congrArg (phaseOf · s.shaft.workingCpp) (if_pos hf.1)
    rw [conclude_shaft _ pin', conclude_line _ pin', shaft, phase,
      backwardCount_fault (s := steppedBackward s) (by simp [steppedBackward, h, LineState.running]) hf,
      raiseCause_enters (by simp [steppedBackward, h]) (by simp [steppedBackward, h]), enterHalt_line]
    exact ⟨rfl, rfl, congrArg some h, rfl⟩
  · intro h hf
    rw [conclude_line _ pin',
      backwardCount_fault (s := steppedBackward s) (by simp [steppedBackward, h, LineState.running]) hf,
      raiseCause_in_halt (by simp [steppedBackward, h])]
    rfl
  · intro h
    rw [conclude_shaft _ pin', conclude_line _ pin', shaft]
    obtain ⟨state, first, left, count, further, atWrap, phase⟩ :=
      backwardCount_halts (s := steppedBackward s) ((running_iff _).mpr h)
    refine ⟨state, first, left, count, ?_, ?_, atWrap, phase.imp id ?_⟩
    · intro hf; rw [further]; exact if_pos hf
    · intro hf; rw [further]; exact if_neg hf
    · rintro ⟨e, hc⟩
      rw [e]
      simp [Shaft.back, hc]

end Sys2Proof.Machine

/-! # The law of the Shaft Tracker and the lock (R2 to R8, R13, R15, R134, R136) -/

namespace Sys2Proof.Machine

/-! ## The two halves of the law -/

/-- The ranges of the Shaft Tracker that counts with `n` counts per pitch (R2, R3, R4, R5, R8, R13, R15). -/
structure Shaft.InRange (n : Nat) (x : Shaft) : Prop where
  working : x.workingCpp = n
  valid : cppValid n = true
  count : x.count < n
  phase : x.phase = phaseOf x.count n
  highWater : x.highWater ≤ 4095
  debt : x.reverseDebt ≤ 255
  timer : x.pitchTimer ≤ 2000001
  period : x.lastPeriod ≤ 2000001
  run : x.mismatchRun ≤ 1
  boundaries : x.boundariesSinceIndex ≤ 1

/-- The lock follows the line state, and outside CONFIG the geometry is checked (R134, R136). -/
structure LockLaw (s : State) : Prop where
  locked : s.line.locked = true ↔ s.line.state ≠ .config
  checked : s.line.state ≠ .config → firstFailure (geometryChecks s.geometry) = none

theorem shaftLaw_iff (s : State) :
    ShaftLaw s ↔ s.shaft.InRange s.shaft.workingCpp
      ∧ (cppValid s.geometry.cpp = true → s.shaft.workingCpp = s.geometry.cpp) ∧ LockLaw s :=
  ⟨fun ⟨⟨a, b, c, d, e, f, g, i, j⟩, adopted, locked, checked⟩ =>
      ⟨⟨rfl, a, b, c, d, e, f, g, i, j⟩, adopted, locked, checked⟩,
    fun ⟨h, adopted, l⟩ => ⟨⟨h.valid, h.count, h.phase, h.highWater, h.debt, h.timer, h.period, h.run, h.boundaries⟩,
      adopted, l.locked, l.checked⟩⟩

/-- The geometry and the lock are kept: what every operation leaves but the requests of the geometry record. -/
structure KeepsLock (s t : State) : Prop where
  geometry : t.geometry = s.geometry
  locked : t.line.locked = s.line.locked
  config : t.line.state = .config ↔ s.line.state = .config

theorem KeepsShaft.keepsLock {s t : State} (h : KeepsShaft s t) : KeepsLock s t := ⟨h.geometry, h.locked, h.config⟩

theorem KeepsLock.trans {a b c : State} (h : KeepsLock a b) (h' : KeepsLock b c) : KeepsLock a c :=
  ⟨h'.geometry.trans h.geometry, h'.locked.trans h.locked, h'.config.trans h.config⟩

/-- Where the geometry and the lock are kept, the law rests on the Shaft Tracker alone. -/
theorem shaftLaw_of_keepsLock {s t : State} (h : ShaftLaw s) (hk : KeepsLock s t)
    (hr : t.shaft.InRange s.shaft.workingCpp) : ShaftLaw t := by
  obtain ⟨-, adopted, locks⟩ := (shaftLaw_iff s).mp h
  refine (shaftLaw_iff t).mpr ⟨by rw [hr.working]; exact hr, ?_, ?_, ?_⟩
  · rw [hr.working, hk.geometry]; exact adopted
  · rw [hk.locked, locks.locked, ne_eq, ne_eq, hk.config]
  · rw [ne_eq, hk.config, hk.geometry]; exact locks.checked

/-! ## Ranges that the Shaft Tracker's own writes keep -/

section
variable {n : Nat} {s : State}

theorem phaseOf_le {c cpp : Nat} (h : c < cpp) : phaseOf c cpp ≤ 4095 := by
  have : c * 4096 / cpp < 4096 := Nat.div_lt_of_lt_mul (by omega)
  unfold phaseOf; omega

theorem Shaft.InRange.pos {x : Shaft} (h : x.InRange n) : 0 < n := Nat.zero_lt_of_lt h.count

theorem Shaft.InRange.phase_le {x : Shaft} (h : x.InRange n) : x.phase ≤ 4095 := h.phase ▸ phaseOf_le h.count

theorem inRange_of_keepsShaft {t : State} (hk : KeepsShaft s t) (h : s.shaft.InRange n) : t.shaft.InRange n := by
  rcases hk.shaft with ⟨e, -⟩ | ⟨e, -⟩
  · rw [e]; exact h
  · rw [e]; exact { h with }

theorem setCount_inRange (h : s.shaft.InRange n) {c : Nat} (hc : c < n) : (setCount c s).shaft.InRange n :=
  { h with count := hc, phase := by simp [setCount, h.working] }

theorem raiseHighWater_inRange (h : s.shaft.InRange n) : (raiseHighWater s).shaft.InRange n :=
  { h with highWater := Nat.max_le.mpr ⟨h.highWater, h.phase_le⟩ }

theorem passTime_inRange (h : s.shaft.InRange n) (k : Nat) : (passTime k s).shaft.InRange n :=
  { h with timer := Nat.min_le_right _ _ }

theorem crossings_inRange (h : s.shaft.InRange n) (v : Bool) (lo hi : Nat) : (crossings v lo hi s).shaft.InRange n := by
  rw [crossings_shaft]; exact h

theorem advanceCount_inRange (h : s.shaft.InRange n) (v : Bool) {c : Nat} (hc : c < n) :
    (advanceCount v c s).shaft.InRange n := by
  have moved := setCount_inRange h hc
  simp only [advanceCount]
  split
  · exact crossings_inRange (raiseHighWater_inRange moved) _ _ _
  · exact moved

theorem pitchBoundary_inRange (h : s.shaft.InRange n) (v : Bool) : (pitchBoundary v s).shaft.InRange n := by
  refine inRange_of_keepsShaft (pitchBoundary_keepsShaft v s) { h with
    highWater := Nat.zero_le _, timer := Nat.zero_le _, period := h.timer, boundaries := ?_ }
  have := h.boundaries
  simp only [closePitch, boundariesAfter_eq]
  split
  · split <;> decide
  · exact this

theorem addDebt_inRange (h : s.shaft.InRange n) : (addDebt s).shaft.InRange n := by
  by_cases hd : s.shaft.reverseDebt < 255
  · rw [addDebt_owes hd]; exact { h with debt := Nat.succ_le_of_lt hd }
  · rw [addDebt_fault (Nat.not_lt.mp hd)]; exact inRange_of_keepsShaft (raiseCause_keepsShaft _ _ s) h

theorem forwardCount_inRange (h : s.shaft.InRange n) (v : Bool) : (forwardCount v s).shaft.InRange n := by
  have start := setCount_inRange h h.pos
  simp only [forwardCount, forwardWrap]
  split
  · rename_i hw; exact advanceCount_inRange h v (h.working ▸ hw)
  · split
    · exact pitchBoundary_inRange start v
    · exact { start with debt := Nat.le_trans (Nat.sub_le _ _) h.debt }

theorem back_inRange {x : Shaft} (h : x.InRange n) : x.back.InRange n := by
  have hp := h.pos
  have hc := h.count
  have hd := h.debt
  refine { h with count := ?_, phase := by simp [Shaft.back, h.working], debt := ?_ }
  · simp only [Shaft.back, h.working]; split <;> omega
  · simp only [Shaft.back]; split <;> omega

theorem checkMismatch_inRange (h : s.shaft.InRange n) (d : Int) : (checkMismatch d s).shaft.InRange n := by
  have zero : ({ s.shaft with mismatchRun := 0 } : Shaft).InRange n := { h with run := Nat.zero_le _ }
  unfold checkMismatch
  split
  · exact zero
  · split
    · exact { h with run := Nat.le_refl _ }
    · exact inRange_of_keepsShaft (raiseCause_keepsShaft _ _ { s with shaft.mismatchRun := 0 }) zero

theorem realign_inRange (h : s.shaft.InRange n) (v : Bool) (d : Int) (hi : s.geometry.indexCount < n) :
    (realign v d s).shaft.InRange n := by
  unfold realign
  split
  · split
    · exact advanceCount_inRange h v hi
    · simp only [realignAcross]
      have opened := pitchBoundary_inRange (crossings_inRange h v (max s.shaft.phase s.shaft.highWater) 4095) v
      exact crossings_inRange (raiseHighWater_inRange (setCount_inRange opened (by simpa using hi))) _ _ _
  · split
    · split
      · exact setCount_inRange h hi
      · exact addDebt_inRange (setCount_inRange h hi)
    · exact h

theorem indexEdge_inRange (h : s.shaft.InRange n) (v : Bool) (hi : indexTaken s = true → s.geometry.indexCount < n) :
    (indexEdge v s).shaft.InRange n := by
  simp only [indexEdge]
  split
  · rename_i ht
    have moved := realign_inRange (checkMismatch_inRange h (indexDifference s)) v (indexDifference s)
      (by simpa using hi ht)
    exact { moved with boundaries := Nat.zero_le _ }
  · exact h

end

/-! ## The checks of the geometry (R136) -/

theorem firstFailure_none_iff (checks : List (Nat × Bool)) :
    firstFailure checks = none ↔ ∀ c ∈ checks, c.2 = true := by
  simp [firstFailure]

/-- Outside CONFIG index_count is a count of the pitch (R136 check 3). -/
theorem indexCount_lt {s : State} (h : ShaftLaw s) (hs : s.line.state ≠ .config) :
    s.geometry.indexCount < s.shaft.workingCpp := by
  obtain ⟨-, adopted, locks⟩ := (shaftLaw_iff s).mp h
  have checks := (firstFailure_none_iff _).mp (locks.checked hs)
  have valid := checks (1, cppValid s.geometry.cpp) (by simp [geometryChecks])
  have below := checks (3, decide (s.geometry.indexCount < s.geometry.cpp)) (by simp [geometryChecks])
  rw [adopted valid]
  exact of_decide_eq_true below

end Sys2Proof.Machine

/-! # Every step keeps the law of the Shaft Tracker and the lock -/

namespace Sys2Proof.Machine

/-! ## The lock at the shaft events -/

theorem raiseCause_keepsLock (c : HaltCause) (l : Option Link) (s : State) : KeepsLock s (raiseCause c l s) :=
  (raiseCause_keepsShaft c l s).keepsLock

theorem crossings_keepsLock (v : Bool) (lo hi : Nat) (s : State) : KeepsLock s (crossings v lo hi s) :=
  (crossings_keepsShaft v lo hi s).keepsLock

theorem pitchBoundary_keepsLock (v : Bool) (s : State) : KeepsLock s (pitchBoundary v s) :=
  let h := pitchBoundary_keepsShaft v s
  ⟨h.geometry, h.locked, h.config⟩

theorem forwardCount_keepsLock (v : Bool) (s : State) : KeepsLock s (forwardCount v s) :=
  forwardCount_induct (KeepsLock s) (fun _ _ h => ⟨h.geometry, h.locked, h.config⟩)
    (fun _ _ _ x h => h.trans (crossings_keepsLock _ _ _ x)) (fun _ x h => h.trans (pitchBoundary_keepsLock _ x))
    v s ⟨rfl, rfl, Iff.rfl⟩

theorem backwardCount_keepsLock (s : State) : KeepsLock s (backwardCount s) :=
  backwardCount_induct (KeepsLock s) (fun _ _ h => ⟨h.geometry, h.locked, h.config⟩)
    (fun _ _ h => ⟨h.geometry, h.locked, h.config⟩) (fun _ x h => h.trans (raiseCause_keepsLock _ _ x))
    s ⟨rfl, rfl, Iff.rfl⟩

theorem indexEdge_keepsLock (v : Bool) (s : State) : KeepsLock s (indexEdge v s) :=
  indexEdge_induct (KeepsLock s) (fun _ _ h => ⟨h.geometry, h.locked, h.config⟩)
    (fun _ _ _ x h => h.trans (crossings_keepsLock _ _ _ x)) (fun _ x h => h.trans (pitchBoundary_keepsLock _ x))
    (fun _ x h => h.trans (raiseCause_keepsLock _ _ x)) v s ⟨rfl, rfl, Iff.rfl⟩

@[simp] theorem changeHolders_line_locked (f : BitVec 3 → BitVec 3) (sts : List Station) (s : State) :
    (changeHolders f sts s).line.locked = s.line.locked := rfl

@[simp] theorem clearHolds_line_locked (s : State) : (clearHolds s).line.locked = s.line.locked := rfl

@[simp] theorem armBank_line_locked (b : BankId) (s : State) : (armBank b s).line.locked = s.line.locked := by
  simp only [armBank]; split <;> simp

/-! ## The law after the operations that write to the Shaft Tracker, the geometry or the lock -/

section
variable {s : State}

theorem shaftLaw_of_keepsShaft {t : State} (h : ShaftLaw s) (hk : KeepsShaft s t) : ShaftLaw t :=
  shaftLaw_of_keepsLock h hk.keepsLock (inRange_of_keepsShaft hk ((shaftLaw_iff s).mp h).1)

/-- A write to the Shaft Tracker alone. -/
theorem shaftLaw_of_inRange (h : ShaftLaw s) {x : Shaft} (hx : x.InRange s.shaft.workingCpp) :
    ShaftLaw { s with shaft := x } :=
  shaftLaw_of_keepsLock h ⟨rfl, rfl, Iff.rfl⟩ hx

theorem powerOn_shaftLaw (a b : Bool) (sensors : Sensors) (choices : Nat) (pending : List Instr) :
    ShaftLaw (.powerOn a b sensors choices pending) := by
  refine (shaftLaw_iff _).mpr ⟨⟨rfl, ?_, ?_, ?_, ?_, ?_, ?_, ?_, ?_, ?_⟩, fun _ => rfl, ?_, ?_⟩ <;>
    simp [State.powerOn, Shaft.powerOn, cppValid, phaseOf]

theorem conclude_shaftLaw (h : ShaftLaw s) : ShaftLaw (conclude s) := by
  cases hp : s.sensors.resetPin with
  | false => rw [conclude_eq s hp]; exact h
  | true =>
    have held : underReset s = .powerOn s.shaft.pairA s.shaft.pairB s.sensors s.choices s.pending := by
      simp [underReset, hp]
    unfold conclude
    rw [held]
    exact powerOn_shaftLaw s.shaft.pairA s.shaft.pairB s.sensors s.choices s.pending

theorem forwardStep_shaftLaw (h : ShaftLaw s) (elapsed : Nat) (v : Bool) :
    ShaftLaw (forwardCount v (steppedForward elapsed s)) := by
  have hr := ((shaftLaw_iff s).mp h).1
  have stepped : (steppedForward elapsed s).shaft.InRange s.shaft.workingCpp :=
    { passTime_inRange hr elapsed with }
  have hk : KeepsLock s (steppedForward elapsed s) := ⟨rfl, rfl, Iff.rfl⟩
  exact shaftLaw_of_keepsLock h (hk.trans (forwardCount_keepsLock v _)) (forwardCount_inRange stepped v)

theorem backwardStep_shaftLaw (h : ShaftLaw s) : ShaftLaw (backwardCount (steppedBackward s)) := by
  have stepped : (steppedBackward s).shaft.InRange s.shaft.workingCpp := { ((shaftLaw_iff s).mp h).1 with }
  have hk : KeepsLock s (steppedBackward s) := ⟨rfl, rfl, Iff.rfl⟩
  refine shaftLaw_of_keepsLock h (hk.trans (backwardCount_keepsLock _)) ?_
  rw [backwardCount_shaft rfl]
  exact back_inRange stepped

theorem passTime_shaftLaw (h : ShaftLaw s) (elapsed : Nat) : ShaftLaw (passTime elapsed s) :=
  shaftLaw_of_inRange h (passTime_inRange ((shaftLaw_iff s).mp h).1 elapsed)

theorem indexEdge_shaftLaw (h : ShaftLaw s) (v : Bool) : ShaftLaw (indexEdge v s) := by
  refine shaftLaw_of_keepsLock h (indexEdge_keepsLock v s) (indexEdge_inRange ((shaftLaw_iff s).mp h).1 v ?_)
  intro taken
  have checked : indexChecked s = true := by
    simp only [indexTaken, Bool.and_eq_true] at taken; exact taken.1.1
  exact indexCount_lt h ((indexChecked_iff s).mp checked).2

/-- A geometry written in CONFIG; a valid cpp that differs is adopted (R2, R135). -/
theorem writeGeometry_shaftLaw (h : ShaftLaw s) (hs : s.line.state = .config) (g : Geometry) :
    ShaftLaw (adoptCpp { s with geometry := g }) := by
  obtain ⟨hr, -, locks⟩ := (shaftLaw_iff s).mp h
  have lock : ∀ x, LockLaw { s with geometry := g, shaft := x } := fun x => ⟨locks.locked, fun hc => absurd hs hc⟩
  by_cases ha : cppValid g.cpp = true ∧ g.cpp ≠ s.shaft.workingCpp
  · rw [adoptCpp, if_pos ha]
    have hp : 0 < g.cpp := by have := ha.1; simp [cppValid] at this; omega
    refine (shaftLaw_iff _).mpr ⟨?_, fun _ => rfl, lock _⟩
    exact { hr with
      working := rfl, valid := ha.1, count := hp, phase := by simp [phaseOf], highWater := Nat.zero_le _
      debt := Nat.zero_le _, run := Nat.zero_le _, boundaries := Nat.zero_le _ }
  · rw [adoptCpp, if_neg ha]
    refine (shaftLaw_iff _).mpr ⟨hr, fun hv => ?_, lock s.shaft⟩
    by_contra hne
    exact ha ⟨hv, fun e => hne e.symm⟩

/-- The line as COMMIT GEOMETRY leaves it before the levels are examined (R18, R77, R89, R136). -/
def committed (s : State) : State :=
  { s with
    shaft := { s.shaft with
      reverseDebt := 0, mismatchRun := 0, boundariesSinceIndex := 0, periodValid := false, timingQualified := false }
    registration := { s.registration with
      markWindow := .shut, patchOpen := false, markSubject := none, patchSubject := none }
    gumFold := { s.gumFold with foldOpen := false }
    line := { s.line with state := .ready, locked := true } }

theorem commitGeometry_eq (s : State) : commitGeometry s = examineLevels (committed s) := rfl

/-- COMMIT GEOMETRY locks a geometry that passes its checks (R136). -/
theorem commitGeometry_shaftLaw (h : ShaftLaw s) (hc : firstFailure (geometryChecks s.geometry) = none) :
    ShaftLaw (commitGeometry s) := by
  obtain ⟨hr, adopted, -⟩ := (shaftLaw_iff s).mp h
  refine shaftLaw_of_keepsShaft ((shaftLaw_iff (committed s)).mpr ⟨?_, adopted, ⟨by simp [committed], fun _ => hc⟩⟩)
    (examineLevels_keepsShaft _)
  exact { hr with debt := Nat.zero_le _, run := Nat.zero_le _, boundaries := Nat.zero_le _ }

/-- RELEASE GEOMETRY unlocks it in CONFIG (R137). -/
theorem releaseGeometry_shaftLaw (h : ShaftLaw s) : ShaftLaw (releaseGeometry s) := by
  obtain ⟨hr, adopted, -⟩ := (shaftLaw_iff s).mp h
  refine (shaftLaw_iff _).mpr ⟨?_, adopted, ⟨by simp [releaseGeometry], fun hc => absurd rfl hc⟩⟩
  exact { hr with run := Nat.zero_le _, boundaries := Nat.zero_le _ }

theorem startLine_shaftLaw (h : ShaftLaw s) (hs : s.line.state = .ready) : ShaftLaw (startLine s) := by
  have shaft : (startLine s).shaft = (spoilPeriod s).shaft := by simp only [startLine]; split <;> rfl
  have locked : (startLine s).line.locked = s.line.locked := by simp only [startLine]; split <;> rfl
  refine shaftLaw_of_keepsLock h ⟨by simp, locked, by simp [hs]⟩ ?_
  rw [shaft]
  exact { ((shaftLaw_iff s).mp h).1 with }

theorem beginDrain_shaftLaw (h : ShaftLaw s) (hs : s.line.state = .run) (close : Bool) :
    ShaftLaw (beginDrain close s) := by
  have drains : KeepsShaft s { s with line := { s.line with state := .drain, closeFlag := some close } } :=
    ⟨rfl, rfl, by simp [hs], .inl ⟨rfl, by simp [hs]⟩⟩
  simp only [beginDrain]
  split
  · exact shaftLaw_of_keepsShaft h (drains.trans (completeDrain_keepsShaft rfl))
  · exact shaftLaw_of_keepsShaft h drains

theorem clearHalt_shaftLaw (h : ShaftLaw s) (hs : s.line.state = .halt) : ShaftLaw (clearHalt s) := by
  have locked : (clearHalt s).line.locked = s.line.locked := by simp only [clearHalt]; split <;> simp
  refine shaftLaw_of_keepsLock h ⟨by simp, locked, by simp [hs]⟩ ?_
  rw [clearHalt_shaft]
  exact ((shaftLaw_iff s).mp h).1

/-- The units as LINE RESET leaves them, before an armed changeover is taken and the levels are examined (R149). -/
def unitsReset (s : State) : State :=
  let s1 := discardRecords (purgeBatch s)
  let s2 := resetShaft (resetGumFold (resetRegistration { s1 with verdicts.triggerLog := [] }))
  { s2 with line := { s2.line with state := .ready, haltRecord := clearHaltRecord s2.line.haltRecord } }

theorem lineReset_eq (s : State) : lineReset s = examineLevels (takeChangeover (unitsReset s)) := rfl

theorem lineReset_shaftLaw (h : ShaftLaw s) (hs : s.line.state ≠ .config) : ShaftLaw (lineReset s) := by
  have hr := ((shaftLaw_iff s).mp h).1
  have reset : ShaftLaw (takeChangeover (unitsReset s)) := by
    refine shaftLaw_of_keepsLock h ⟨by simp [unitsReset], by simp [unitsReset, purgeBatch], by simp [unitsReset, hs]⟩ ?_
    have shaft : (unitsReset s).shaft = (resetShaft s).shaft := by simp [unitsReset, resetShaft, spoilPeriod]
    rw [takeChangeover_shaft, shaft]
    exact { hr with highWater := hr.phase_le, debt := Nat.zero_le _ }
  exact shaftLaw_of_keepsShaft reset (examineLevels_keepsShaft _)

end

/-- Every command concludes a state that meets the law. -/
theorem exec_keeps_shaftLaw (i : Instr) {s : State} (h : ShaftLaw s) :
    ∃ x, exec i s = .next (conclude x) ∧ ShaftLaw x := by
  have raised : ∀ (c : HaltCause) (l : Option Link) {x : State}, ShaftLaw x → ShaftLaw (raiseCause c l x) :=
    fun c l x hx => shaftLaw_of_keepsShaft hx (raiseCause_keepsShaft c l x)
  cases i with
  | powerOnReset asserted pair => exact ⟨_, rfl, powerOn_shaftLaw _ _ _ _ _⟩
  | forwardCountStep elapsed level => exact ⟨_, rfl, forwardStep_shaftLaw h elapsed level⟩
  | backwardCountStep => exact ⟨_, rfl, backwardStep_shaftLaw h⟩
  | illegalTransition => exact ⟨_, rfl, shaftLaw_of_inRange h { ((shaftLaw_iff s).mp h).1 with }⟩
  | indexEdge elapsed level => exact ⟨_, rfl, indexEdge_shaftLaw (passTime_shaftLaw h elapsed) level⟩
  | pitchTimerHold =>
    exact ⟨_, rfl, shaftLaw_of_inRange h { ((shaftLaw_iff s).mp h).1 with timer := Nat.le_refl _ }⟩
  | estopChange level =>
    refine ⟨_, rfl, ?_⟩
    split
    · exact raised _ _ h
    · exact h
  | jamChange level =>
    refine ⟨_, rfl, ?_⟩
    split
    · exact raised _ _ h
    · exact h
  | halt l p =>
    refine ⟨_, rfl, ?_⟩
    split
    · exact h
    · split
      · exact h
      · exact raised .haltCommand (some l) h
  | writeGeometry p =>
    refine ⟨_, rfl, ?_⟩
    split
    · exact h
    · rename_i g _
      split
      · rename_i hs; exact writeGeometry_shaftLaw h hs g
      · exact h
  | commitGeometry p =>
    refine ⟨_, rfl, ?_⟩
    split
    · exact h
    · split
      · split
        · exact h
        · rename_i hc; exact commitGeometry_shaftLaw h hc
      · exact h
  | releaseGeometry p =>
    refine ⟨_, rfl, ?_⟩
    split
    · exact h
    · split
      · exact releaseGeometry_shaftLaw h
      · exact h
  | start p =>
    refine ⟨_, rfl, ?_⟩
    split
    · exact h
    · split
      · rename_i hs; exact startLine_shaftLaw h hs.1
      · exact h
  | drain p =>
    refine ⟨_, rfl, ?_⟩
    split
    · exact h
    · split
      · rename_i hs; exact beginDrain_shaftLaw h hs _
      · exact h
  | clearHalt p =>
    refine ⟨_, rfl, ?_⟩
    split
    · exact h
    · split
      · rename_i hs; exact clearHalt_shaftLaw h hs.1
      · exact h
  | lineReset p =>
    refine ⟨_, rfl, ?_⟩
    split
    · exact h
    · split
      · rename_i hs; exact lineReset_shaftLaw h (by rcases hs with hs | hs <;> simp [hs])
      · exact h
  | readTriggers p =>
    refine ⟨_, rfl, ?_⟩
    split
    · exact h
    · dsimp only; split <;> exact h
  | _ =>
    -- The other commands write nothing that the law speaks of.
    refine ⟨_, rfl, shaftLaw_of_keepsShaft h (.of_eq ?_ ?_ ?_ ?_)⟩ <;> (repeat' split) <;> simp

/-- Settles O12: the law holds after the front command, whatever it is, and after a tick. -/
theorem stepsKeepTheShaftLaw : Obligations.StepsKeepTheShaftLaw := by
  intro s t h hstep
  unfold step at hstep
  split at hstep
  · cases hstep
    unfold tick
    split
    · exact h
    · exact passTime_shaftLaw h 1
  · rename_i c rest _
    obtain ⟨x, hx, law⟩ := exec_keeps_shaftLaw c (s := { s with pending := rest }) h
    rw [hx] at hstep
    cases hstep
    exact conclude_shaftLaw law

end Sys2Proof.Machine

/-! # The queue, reset and every command -/

namespace Sys2Proof.Machine

/-- Settles O1: both branches of a step. -/
theorem stepRunsTheFrontCommand : Obligations.StepRunsTheFrontCommand := by
  refine ⟨fun c rest s => rfl, fun s hs => ?_⟩
  have ticks : step s = .next (tick s) := by unfold step; rw [hs]
  rw [ticks, tick]
  split <;> rfl

/-! ## Power-on values -/

/-- At power-on values with the reset pin released there is nothing left to conclude. -/
theorem conclude_powerOn_released (a b : Bool) {sensors : Sensors} (h : sensors.resetPin = false) (choices : Nat)
    (pending : List Instr) :
    conclude (.powerOn a b sensors choices pending) = .powerOn a b sensors choices pending := by
  rw [conclude_eq _ h]
  simp only [State.powerOn, pinsOf, h]
  rfl

/-- A state at power-on values with the reset pin asserted stays there. -/
theorem underReset_powerOn (a b : Bool) (sensors : Sensors) (choices : Nat) (pending : List Instr) :
    underReset (.powerOn a b sensors choices pending) = .powerOn a b sensors choices pending := by
  unfold underReset; split <;> rfl

theorem conclude_powerOn (a b : Bool) (sensors : Sensors) (choices : Nat) (pending : List Instr) :
    conclude (.powerOn a b sensors choices pending)
      = { State.powerOn a b sensors choices pending with
          pins := pinsOf (.powerOn a b sensors choices pending) } := by
  simp only [conclude, underReset_powerOn]

/-- The pins at power-on: every output off, no attention, and ready and data-out as the reset pin asks (R151). -/
theorem pinsOf_powerOn (a b : Bool) (sensors : Sensors) (choices : Nat) (pending : List Instr) :
    pinsOf (.powerOn a b sensors choices pending) =
      (let dataOut := if sensors.resetPin then DataOut.low else .bytes []
       { outputs := .all false, ready := ⟨!sensors.resetPin, !sensors.resetPin, !sensors.resetPin⟩
         attention := ⟨false, false, false⟩, dataOut := ⟨dataOut, dataOut, dataOut⟩ }) := by
  simp [pinsOf, State.powerOn, PerLink.map, Port.powerOn, Port.readyLine, Port.attentionLine, Port.dataOutLine,
    PerChannel.ofFn, PerChannel.all, outputOf, LineState.running, LineState.jogging]
  rfl

/-- Settles O2: the power-on values, block by block. -/
theorem powerOnResetGivesThePowerOnValues : Obligations.PowerOnResetGivesThePowerOnValues := by
  refine ⟨fun pin a b s => ⟨_, rfl, ?_⟩,
    State.reset, congrArg _ (conclude_powerOn_released false false rfl 0 []), rfl, rfl⟩
  rw [conclude_powerOn]
  refine ⟨rfl, rfl, rfl, rfl, rfl, rfl, rfl, rfl, ?_, rfl, ?_, ?_, rfl, rfl, rfl⟩
  · intro k; cases k <;> rfl
  · intro l; cases l <;> rfl
  · exact pinsOf_powerOn _ _ _ _ _

/-- Settles O3: the laws at the power-on values. -/
theorem resetMeetsEveryLaw : Obligations.ResetMeetsEveryLaw := by
  refine ⟨by decide, ?_, ?_, ?_, powerOn_shaftLaw _ _ _ _ _, ?_, by decide, ?_, ?_⟩
  · exact ⟨fun _ => rfl, fun h => absurd rfl h, .nil, by simp [State.reset, State.powerOn]⟩
  · simp [RecordsSound, State.reset, State.powerOn]
  · refine ⟨by simp [State.reset, State.powerOn], ?_, ?_⟩ <;> decide
  · refine ⟨?_, ?_, ?_⟩ <;> decide
  · refine ⟨?_, ?_, ?_⟩ <;> decide
  · refine ⟨?_, ?_, ?_, ?_, ?_⟩ <;> decide

/-! ## What every command concludes -/

/-- Every command concludes a state with the queue as it was, and only POWER_ON_RESET touches the reset pin. -/
theorem exec_concludes (i : Instr) (s : State) :
    ∃ x, exec i s = .next (conclude x) ∧ x.pending = s.pending
      ∧ ((∀ pin pair, i ≠ .powerOnReset pin pair) → x.sensors.resetPin = s.sensors.resetPin) := by
  cases i with
  | powerOnReset asserted pair => exact ⟨_, rfl, rfl, fun h => absurd rfl (h asserted pair)⟩
  | estopChange level => refine ⟨_, rfl, ?_, fun _ => ?_⟩ <;> split <;> simp
  | jamChange level => refine ⟨_, rfl, ?_, fun _ => ?_⟩ <;> split <;> simp
  | readTriggers p => refine ⟨_, rfl, ?_, fun _ => ?_⟩ <;> dsimp only <;> (repeat' split) <;> simp
  | _ => refine ⟨_, rfl, ?_, fun _ => ?_⟩ <;> (repeat' split) <;> simp

/-! ## The pins -/

theorem anyOn_iff (fs : List Firing) : anyOn fs = true ↔ ∃ f ∈ fs, f.state = .on := by
  simp [anyOn]

@[simp] theorem PerChannel.get_ofFn {α : Type} (f : Channel → α) (ch : Channel) : (PerChannel.ofFn f).get ch = f ch := by
  cases ch <;> rfl

@[simp] theorem PerLink.get_map {α β : Type} (f : α → β) (x : PerLink α) (l : Link) : (x.map f).get l = f (x.get l) := by
  cases l <;> rfl

/-- The outputs of the channels (R54, R56, R57). -/
theorem outputOf_iff (s : State) (ch : Channel) :
    outputOf s ch = true ↔
      ((s.line.state = .ready ∨ s.line.state = .halt) ∧ ch = .rejectGate)
        ∨ ((s.line.state = .run ∨ s.line.state = .drain)
            ∧ ((∃ f ∈ s.firing.held.get ch, f.state = .on) ∨ (ch = .rejectGate ∧ s.firing.gateHold = true))) := by
  cases h : s.line.state <;>
    simp [outputOf, h, LineState.running, LineState.jogging, anyOn_iff]

theorem event_index_surjective : ∀ k < 13, ∃ e : Event, e.index = k := by
  intro k hk
  interval_cases k
  exacts [⟨.halted, rfl⟩, ⟨.drained, rfl⟩, ⟨.batchClosed, rfl⟩, ⟨.backlog, rfl⟩, ⟨.overfill, rfl⟩, ⟨.triggersWaiting, rfl⟩,
    ⟨.triggerOverflow, rfl⟩, ⟨.changeoverTaken, rfl⟩, ⟨.bankReleased, rfl⟩, ⟨.driftAlert, rfl⟩, ⟨.feedInhibited, rfl⟩,
    ⟨.stray, rfl⟩, ⟨.linkError, rfl⟩]

/-- The attention line of a port: some event is both pending and enabled (R159). -/
theorem attentionLine_iff (p : Port) :
    p.attentionLine = true ↔
      ∃ e : Event, maskHas p.pending e.index = true ∧ maskHas p.enable e.index = true := by
  have common : ∀ k, (p.pending &&& p.enable).getLsbD k = true ↔ maskHas p.pending k = true ∧ maskHas p.enable k = true := by
    simp [maskHas]
  simp only [Port.attentionLine, bne_iff_ne, ne_eq]
  constructor
  · intro h
    by_contra hn
    push Not at hn
    refine h (BitVec.eq_of_getLsbD_eq fun k hk => ?_)
    obtain ⟨e, rfl⟩ := event_index_surjective k hk
    by_contra hk
    have := (common e.index).mp (by simpa using hk)
    exact hn e this.1 this.2
  · rintro ⟨e, he⟩ h
    have := (common e.index).mpr he
    simp [h] at this

/-- With the reset pin asserted, what is concluded is what POWER_ON_RESET gives with the pin left asserted. -/
theorem powerOnReset_conclude {s : State} (h : s.sensors.resetPin = true) :
    exec (.powerOnReset true ((conclude s).shaft.pairA, (conclude s).shaft.pairB)) (conclude s)
      = .next (conclude s) := by
  have held : underReset s = .powerOn s.shaft.pairA s.shaft.pairB s.sensors s.choices s.pending := if_pos h
  have concluded : conclude s = conclude (.powerOn s.shaft.pairA s.shaft.pairB s.sensors s.choices s.pending) := by
    rw [conclude, conclude, held, underReset_powerOn]
  have sensors : { s.sensors with resetPin := true } = s.sensors := by rw [← h]
  simp only [exec, execPowerOnReset, conclude_sensors, conclude_choices, conclude_pending, sensors]
  simp only [concluded, conclude_powerOn]
  rfl

/-- The pins of a concluded state are those that the state asks for. -/
theorem conclude_pins (s : State) : (conclude s).pins = pinsOf (conclude s) := rfl

/-- Settles O4: every command ends by concluding, which drives the pins. -/
theorem everyCommandCompletesAndDrivesThePins : Obligations.EveryCommandCompletesAndDrivesThePins := by
  intro i s
  obtain ⟨x, hx, queue, pin⟩ := exec_concludes i s
  refine ⟨conclude x, hx, by simpa using queue, fun ch => ?_, fun hi hp => ?_, fun hp => ?_, fun l => ⟨?_, ?_, ?_⟩⟩
  · rw [conclude_pins, pinsOf, PerChannel.get_ofFn, outputOf_iff]
  · have asserted : x.sensors.resetPin = true := (pin hi).trans hp
    exact ⟨by simpa using asserted, powerOnReset_conclude asserted⟩
  · rw [conclude_eq s hp]
  · rw [conclude_pins]; simp [pinsOf, Port.readyLine]
  · rw [conclude_pins]; simp [pinsOf, Port.dataOutLine]
  · rw [conclude_pins, pinsOf, PerLink.get_map, attentionLine_iff]

end Sys2Proof.Machine

/-! # Answers, events and the geometry record -/

namespace Sys2Proof.Machine

/-! ## The ports after posts and answers (R153, R159) -/

@[simp] theorem PerLink.get_ofFn {α : Type} (f : Link → α) (l : Link) : (PerLink.ofFn f).get l = f l := by
  cases l <;> rfl

theorem PerLink.ext_get {α : Type} {x y : PerLink α} (h : ∀ l, x.get l = y.get l) : x = y := by
  have h1 := h .line
  have h2 := h .inspection
  have h3 := h .packer
  cases x; cases y; simp_all [PerLink.get]

@[simp] theorem portsPosted_nil (ports : PerLink Port) : portsPosted [] ports = ports := rfl

theorem portsPosted_append (xs ys : List Event) (ports : PerLink Port) :
    portsPosted (xs ++ ys) ports = portsPosted ys (portsPosted xs ports) := by
  refine PerLink.ext_get fun l => ?_
  simp [portsPosted]

/-- A posted event at the ports. -/
theorem post_ports (e : Event) (s : State) : (post e s).ports = portsPosted [e] s.ports := rfl

/-- An answer at the ports. -/
theorem answer_eq (l : Link) (c : Command) (status : Status) (payload : List Byte) (s : State) :
    answer l c status payload s = { s with ports := portsAnswered l c status payload [] s.ports } := rfl

/-- A state answered and concluded, with nothing else changed. -/
theorem conclude_answer (l : Link) (c : Command) (status : Status) (payload : List Byte) (s : State) :
    conclude (answer l c status payload s) = s.answered l c status payload := rfl

/-! ## WRITE GEOMETRY and RELEASE GEOMETRY (R135, R137) -/

theorem cppValid_iff (n : Nat) : cppValid n = true ↔ 512 ≤ n ∧ n ≤ 16384 ∧ n % 4 = 0 := by
  simp [cppValid, and_assoc]

/-- R2: a valid cpp that differs is adopted. -/
theorem adoptCpp_eq (s : State) :
    adoptCpp s = { s with shaft :=
      if (512 ≤ s.geometry.cpp ∧ s.geometry.cpp ≤ 16384 ∧ s.geometry.cpp % 4 = 0)
          ∧ s.geometry.cpp ≠ s.shaft.workingCpp then
        { s.shaft with
          workingCpp := s.geometry.cpp, count := 0, phase := 0, highWater := 0, reverseDebt := 0, mismatchRun := 0
          boundariesSinceIndex := 0 }
      else s.shaft } := by
  unfold adoptCpp
  rw [if_congr (and_congr_left' (cppValid_iff _)) rfl rfl]
  split <;> rfl

/-- Settles O39: the two requests in the states that allow them and in the others. -/
theorem geometryIsWrittenAndReleased : Obligations.GeometryIsWrittenAndReleased := by
  refine ⟨fun p g s hp => ⟨fun hs => ?_, fun hs => ?_⟩, fun s => ⟨fun hs => ?_, fun hs hr => ?_⟩⟩
  · simp only [exec, execWriteGeometry, hp, if_neg hs, conclude_answer]
  · simp only [exec, execWriteGeometry, hp, if_pos hs, conclude_answer, adoptCpp_eq]
  · have refused : ¬ (s.line.state = .ready ∧ s.chain.records = []) := fun h => hs.elim (· h.1) (· h.2)
    simp only [exec, execReleaseGeometry, noArguments, if_true, if_neg refused, conclude_answer]
  · simp only [exec, execReleaseGeometry, noArguments, if_true, if_pos (And.intro hs hr), conclude_answer]
    rfl

/-! ## The levels at an entry to READY (R140) -/

theorem examineLevels_none {s : State} (he : s.sensors.estop = false) (hj : s.sensors.jam = false) :
    examineLevels s = s := by
  simp [examineLevels, he, hj]

theorem examineLevels_estop {s : State} (he : s.sensors.estop = true) (hj : s.sensors.jam = false) :
    examineLevels s = raiseCause .estop none s := by
  simp [examineLevels, he, hj]

theorem examineLevels_jam {s : State} (he : s.sensors.estop = false) (hj : s.sensors.jam = true) :
    examineLevels s = raiseCause .jam none s := by
  simp [examineLevels, he, hj]

/-- The levels are raised as halt causes one after the other, in one of their orders. -/
theorem examineLevels_order (s : State) :
    ∃ (order : List HaltCause) (index : Nat), order.Perm (levelCauses s)
      ∧ examineLevels s = { order.foldl (fun x c => raiseCause c none x) s with choices := index } := by
  obtain ⟨order, perm, run⟩ := runAll_order (fun c => raiseCause c none) (levelCauses s) s
  have forget : ∀ (l : List (HaltCause × Nat)) (x : State) (k : Nat), ∃ index,
      l.foldl (fun s x => raiseCause x.1 none { s with choices := x.2 }) { x with choices := k }
        = { (l.map Prod.fst).foldl (fun x c => raiseCause c none x) x with choices := index } := by
    intro l
    induction l with
    | nil => exact fun x k => ⟨k, rfl⟩
    | cons a l ih =>
      intro x k
      obtain ⟨index, e⟩ := ih (raiseCause a.1 none x) a.2
      refine ⟨index, ?_⟩
      simp only [List.foldl_cons, List.map_cons, ← e, raiseCause_choices_commute]
  obtain ⟨index, e⟩ := forget order s s.choices
  exact ⟨order.map Prod.fst, index, perm, run.trans e⟩

/-- With both levels active one is raised first, the other after it. -/
theorem examineLevels_both {s : State} (he : s.sensors.estop = true) (hj : s.sensors.jam = true) :
    ∃ x index, (x = raiseCause .jam none (raiseCause .estop none s)
        ∨ x = raiseCause .estop none (raiseCause .jam none s))
      ∧ examineLevels s = { x with choices := index } := by
  obtain ⟨order, index, perm, run⟩ := examineLevels_order s
  have levels : levelCauses s = [.estop, .jam] := by simp [levelCauses, he, hj]
  rcases List.perm_pair.mp (levels ▸ perm) with rfl | rfl
  · exact ⟨_, index, .inl rfl, run⟩
  · exact ⟨_, index, .inr rfl, run⟩

/-- Halt causes raised in HALT join the further causes (R143). -/
theorem raiseCauses_in_halt (causes : List HaltCause) :
    ∀ {s : State}, s.line.state = .halt →
      causes.foldl (fun x c => raiseCause c none x) s = { s with
        line.haltRecord.further := (causes.foldl (fun m c => maskAdd m c.index) s.line.haltRecord.further) } := by
  induction causes with
  | nil => intro s _; rfl
  | cons c causes ih =>
    intro s h
    have joined := raiseCause_in_halt h c none
    rw [List.foldl_cons, ih (by rw [joined]; exact h), joined]
    rfl

theorem maskAdd_right_comm {n : Nat} (m : BitVec n) (i j : Nat) :
    maskAdd (maskAdd m i) j = maskAdd (maskAdd m j) i := by
  simp only [maskAdd, BitVec.or_assoc, BitVec.or_comm (BitVec.twoPow n i)]

/-- Added members make the same set in any order. -/
theorem foldl_maskAdd_perm {n : Nat} {xs ys : List HaltCause} (h : xs.Perm ys) (m : BitVec n) :
    xs.foldl (fun m c => maskAdd m c.index) m = ys.foldl (fun m c => maskAdd m c.index) m :=
  have : RightCommutative fun (m : BitVec n) (c : HaltCause) => maskAdd m c.index :=
    ⟨fun m x y => maskAdd_right_comm m x.index y.index⟩
  h.foldl_eq m

/-- A level active at an entry to READY halts the line: one cause is first, the other a further one (R140, R143). -/
theorem examineLevels_halts {s : State} (hr : s.line.state = .ready) (hl : levelCauses s ≠ []) :
    ∃ first ∈ levelCauses s, ∃ index, examineLevels s = { enterHalt first none s with
      choices := index
      line.haltRecord.further := ((levelCauses s).erase first).foldl (fun m c => maskAdd m c.index) 0 } := by
  obtain ⟨order, index, perm, run⟩ := examineLevels_order s
  cases order with
  | nil => exact absurd perm.symm.eq_nil hl
  | cons first rest =>
    have mem : first ∈ levelCauses s := perm.subset List.mem_cons_self
    have left : rest.Perm ((levelCauses s).erase first) := by simpa using perm.erase first
    refine ⟨first, mem, index, ?_⟩
    rw [run, List.foldl_cons, raiseCause_enters (by simp [hr]) (by simp [hr]),
      raiseCauses_in_halt _ (enterHalt_line_state first none s), foldl_maskAdd_perm left]
    simp [haltEntryRecord]

/-- Settles O41: COMMIT GEOMETRY by line state, check and level. -/
theorem commitGeometryLocksTheLine : Obligations.CommitGeometryLocksTheLine := by
  intro s
  refine ⟨fun hs => ?_, fun hs => ⟨fun code hc => ?_, fun hc => ?_⟩⟩
  · simp only [exec, execCommitGeometry, noArguments, if_true, if_neg hs, conclude_answer]
  · simp only [exec, execCommitGeometry, noArguments, if_true, if_pos hs, hc, conclude_answer]
    rfl
  · have taken : exec (.commitGeometry []) s
        = .next ((examineLevels (committed s)).answered .line .commitGeometry .ok []) := by
      simp only [exec, execCommitGeometry, noArguments, if_true, if_pos hs, hc, conclude_answer, commitGeometry_eq]
    rw [taken]
    refine ⟨fun he hj => ?_, fun he hj => ?_, fun he hj => ?_, fun he hj pin => ?_, fun he hj => ?_⟩
    · rw [examineLevels_none (s := committed s) he hj]; rfl
    · rw [examineLevels_estop (s := committed s) he hj]; rfl
    · rw [examineLevels_jam (s := committed s) he hj]; rfl
    · have levels : levelCauses (committed s) = [.estop, .jam] := by simp [levelCauses, committed, he, hj]
      obtain ⟨first, mem, index, halted⟩ := examineLevels_halts (s := committed s) rfl (by simp [levels])
      refine ⟨_, rfl, ?_⟩
      rw [levels] at mem halted
      rw [State.answered, conclude_line _ (by simpa [committed] using pin), halted]
      simp only [List.mem_cons, List.not_mem_nil, or_false] at mem
      have jam : maskAdd (0 : BitVec 6) HaltCause.jam.index = 2 := by decide
      have estop : maskAdd (0 : BitVec 6) HaltCause.estop.index = 1 := by decide
      rcases mem with rfl | rfl
      · exact ⟨by simp, by simp [committed], .inl ⟨by simp [haltEntryRecord], jam⟩⟩
      · exact ⟨by simp, by simp [committed], .inr ⟨by simp [haltEntryRecord], estop⟩⟩
    · obtain ⟨x, index, hx, e⟩ := examineLevels_both (s := committed s) he hj
      exact ⟨x, index, hx, by rw [e]⟩

end Sys2Proof.Machine

/-! # Phase crossings and the forward step within the pitch (R3, R6) -/

namespace Sys2Proof.Machine

/-! ## Which phases are crossed -/

/-- The numbers above `lo` up to `hi`, in ascending order. -/
theorem range_filter_between {n hi : Nat} (lo : Nat) (h : hi < n) :
    (List.range n).filter (fun p => decide (lo < p) && decide (p ≤ hi)) = List.range' (lo + 1) (hi - lo) := by
  have split : (List.range n).filter (fun p => decide (lo < p) && decide (p ≤ hi))
      = ((List.Ico 0 n).filter (fun p => decide (p < hi + 1))).filter (fun p => decide (lo + 1 ≤ p)) := by
    simp only [List.filter_filter, Nat.lt_succ_iff, Nat.succ_le_iff, List.Ico.zero_bot]
  rw [split, List.Ico.filter_lt, List.Ico.filter_le, Nat.min_eq_right (by omega), Nat.zero_max, List.Ico]
  congr 1
  omega

theorem phasesCrossed_eq (s : State) {hi : Nat} (h : hi ≤ 4095) :
    phasesCrossed s hi = List.range' (max s.shaft.phase s.shaft.highWater + 1)
      (hi - max s.shaft.phase s.shaft.highWater) := by
  rw [← range_filter_between _ (Nat.lt_succ_of_le h), phasesCrossed]
  refine List.filter_congr fun p _ => ?_
  simp [Bool.decide_and]

/-- The crossings from the phase and the high-water phase of a state, written as the phases they cross. -/
theorem crossings_eq_phasesCrossed (level : Bool) (s : State) {hi : Nat} (h : hi ≤ 4095) (x : State) :
    crossings level (max s.shaft.phase s.shaft.highWater) hi x = (phasesCrossed s hi).foldl (crossing level) x := by
  rw [phasesCrossed_eq s h]; rfl

/-! ## The forward step within the pitch, and with debt -/

theorem advanceCount_indebted (level : Bool) (c : Nat) {s : State} (h : s.shaft.reverseDebt ≠ 0) :
    advanceCount level c s = setCount c s := if_neg h

/-- Without debt the count moves on and the phases passed above the high-water phase are crossed (R6). -/
theorem advanceCount_free (level : Bool) (c : Nat) {s : State} (h : s.shaft.reverseDebt = 0)
    (hp : phaseOf c s.shaft.workingCpp ≤ 4095) :
    advanceCount level c s = (phasesCrossed s (phaseOf c s.shaft.workingCpp)).foldl (crossing level)
      { s with shaft := { s.shaft with
          count := c, phase := phaseOf c s.shaft.workingCpp
          highWater := max s.shaft.highWater (phaseOf c s.shaft.workingCpp) } } := by
  rw [← crossings_eq_phasesCrossed level s hp]
  exact if_pos h

/-- A step with debt changes the Shaft Tracker alone (R3, R6). -/
theorem forwardCount_indebted_shaft (level : Bool) {s : State} (h : s.shaft.reverseDebt ≠ 0) :
    ∃ x : Shaft, forwardCount level s = { s with shaft := x } := by
  by_cases hw : s.shaft.count + 1 < s.shaft.workingCpp
  · rw [forwardCount_within level hw, advanceCount_indebted level _ h]; exact ⟨_, rfl⟩
  · rw [forwardCount_indebted level (Nat.not_lt.mp hw) h]; exact ⟨_, rfl⟩

/-! ## The work found at a crossing -/

/-- The field of a subject's bank, where the subject names a record of the chain. -/
theorem subjectFields_some (s : State) (subject : Option Seq) (f : BankFields) :
    subjectFields s subject = some f ↔
      ∃ q r, subject = some q ∧ recordBySeq s q = some r ∧ fieldsOf s r.bank = f := by
  cases subject <;> simp [subjectFields]

theorem markDue_iff (p : Nat) (s : State) :
    markDue p s = true ↔
      ∃ q r, s.registration.markSubject = some q ∧ recordBySeq s q = some r
        ∧ ((fieldsOf s r.bank).markOpen = p ∨ (fieldsOf s r.bank).markClose = p) := by
  unfold markDue
  cases h : subjectFields s s.registration.markSubject with
  | none =>
    simp only [Bool.false_eq_true, false_iff]
    rintro ⟨q, r, hq, hr, -⟩
    simp [subjectFields, hq, hr] at h
  | some f =>
    obtain ⟨q, r, hq, hr, rfl⟩ := (subjectFields_some s _ f).mp h
    simp [hq, hr]

theorem patchDue_iff (p : Nat) (s : State) :
    patchDue p s = true ↔
      ∃ q r, s.registration.patchSubject = some q ∧ recordBySeq s q = some r
        ∧ ((fieldsOf s r.bank).patchCheckOpen = p ∨ (fieldsOf s r.bank).patchCheckClose = p) := by
  unfold patchDue
  cases h : subjectFields s s.registration.patchSubject with
  | none =>
    simp only [Bool.false_eq_true, false_iff]
    rintro ⟨q, r, hq, hr, -⟩
    simp [subjectFields, hq, hr] at h
  | some f =>
    obtain ⟨q, r, hq, hr, rfl⟩ := (subjectFields_some s _ f).mp h
    simp [hq, hr]

/-- The bank whose fold window is watched (R84). -/
theorem foldBank_some (s : State) (b : BankId) :
    foldBank s = some b ↔ s.gumFold.foldTarget = .empty b
      ∨ ∃ q r, s.gumFold.foldTarget = .record q ∧ recordBySeq s q = some r ∧ r.bank = b := by
  cases h : s.gumFold.foldTarget <;> simp [foldBank, h]

theorem foldDue_iff (p : Nat) (s : State) :
    foldDue p s = true ↔ ∃ b, foldBank s = some b ∧ ((fieldsOf s b).foldOpen = p ∨ (fieldsOf s b).foldClose = p) := by
  cases h : foldBank s <;> simp [foldDue, foldFields, h]

theorem gateSubject_isSome (p : Nat) (s : State) :
    (gateSubject p s).isSome = true ↔ s.line.state ≠ .config ∧ ∃ r, recordBefore s s.geometry.posGate = some r
      ∧ r.fate = .undecided ∧ (fieldsOf s r.bank).gateDecide = p := by
  unfold gateSubject
  by_cases hc : s.line.state = .config
  · simp [hc]
  · cases hr : recordBefore s s.geometry.posGate <;> simp [hc]

theorem countSubject_isSome (p : Nat) (s : State) :
    (countSubject p s).isSome = true ↔ ∃ r, recordAt s s.geometry.posCount = some r ∧ r.counted = false
      ∧ (fieldsOf s r.bank).countPhase = p := by
  unfold countSubject
  cases hr : recordAt s s.geometry.posCount <;> simp

/-- The edges of one held firing that fall at a phase: the on edge of a PLANNED one, the off edge of any other. -/
theorem mem_firing_edgesAt (ch : Channel) (p : Int) (f : Firing) (e : Edge) :
    e ∈ f.edgesAt ch p ↔ ch = e.channel ∧ f.anchorSeq = e.seq
      ∧ ((f.state = .planned ∧ e.isOn = true ∧ f.effOn + 4096 * f.anchorPitch = p)
        ∨ (f.state ≠ .planned ∧ e.isOn = false ∧ f.effOff + 4096 * f.anchorPitch = p)) := by
  obtain ⟨channel, seq, isOn⟩ := e
  cases h : f.state <;>
    simp [Firing.edgesAt, h, Firing.onEdgeAt, Firing.offEdgeAt, eq_comm] <;> tauto

theorem Channel.mem_all (ch : Channel) : ch ∈ Channel.all := by
  cases ch <;> decide

theorem mem_edgesAt (p : Int) (s : State) (e : Edge) :
    e ∈ edgesAt p s ↔ ∃ f ∈ s.firing.held.get e.channel, f.anchorSeq = e.seq
      ∧ ((f.state = .planned ∧ e.isOn = true ∧ f.effOn + 4096 * f.anchorPitch = p)
        ∨ (f.state ≠ .planned ∧ e.isOn = false ∧ f.effOff + 4096 * f.anchorPitch = p)) := by
  simp only [edgesAt, List.mem_flatMap, mem_firing_edgesAt]
  constructor
  · rintro ⟨ch, -, f, hf, rfl, h⟩
    exact ⟨f, hf, h⟩
  · rintro ⟨f, hf, h⟩
    exact ⟨e.channel, e.channel.mem_all, f, hf, rfl, h⟩

/-- That a crossing finds a task to do. -/
def CrossingTask.Due (p : Nat) (s : State) : CrossingTask → Prop
  | .edge e => e ∈ edgesAt p s
  | .mark => markDue p s = true
  | .patch => patchDue p s = true
  | .fold => foldDue p s = true
  | .gate => (gateSubject p s).isSome = true
  | .count => (countSubject p s).isSome = true

/-- Which tasks a crossing finds (R44, R47, R51, R63, R67, R74, R85, R99, R106). -/
theorem mem_crossingTasks (p : Nat) (s : State) (t : CrossingTask) : t ∈ crossingTasks p s ↔ t.Due p s := by
  cases t <;> simp [crossingTasks, CrossingTask.Due]

/-! ## What the crossings leave -/

/-- The Line Sequencer but for its feed-inhibit set. -/
def LineSequencer.apart (l : LineSequencer) : LineSequencer := { l with feedInhibit := 0 }

theorem LineSequencer.eq_of_apart {l m : LineSequencer} (h : m.apart = l.apart) :
    m = { l with feedInhibit := m.feedInhibit } := by
  simp only [LineSequencer.apart, LineSequencer.mk.injEq] at h
  cases m; simp_all

theorem doCrossing_line_apart (v : Bool) (p : Nat) (t : CrossingTask) (s : State) :
    (doCrossing v p t s).line.apart = s.line.apart := by
  cases t <;> simp [doCrossing, LineSequencer.apart]

@[simp] theorem crossing_line_apart (v : Bool) (p : Nat) (s : State) : (crossing v s p).line.apart = s.line.apart :=
  runAll_proj (fun s => s.line.apart) (fun _ _ => rfl) (fun t s => doCrossing_line_apart v p t s) _ _

@[simp] theorem crossings_line_apart (v : Bool) (lo hi : Nat) (s : State) :
    (crossings v lo hi s).line.apart = s.line.apart :=
  foldl_proj (fun s => s.line.apart) (fun s p => crossing_line_apart v p s) _ _

/-! ### That the fold window is barred (R89, log 30) -/

theorem gumProgress_barred (ch : Channel) (r : Record) (s : State) :
    (gumProgress ch r s).gumFold.foldBarred = s.gumFold.foldBarred := by
  unfold gumProgress; (repeat' split) <;> rfl

theorem gumEdge_barred (ch : Channel) (r : Record) (s : State) :
    (gumEdge ch r s).gumFold.foldBarred = s.gumFold.foldBarred := by
  unfold gumEdge; (repeat' split) <;> simp [gumProgress_barred, setGummed, forgetGum]

theorem takeEdge_barred (e : Edge) (s : State) : (takeEdge e s).gumFold.foldBarred = s.gumFold.foldBarred := by
  unfold takeEdge onEdge; (repeat' split) <;> simp [gumEdge_barred]

theorem settleFold_barred (s : State) : (settleFold s).gumFold.foldBarred = s.gumFold.foldBarred := by
  unfold settleFold; (repeat' split) <;> simp

theorem foldReport_barred (s : State) : (foldReport s).gumFold.foldBarred = s.gumFold.foldBarred := by
  simp only [foldReport]; (repeat' split) <;> rfl

theorem openFold_keeps_barred (v : Bool) (s : State) : (openFold v s).gumFold.foldBarred = s.gumFold.foldBarred := by
  simp only [openFold]; (repeat' split) <;> simp [foldReport_barred]

theorem foldCrossing_barred (v : Bool) (p : Nat) (s : State) :
    (foldCrossing v p s).gumFold.foldBarred = s.gumFold.foldBarred := by
  simp only [foldCrossing]; (repeat' split) <;> simp [closeFold, settleFold_barred, openFold_keeps_barred]

theorem doCrossing_barred (v : Bool) (p : Nat) (t : CrossingTask) (s : State) :
    (doCrossing v p t s).gumFold.foldBarred = s.gumFold.foldBarred := by
  cases t with
  | edge e => exact takeEdge_barred e s
  | fold => exact foldCrossing_barred v p s
  | _ => simp [doCrossing]

@[simp] theorem crossings_barred (v : Bool) (lo hi : Nat) (s : State) :
    (crossings v lo hi s).gumFold.foldBarred = s.gumFold.foldBarred :=
  foldl_proj (fun s => s.gumFold.foldBarred)
    (fun s _ => runAll_proj (fun s => s.gumFold.foldBarred) (fun _ _ => rfl) (fun t s => doCrossing_barred _ _ t s) _ s)
    _ _

/-! ## O18 -/

/-- What a count change within the pitch leaves of everything but the Shaft Tracker (R6, R29). -/
theorem advanceCount_leaves (v : Bool) (c : Nat) (s : State) :
    (advanceCount v c s).chain.places = s.chain.places ∧ (advanceCount v c s).banks = s.banks
      ∧ (advanceCount v c s).gumFold.foldBarred = s.gumFold.foldBarred
      ∧ (advanceCount v c s).line.apart = s.line.apart ∧ Posts s (advanceCount v c s) := by
  refine ⟨by simp, ?_⟩
  simp only [advanceCount]
  split
  · exact ⟨by simp, by simp, by simp, Posts.trans (.of_eq (by simp)) (crossings_posts _ _ _ _)⟩
  · exact ⟨rfl, rfl, rfl, .of_eq rfl⟩

/-- Settles O18: the crossings of a forward step within the pitch, their tasks, and what they leave. -/
theorem forwardStepWithinThePitch : Obligations.ForwardStepWithinThePitch := by
  refine ⟨fun elapsed level s hd => ?_, fun elapsed level s hw hd hp => ?_, fun level p s => ⟨?_, ?_, fun _ => rfl,
    rfl, rfl, rfl, rfl, rfl⟩, fun elapsed level s pin hw => ?_⟩
  · obtain ⟨x, hx⟩ := forwardCount_indebted_shaft (s := steppedForward elapsed s) level (Nat.pos_iff_ne_zero.mp hd)
    exact ⟨x, by rw [exec_forwardCountStep, hx]; rfl⟩
  · refine ⟨{ (steppedForward elapsed s).shaft with
      count := s.shaft.count + 1, phase := phaseOf (s.shaft.count + 1) s.shaft.workingCpp
      highWater := max s.shaft.highWater (phaseOf (s.shaft.count + 1) s.shaft.workingCpp) }, rfl, ?_⟩
    have moved := (forwardCount_within (s := steppedForward elapsed s) level hw).trans
      (advanceCount_free (s := steppedForward elapsed s) level _ hd hp)
    exact congrArg (fun x => Host.Outcome.next (conclude x)) moved
  · exact runAll_order (doCrossing level p) (crossingTasks p s) s
  · have due := mem_crossingTasks p s
    refine ⟨fun e => (due _).trans (mem_edgesAt p s e), (due _).trans ?_, (due _).trans ?_, (due _).trans ?_,
      (due _).trans (gateSubject_isSome p s), (due _).trans (countSubject_isSome p s)⟩
    · simp only [CrossingTask.Due, markDue_iff, and_or_left, exists_or]
    · simp only [CrossingTask.Due, patchDue_iff, and_or_left, exists_or]
    · simp only [CrossingTask.Due, foldDue_iff, foldBank_some]
  · obtain ⟨places, banks, barred, line, posts⟩ :=
      advanceCount_leaves level ((steppedForward elapsed s).shaft.count + 1) (steppedForward elapsed s)
    have pin' : (advanceCount level ((steppedForward elapsed s).shaft.count + 1)
        (steppedForward elapsed s)).sensors.resetPin = false := by simpa [steppedForward] using pin
    simp only [Chain.places, Prod.mk.injEq] at places
    obtain ⟨records, next, fed, good, rejected, purged⟩ := places
    refine ⟨_, by rw [exec_forwardCountStep, forwardCount_within (s := steppedForward elapsed s) level hw], ?_⟩
    simp only [conclude_chain _ pin', conclude_geometry _ pin', conclude_banks _ pin', conclude_gumFold _ pin',
      conclude_line _ pin', conclude_ports _ pin', conclude_sensors]
    exact ⟨records, next, fed, good, rejected, purged, by simp [steppedForward], banks, by simp [steppedForward], barred,
      LineSequencer.eq_of_apart line, fun l => (posts l).1⟩

end Sys2Proof.Machine

/-! # The chain operation of a forward boundary (R22, R26 to R33, R103, R130, R131) -/

namespace Sys2Proof.Machine

/-! ## Bank states and fields after the operations on banks (R122, R126) -/

theorem bankState_setBankState (b : BankId) (st : BankState) (s : State) (k : BankId) :
    bankState (setBankState b st s) k = if k = b then st else bankState s k := by
  cases b <;> cases k <;> rfl

@[simp] theorem fieldsOf_setBankState (b : BankId) (st : BankState) (s : State) (k : BankId) :
    fieldsOf (setBankState b st s) k = fieldsOf s k := by
  cases b <;> cases k <;> rfl

theorem bankState_of_banks {s t : State} (h : t.banks = s.banks) (k : BankId) : bankState t k = bankState s k := by
  rw [bankState, bankState, h]

theorem fieldsOf_of_banks {s t : State} (h : t.banks = s.banks) (k : BankId) : fieldsOf t k = fieldsOf s k := by
  rw [fieldsOf, fieldsOf, h]

theorem BankId.other_ne (b : BankId) : b.other ≠ b := by
  cases b <;> decide

/-- A bank found in a state is in it. -/
theorem bankState_of_bankIn {st : BankState} {s : State} {b : BankId} (h : bankIn st s = some b) : bankState s b = st := by
  unfold bankIn at h
  split at h
  · cases h; assumption
  · split at h
    · cases h; assumption
    · cases h

/-- A bank in a state that the other is not in is the one found. -/
theorem bankIn_eq_some {st : BankState} {s : State} {b : BankId} (h : bankState s b = st)
    (ho : bankState s b.other ≠ st) : bankIn st s = some b := by
  cases b <;> simp_all [bankIn, BankId.other]

theorem bankIn_congr {st : BankState} {s t : State} (h : ∀ k, bankState t k = st ↔ bankState s k = st) :
    bankIn st t = bankIn st s := by
  simp only [bankIn, h]

theorem bankState_releaseBank (b : BankId) (s : State) (k : BankId) :
    bankState (releaseBank b s) k = if k = b ∧ bankState s k = .draining then .valid else bankState s k := by
  unfold releaseBank
  split
  · rename_i h
    rw [bankState_of_banks (post_banks _ _), bankState_setBankState]
    by_cases hk : k = b
    · subst hk; simp [h]
    · simp [hk]
  · rename_i h
    rw [if_neg]
    rintro ⟨rfl, hk⟩
    exact h hk

@[simp] theorem fieldsOf_releaseBank (b : BankId) (s : State) (k : BankId) :
    fieldsOf (releaseBank b s) k = fieldsOf s k := by
  unfold releaseBank
  split
  · rw [fieldsOf_of_banks (post_banks _ _), fieldsOf_setBankState]
  · rfl

theorem bankNamed_of_chain {s t : State} (h : t.chain = s.chain) (b : BankId) : bankNamed t b = bankNamed s b := by
  rw [bankNamed, bankNamed, h]

/-- The release of one bank that records named before and none names now (R31). -/
def releaseUnnamed (before : List Record) (b : BankId) (s : State) : State :=
  if namesBank before b && !bankNamed s b then releaseBank b s else s

theorem releaseNotices_eq (before : List Record) (s : State) :
    releaseNotices before s = releaseUnnamed before .bank1 (releaseUnnamed before .bank0 s) := rfl

theorem bankState_releaseUnnamed (before : List Record) (b : BankId) (s : State) (k : BankId) :
    bankState (releaseUnnamed before b s) k
      = if k = b ∧ bankState s k = .draining ∧ namesBank before k = true ∧ bankNamed s k = false then .valid
        else bankState s k := by
  unfold releaseUnnamed
  split
  · rename_i h
    simp only [Bool.and_eq_true, Bool.not_eq_eq_eq_not, Bool.not_true] at h
    rw [bankState_releaseBank]
    refine if_congr ⟨?_, fun h' => ⟨h'.1, h'.2.1⟩⟩ rfl rfl
    rintro ⟨rfl, hd⟩
    exact ⟨rfl, hd, h⟩
  · rename_i h
    rw [if_neg]
    rintro ⟨rfl, -, hn, hm⟩
    exact h (by simp [hn, hm])

@[simp] theorem releaseUnnamed_chain (before : List Record) (b : BankId) (s : State) :
    (releaseUnnamed before b s).chain = s.chain := by
  unfold releaseUnnamed; split <;> simp

/-- R31, R131: the notices release the DRAINING banks that records named before and none names now. -/
theorem bankState_releaseNotices (before : List Record) (s : State) (k : BankId) :
    bankState (releaseNotices before s) k
      = if bankState s k = .draining ∧ namesBank before k = true ∧ bankNamed s k = false then .valid
        else bankState s k := by
  rw [releaseNotices_eq, bankState_releaseUnnamed, bankNamed_of_chain (releaseUnnamed_chain _ _ _),
    bankState_releaseUnnamed]
  cases k <;> simp

@[simp] theorem fieldsOf_releaseNotices (before : List Record) (s : State) (k : BankId) :
    fieldsOf (releaseNotices before s) k = fieldsOf s k := by
  have one : ∀ b x, fieldsOf (releaseUnnamed before b x) k = fieldsOf x k := by
    intro b x; unfold releaseUnnamed; split <;> simp
  rw [releaseNotices_eq, one, one]

/-- The release of a bank touches neither the ACTIVE nor the ARMED one. -/
theorem bankIn_releaseNotices {st : BankState} (hd : st ≠ .draining) (hv : st ≠ .valid) (before : List Record)
    (s : State) : bankIn st (releaseNotices before s) = bankIn st s := by
  refine bankIn_congr fun k => ?_
  rw [bankState_releaseNotices]
  split
  · rename_i h; simp [h.1, Ne.symm hd, Ne.symm hv]
  · rfl

/-! ## The changeover (R130) -/

theorem takeChangeover_unarmed {s : State} (h : armedBank s = none) : takeChangeover s = s := by
  simp [takeChangeover, h]

/-- The banks at a changeover to bank `b`: it becomes ACTIVE, and the one that was ACTIVE is retired (R130). -/
def banksChanged (b : BankId) (s : State) : State :=
  match activeBank s with
  | none => setBankState b .active s
  | some old => retireBank old (setBankState b .active s)

theorem takeChangeover_armed {s : State} {b : BankId} (h : armedBank s = some b) :
    takeChangeover s = retakeSupplies (supersede b (zeroDrift (post .changeoverTaken (banksChanged b s)))) := by
  simp only [takeChangeover, h]
  rfl

theorem bankState_retireBank (b : BankId) (s : State) (k : BankId) :
    bankState (retireBank b s) k
      = if k = b then (if bankNamed s b then .draining else .valid) else bankState s k := by
  unfold retireBank
  split
  · exact bankState_setBankState _ _ _ _
  · exact bankState_setBankState _ _ _ _

theorem bankState_takeChangeover {s : State} {b : BankId} (h : armedBank s = some b) (k : BankId) :
    bankState (takeChangeover s) k
      = if k = b then .active
        else if activeBank s = some k then (if bankNamed s k then .draining else .valid)
        else bankState s k := by
  have armed := bankState_of_bankIn h
  rw [takeChangeover_armed h, bankState_of_banks (s := banksChanged b s) (by simp [supersede]), banksChanged]
  cases ha : activeBank s with
  | none => rw [bankState_setBankState]; simp
  | some old =>
    have active := bankState_of_bankIn ha
    have ne : old ≠ b := by rintro rfl; rw [armed] at active; cases active
    simp only [bankState_retireBank, bankState_setBankState, Option.some.injEq]
    by_cases hk : k = old
    · subst hk; simp [ne]; rfl
    · simp [hk, Ne.symm hk]

@[simp] theorem fieldsOf_takeChangeover (s : State) (k : BankId) : fieldsOf (takeChangeover s) k = fieldsOf s k := by
  have retired : ∀ b x, fieldsOf (retireBank b x) k = fieldsOf x k := by
    intro b x; unfold retireBank; split <;> exact fieldsOf_setBankState _ _ _ _
  cases h : armedBank s with
  | none => rw [takeChangeover_unarmed h]
  | some b =>
    rw [takeChangeover_armed h, fieldsOf_of_banks (s := banksChanged b s) (by simp [supersede]), banksChanged]
    split
    · exact fieldsOf_setBankState _ _ _ _
    · rw [retired, fieldsOf_setBankState]

/-- After a changeover the bank that was ARMED is the active one. -/
theorem activeBank_takeChangeover (s : State) : activeBank (takeChangeover s) = feedBank s := by
  unfold feedBank
  cases h : armedBank s with
  | none => rw [takeChangeover_unarmed h]
  | some b =>
    refine bankIn_eq_some (by simp [bankState_takeChangeover h]) ?_
    have armed := bankState_of_bankIn h
    rw [bankState_takeChangeover h, if_neg b.other_ne]
    split
    · split <;> simp
    · rename_i ha
      intro active
      exact ha (bankIn_eq_some active (by cases b <;> simp_all [BankId.other]))

/-! ## The stages (R26 to R30) -/

theorem bankIn_leavingStage {st : BankState} (hd : st ≠ .draining) (hv : st ≠ .valid) (s : State) :
    bankIn st (leavingStage s) = bankIn st s :=
  bankIn_releaseNotices hd hv _ _

/-- The state in which the feed decision is made: stages 1 and 2 are done. -/
def advanced (s : State) : State := advanceStage (leavingStage s)

theorem chainBoundary_eq (s : State) : chainBoundary s = feedStage (advanced s) := rfl

theorem activeBank_advanced (s : State) : activeBank (advanced s) = activeBank s :=
  bankIn_leavingStage (by decide) (by decide) s

theorem armedBank_advanced (s : State) : armedBank (advanced s) = armedBank s :=
  bankIn_leavingStage (by decide) (by decide) s

theorem mayFeed_advanced (s : State) : mayFeed (advanced s) = mayFeed s := by
  have line : (advanced s).line = s.line := leavingStage_line s
  simp only [mayFeed, line, activeBank_advanced]

theorem fieldsOf_advanced (s : State) (k : BankId) : fieldsOf (advanced s) k = fieldsOf s k :=
  fieldsOf_releaseNotices _ _ k

/-- A record that may be fed has a bank to be fed under. -/
theorem feedBank_isSome {s : State} (h : mayFeed s = true) : ∃ b, feedBank s = some b := by
  have active : (activeBank s).isSome = true := by simp [mayFeed] at h; exact h.2
  unfold feedBank
  split
  · exact ⟨_, rfl⟩
  · exact Option.isSome_iff_exists.mp active

/-- The records that stay and move up one position (R29). -/
def movedUp (s : State) : List Record :=
  (s.chain.records.filter (staysInChain s.geometry)).map fun r => { r with position := r.position + 1 }

/-- The record that is created, where the feed decision succeeds (R22, R30). -/
def created (s : State) : List Record :=
  if mayFeed s then ((feedBank s).map fun b => newRecord s.chain.nextSeq b (fieldsOf s b)).toList else []

theorem advanced_chain (s : State) :
    (advanced s).chain = { s.chain with
      records := movedUp s
      rejected := addCount s.chain.rejected (s.chain.records.filter (leavesAtGate s.geometry))
      good := addCount s.chain.good (s.chain.records.filter (leavesAtCount s.geometry)) } := by
  simp only [advanced, advanceStage, leavingStage_chain, movedUp]

/-- All that a forward boundary's chain operation does to the chain (R26 to R30). -/
theorem chainBoundary_chain (s : State) :
    (chainBoundary s).chain =
      { records := created s ++ movedUp s
        nextSeq := s.chain.nextSeq + if mayFeed s then 1 else 0
        fed := s.chain.fed + if mayFeed s then 1 else 0
        good := addCount s.chain.good (s.chain.records.filter (leavesAtCount s.geometry))
        rejected := addCount s.chain.rejected (s.chain.records.filter (leavesAtGate s.geometry))
        purged := s.chain.purged } := by
  rw [chainBoundary_eq, feedStage, mayFeed_advanced, created]
  by_cases hf : mayFeed s = true
  · obtain ⟨b, hb⟩ := feedBank_isSome hf
    have bank : activeBank (takeChangeover (advanced s)) = some b := by
      rw [activeBank_takeChangeover, feedBank, armedBank_advanced, activeBank_advanced]; exact hb
    simp [hf, hb, createRecord, bank, fieldsOf_advanced, advanced_chain]
  · simp [hf, advanced_chain]

theorem chainBoundary_reasonCounts (s : State) :
    (chainBoundary s).verdicts.reasonCounts
      = (s.chain.records.filter (leavesAtGate s.geometry)).foldl (fun c r => c.count r.reasons)
          s.verdicts.reasonCounts := by
  rw [chainBoundary_eq, feedStage_verdicts, advanced]
  simp [leavingStage, advanceStage]

/-- Bank states after the chain operation with no feed: only unnamed DRAINING banks are released. -/
theorem bankState_chainBoundary_unfed {s : State} (h : mayFeed s = false) (k : BankId) :
    bankState (chainBoundary s) k = bankState (advanced s) k := by
  rw [chainBoundary_eq, feedStage, mayFeed_advanced, h]; rfl

theorem bankState_chainBoundary_fed {s : State} (h : mayFeed s = true) (k : BankId) :
    bankState (chainBoundary s) k = bankState (takeChangeover (advanced s)) k := by
  rw [chainBoundary_eq, feedStage, mayFeed_advanced, if_pos h]
  exact bankState_of_banks (by simp) k

end Sys2Proof.Machine

/-! # The chain as a forward boundary moves it (R26 to R33, R103) -/

namespace Sys2Proof.Machine

/-! ## The chain operation in the words of the rules -/

theorem leavesAtCount_filter (g : Geometry) (l : List Record) :
    l.filter (leavesAtCount g)
      = (l.filter fun r => !leavesAtGate g r).filter fun r => r.position == g.posCount := by
  rw [List.filter_filter]
  exact List.filter_congr fun r _ => by rw [leavesAtCount, Bool.and_comm]

theorem staysInChain_eq (g : Geometry) (r : Record) :
    staysInChain g r
      = (r.position != g.posCount && !(r.position == g.posGate && (r.fate == .reject || r.fate == .undecided))) := by
  change (!leavesAtGate g r && !leavesAtCount g r) = (r.position != g.posCount && !leavesAtGate g r)
  cases h : leavesAtGate g r <;> simp [leavesAtCount, h, bne]

theorem staysInChain_filter (g : Geometry) (l : List Record) :
    l.filter (staysInChain g)
      = (l.filter fun r => !leavesAtGate g r).filter fun r => r.position != g.posCount := by
  rw [List.filter_filter]
  exact List.filter_congr fun r _ => staysInChain_eq g r

theorem map_place_created (s : State) :
    (created s).map (fun r => (r.seq, some r.bank, r.position))
      = if mayFeed s then
          [(s.chain.nextSeq, (match armedBank s with | some b => some b | none => activeBank s), 0)] else [] := by
  unfold created
  by_cases hf : mayFeed s = true
  · obtain ⟨b, hb⟩ := feedBank_isSome hf
    simp only [hf, if_true, hb, Option.map_some, Option.toList_some, List.map_cons, List.map_nil, newRecord]
    rw [← hb]
    rfl
  · simp [hf]

/-- The chain operation is the one that R26 to R30, R33 and R103 tell. -/
theorem chainBoundary_chainMoved (s : State) : ChainMoved s (chainBoundary s) := by
  have chain := chainBoundary_chain s
  refine ⟨?_, by rw [chain]; rfl, by rw [chain]; rfl, ?_, by rw [chain]; rfl, by rw [chain],
    chainBoundary_reasonCounts s⟩
  · rw [chain, List.map_append, map_place_created, movedUp, staysInChain_filter, List.map_map]
    rfl
  · rw [chain, leavesAtCount_filter]; rfl

/-- What ChainMoved says of the state after: the places of the chain and the counters of the reasons. -/
def ledger (s : State) :
    (List (Seq × BankId × Nat) × Seq × Counter × Counter × Counter × Counter) × ReasonCounters :=
  (s.chain.places, s.verdicts.reasonCounts)

theorem chainMoved_of_ledger {s t u : State} (h : ChainMoved s t) (hl : ledger u = ledger t) : ChainMoved s u := by
  simp only [ledger, Chain.places, Prod.mk.injEq] at hl
  obtain ⟨⟨records, next, fed, good, rejected, purged⟩, counts⟩ := hl
  have named : u.chain.records.map (fun r => (r.seq, some r.bank, r.position))
      = t.chain.records.map (fun r => (r.seq, some r.bank, r.position)) := by
    have := congrArg (List.map fun p : Seq × BankId × Nat => (p.1, some p.2.1, p.2.2)) records
    simpa [Record.place, Function.comp_def] using this
  obtain ⟨h1, h2, h3, h4, h5, h6, h7⟩ := h
  exact ⟨named.trans h1, fed.trans h2, next.trans h3, good.trans h4, rejected.trans h5, purged.trans h6,
    counts.trans h7⟩

/-! ## What leaves the ledger as it was -/

theorem logTrigger_reasonCounts (t : Trigger) (s : State) :
    (logTrigger t s).verdicts.reasonCounts = s.verdicts.reasonCounts := by
  simp only [logTrigger]; (repeat' split) <;> rfl

theorem gateCrossing_reasonCounts (p : Nat) (s : State) :
    (gateCrossing p s).verdicts.reasonCounts = s.verdicts.reasonCounts := by
  have counted : ∀ f x, (countUnverified f x).verdicts.reasonCounts = x.verdicts.reasonCounts := by
    intro f x; unfold countUnverified; split <;> rfl
  unfold gateCrossing
  split
  · rfl
  · simp only [gateDecision]; split <;> simp [counted]

theorem takeEdge_reasonCounts (e : Edge) (s : State) :
    (takeEdge e s).verdicts.reasonCounts = s.verdicts.reasonCounts := by
  have camera : ∀ r x, (cameraEdge r x).verdicts.reasonCounts = x.verdicts.reasonCounts := by
    intro r x; unfold cameraEdge; split <;> simp [logTrigger_reasonCounts]
  unfold takeEdge onEdge; (repeat' split) <;> simp [camera]

theorem firingBoundary_reasonCounts (n : Nat) (w : Bool) (s : State) :
    (firingBoundary n w s).verdicts.reasonCounts = s.verdicts.reasonCounts := by
  have overdue : (takeOverdue s).verdicts.reasonCounts = s.verdicts.reasonCounts := by
    simp only [takeOverdue, dropWaiting_verdicts]
    exact runFree_proj (fun s => s.verdicts.reasonCounts) (fun _ _ => rfl) (fun t s => takeEdge_reasonCounts _ s) _ _ _
  simp only [firingBoundary]
  refine (runAll_proj (fun s => s.verdicts.reasonCounts) (fun _ _ => rfl) (fun t s => takeEdge_reasonCounts t s)
    _ _).trans ?_
  simpa using overdue

theorem doCrossing_ledger (v : Bool) (p : Nat) (t : CrossingTask) (s : State) :
    ledger (doCrossing v p t s) = ledger s := by
  refine Prod.ext (doCrossing_places v p t s) ?_
  cases t with
  | edge e => exact takeEdge_reasonCounts e s
  | gate => exact gateCrossing_reasonCounts p s
  | _ => simp [ledger, doCrossing]

theorem crossing_ledger (v : Bool) (p : Nat) (s : State) : ledger (crossing v s p) = ledger s :=
  runAll_proj ledger (fun _ _ => rfl) (fun t s => doCrossing_ledger v p t s) _ s

/-- Every block but the Pitch Chain leaves the ledger at a boundary. -/
theorem doBoundary_ledger (n : Nat) (w v : Bool) {t : BoundaryTask} (ht : t ≠ .chain) (s : State) :
    ledger (doBoundary n w v t s).2 = ledger s := by
  cases t with
  | chain => exact absurd rfl ht
  | firing => exact Prod.ext (firingBoundary_places n w s) (firingBoundary_reasonCounts n w s)
  | gate => exact Prod.ext (gateCrossing_places 0 s) (gateCrossing_reasonCounts 0 s)
  | _ => exact Prod.ext (by simp [ledger, doBoundary]) (by simp [ledger, doBoundary])

/-! ## The tasks of a boundary in their order (R7, logs 2, 13, 14) -/

section
variable {α : Type} [DecidableEq α] {act : α → State → List α × State} {able : α → List α → State → Bool}

/-- One task taken in a free order. -/
theorem runFree_step (fuel : Nat) {tasks : List α} {s : State} (h : ∃ t ∈ tasks, able t tasks s = true) :
    ∃ t ∈ tasks, able t tasks s = true ∧ ∃ k, runFree act able (fuel + 1) tasks s
      = runFree act able fuel (tasks.erase t ++ (act t { s with choices := k }).1) (act t { s with choices := k }).2 := by
  obtain ⟨m, hm, ha⟩ := h
  have pos : 0 < (tasks.filter fun t => able t tasks s).length :=
    List.length_pos_of_mem (List.mem_filter.mpr ⟨hm, ha⟩)
  have lt := choose_lt pos s
  have mem := List.mem_filter.mp (List.getElem_mem lt)
  obtain ⟨k, hk⟩ := choose_state (tasks.filter fun t => able t tasks s).length s
  refine ⟨_, mem.1, mem.2, k, ?_⟩
  simp only [runFree, List.getElem?_eq_getElem lt, hk]

/-- Tasks in a free order until one of them, `c`, is taken: those before it hand on nothing, and it hands on its own. -/
theorem runFree_until (c : α) (ready : ∀ left s, c ∈ left → able c left s = true) :
    ∀ (fuel : Nat) (others tasks : List α) (s : State), tasks.Perm (c :: others) → others.length < fuel →
      (∀ t ∈ others, t ≠ c ∧ ∀ s, (act t s).1 = []) →
      ∃ (before : List (α × Nat)) (index : Nat) (left tasks' : List α) (fuel' : Nat),
        fuel = fuel' + before.length + 1 ∧ (before.map Prod.fst ++ left).Perm others
        ∧ (let m := { takenInOrder (fun t s => (act t s).2) before s with choices := index }
           tasks'.Perm (left ++ (act c m).1)
            ∧ runFree act able fuel tasks s = runFree act able fuel' tasks' (act c m).2) := by
  intro fuel
  induction fuel with
  | zero => intro others tasks s _ h; omega
  | succ fuel ih =>
    intro others tasks s perm len quiet
    have mem : c ∈ tasks := perm.mem_iff.mpr List.mem_cons_self
    obtain ⟨t, ht, -, k, run⟩ := runFree_step (act := act) fuel ⟨c, mem, ready tasks s mem⟩
    by_cases htc : t = c
    · subst htc
      have rest : (tasks.erase t).Perm others := by simpa using perm.erase t
      exact ⟨[], k, others, _, fuel, by simp, .refl _, rest.append_right _, run⟩
    · have hto : t ∈ others := (List.mem_cons.mp (perm.mem_iff.mp ht)).resolve_left htc
      have hands : (act t { s with choices := k }).1 = [] := (quiet t hto).2 _
      have perm' : (tasks.erase t).Perm (c :: others.erase t) := by
        have := perm.erase t
        rwa [List.erase_cons_tail (by simpa using Ne.symm htc)] at this
      have len' : (others.erase t).length + 1 = others.length := by
        rw [List.length_erase_of_mem hto]
        have := List.length_pos_of_mem hto
        omega
      obtain ⟨before, index, left, tasks', fuel', hf, split, next, run'⟩ :=
        ih (others.erase t) (tasks.erase t) (act t { s with choices := k }).2 perm' (by omega)
          (fun u hu => quiet u (List.mem_of_mem_erase hu))
      refine ⟨(t, k) :: before, index, left, tasks', fuel', by simp only [List.length_cons]; omega, ?_, next, ?_⟩
      · exact (split.cons t).trans (List.perm_cons_erase hto).symm
      · rw [run, hands, List.append_nil, run']
        rfl

end

theorem takenInOrder_append {α : Type} (act : α → State → State) (xs ys : List (α × Nat)) (s : State) :
    takenInOrder act (xs ++ ys) s = takenInOrder act ys (takenInOrder act xs s) := List.foldl_append

/-- What every task of an order leaves is left by the order. -/
theorem takenInOrder_proj {α β : Type} {act : α → State → State} (f : State → β)
    (index : ∀ s c, f { s with choices := c } = f s) :
    ∀ (order : List (α × Nat)) (s : State), (∀ x ∈ order, ∀ s, f (act x.1 s) = f s) →
      f (takenInOrder act order s) = f s := by
  intro order
  induction order with
  | nil => intro s _; rfl
  | cons x order ih =>
    intro s h
    refine (ih _ fun y hy => h y (List.mem_cons_of_mem x hy)).trans ?_
    exact (h x List.mem_cons_self _).trans (index s x.2)

/-- A block's work at the boundary taken from a state (R7): what it does, not what it hands on. -/
def boundaryWork (level : Bool) (s : State) (t : BoundaryTask) (x : State) : State :=
  (doBoundary s.shaft.pitchTimer (periodIsValid s) level t x).2

/-- The blocks that act on the chain as it stands after its operation (R26). -/
def listeners : List BoundaryTask := [.firing, .registration, .gumFold, .gate, .batch]

theorem boundaryCauses_length (s : State) : (boundaryCauses s).length ≤ 2 := by
  unfold boundaryCauses; split <;> split <;> simp

theorem boundaryCauses_cause {s : State} {t : BoundaryTask} (h : t ∈ boundaryCauses s) : ∃ c, t = .cause c := by
  unfold boundaryCauses at h
  simp only [List.mem_append] at h
  rcases h with h | h <;> split at h <;> simp at h <;> exact ⟨_, h⟩

theorem doBoundary_quiet (n : Nat) (w v : Bool) {t : BoundaryTask} (h : t ≠ .chain) (s : State) :
    (doBoundary n w v t s).1 = [] := by
  cases t with
  | chain => exact absurd rfl h
  | _ => rfl

/-- Beside any tasks left one may be taken: the Gum and Fold Unit waits for the chain-empty notice alone. -/
theorem boundaryAble_progress (left : List BoundaryTask) (s : State) (h : left ≠ []) :
    ∃ t ∈ left, boundaryAble t left s = true := by
  by_cases hg : ∃ t ∈ left, t ≠ .gumFold
  · obtain ⟨t, ht, hne⟩ := hg
    exact ⟨t, ht, by cases t <;> simp_all [boundaryAble]⟩
  · have only : ∀ t ∈ left, t = .gumFold := fun t ht => by_contra fun hne => hg ⟨t, ht, hne⟩
    obtain ⟨t, ht⟩ := List.exists_mem_of_ne_nil left h
    refine ⟨t, ht, ?_⟩
    have : BoundaryTask.emptyNotice ∉ left := fun hn => by cases only _ hn
    simp [only t ht, boundaryAble, this]

/-- A forward boundary block by block: the causes that come first, the chain operation, then the causes left and the
blocks that hear the boundary, each once (R7, R26, R31, R84). -/
theorem pitchBoundary_order (level : Bool) (s : State) :
    ∃ (before after : List (BoundaryTask × Nat)) (index : Nat),
      (let moved := takenInOrder (boundaryWork level s) (before ++ [(.chain, index)]) (closePitch s)
       pitchBoundary level s = takenInOrder (boundaryWork level s) after moved
       ∧ (before.map Prod.fst ++ after.map Prod.fst).Perm (boundaryCauses s ++ listeners
           ++ (if s.chain.records ≠ [] ∧ moved.chain.records = [] then [.emptyNotice] else []))
       ∧ (∀ x ∈ before, x.1 ∈ boundaryCauses s)
       ∧ ∀ first last k, after = first ++ (.gumFold, k) :: last → .emptyNotice ∈ last.map Prod.fst →
           armedBank (takenInOrder (boundaryWork level s) first moved) = none) := by
  have quiet : ∀ t ∈ boundaryCauses s, t ≠ .chain ∧
      ∀ x, (doBoundary s.shaft.pitchTimer (periodIsValid s) level t x).1 = [] := by
    intro t ht
    obtain ⟨c, rfl⟩ := boundaryCauses_cause ht
    exact ⟨by simp, fun _ => rfl⟩
  obtain ⟨before, index, left, tasks, fuel, hfuel, split, next, run⟩ :=
    runFree_until (act := doBoundary s.shaft.pitchTimer (periodIsValid s) level) (able := boundaryAble) .chain
      (fun _ _ _ => rfl) 9 (boundaryCauses s) (boundaryCauses s ++ [.chain]) (closePitch s)
      (List.perm_append_singleton _ _) (by have := boundaryCauses_length s; omega) quiet
  set m : State := { takenInOrder (boundaryWork level s) before (closePitch s) with choices := index } with hm
  have causes : ∀ x ∈ before, x.1 ∈ boundaryCauses s := fun x hx =>
    split.mem_iff.mp (List.mem_append_left _ (List.mem_map_of_mem hx))
  have places : m.chain.records = [] ↔ s.chain.records = [] := by
    have kept : m.chain.places = (closePitch s).chain.places :=
      takenInOrder_proj (fun x => x.chain.places) (fun _ _ => rfl) before (closePitch s) fun x hx y => by
        obtain ⟨c, hc⟩ := boundaryCauses_cause (causes x hx)
        simp [boundaryWork, doBoundary, hc]
    have records : m.chain.records.map Record.place = s.chain.records.map Record.place := congrArg Prod.fst kept
    rw [← List.map_eq_nil_iff (f := Record.place), records, List.map_eq_nil_iff]
  have emptied : becameEmpty m (chainBoundary m) = true ↔
      s.chain.records ≠ [] ∧ (chainBoundary m).chain.records = [] := by
    simp [becameEmpty, places]
  have moved : takenInOrder (boundaryWork level s) (before ++ [(.chain, index)]) (closePitch s) = chainBoundary m := by
    rw [takenInOrder_append]; rfl
  have handed : tasks.Perm (left ++ (listeners
      ++ if s.chain.records ≠ [] ∧ (chainBoundary m).chain.records = [] then [.emptyNotice] else [])) := by
    rw [← if_congr emptied rfl rfl]; exact next
  have blocks : ∀ t ∈ tasks, t ≠ BoundaryTask.chain := by
    intro t ht
    rcases List.mem_append.mp (handed.mem_iff.mp ht) with h | h
    · exact (quiet t (split.mem_iff.mp (List.mem_append_right _ h))).1
    · rintro rfl
      split at h <;> simp [listeners] at h
  have enough : tasks.length ≤ fuel := by
    have count := split.length_eq
    have causes := boundaryCauses_length s
    rw [handed.length_eq]
    simp only [List.length_append, List.length_map] at count ⊢
    split <;> simp [listeners] <;> omega
  obtain ⟨after, perm, result, able⟩ := runFree_taken (act := doBoundary s.shaft.pitchTimer (periodIsValid s) level)
    (able := boundaryAble) (· ≠ .chain) (fun t x ht => doBoundary_quiet _ _ _ ht x)
    (fun left x hne _ => boundaryAble_progress left x hne) fuel tasks (chainBoundary m) enough blocks
  refine ⟨before, after, index, ?_⟩
  rw [moved]
  refine ⟨run.trans result, ?_, causes, ?_⟩
  · refine ((perm.trans handed).append_left _).trans ?_
    rw [← List.append_assoc, List.append_assoc (boundaryCauses s)]
    exact split.append_right _
  · intro first last k order notice
    obtain ⟨left, hleft, free⟩ := able first .gumFold k last order
    have waits : BoundaryTask.emptyNotice ∈ left := hleft.mem_iff.mpr (List.mem_cons_of_mem _ notice)
    have unarmed : armedBank (first.foldl (fun x t =>
        (doBoundary s.shaft.pitchTimer (periodIsValid s) level t.1 { x with choices := t.2 }).2) (chainBoundary m))
          = none := by
      simpa [boundaryAble, waits] using free
    exact unarmed

/-! ## A boundary without a cause -/

theorem running_decide (x : LineState) : x.running = decide (x = .run ∨ x = .drain) := by
  cases x <;> rfl

/-- R8: when a boundary records a valid period. -/
theorem periodIsValid_iff (s : State) :
    periodIsValid s = true ↔ (s.line.state = .run ∨ s.line.state = .drain) ∧ s.shaft.timingQualified = true
      ∧ s.shaft.pitchTimer ≤ 2000000 := by
  rw [periodIsValid, Bool.and_eq_true, Bool.and_eq_true, decide_eq_true_iff, running_iff, and_assoc]
  rfl

/-- R10, R15: the causes of a boundary in the words of the rules. -/
theorem boundaryCauses_eq (s : State) :
    boundaryCauses s
      = (if (s.geometry.indexCheck = 1 ∧ s.line.state ≠ .config) ∧ 1 ≤ s.shaft.boundariesSinceIndex then
          [.cause .encoderFault] else [])
        ++ (if (s.line.state = .run ∨ s.line.state = .drain) ∧ s.shaft.timingQualified = true
              ∧ s.shaft.pitchTimer < 30000 then [.cause .overspeed] else []) := by
  unfold boundaryCauses
  congr 1
  · refine if_congr ?_ rfl rfl
    rw [Bool.and_eq_true, indexChecked_iff, decide_eq_true_iff]
    exact and_congr_right fun _ => by omega
  · exact if_congr (by rw [Bool.and_eq_true, Bool.and_eq_true, decide_eq_true_iff, running_iff, and_assoc]; rfl) rfl rfl

theorem boundaryCauses_nil {s : State} (h : BoundaryWithoutCause s) : boundaryCauses s = [] := by
  obtain ⟨index, speed⟩ := h
  rw [boundaryCauses_eq, if_neg, if_neg]
  · rfl
  · rintro ⟨running, qualified, fast⟩
    exact absurd fast (Nat.not_lt.mpr (speed running qualified))
  · rintro ⟨⟨checked, state⟩, late⟩
    rw [index checked state] at late
    exact absurd late (by decide)

theorem boundaryTask_ne_chain {s : State} {p : Prop} [Decidable p] {t : BoundaryTask}
    (h : t ∈ boundaryCauses s ++ listeners ++ (if p then [.emptyNotice] else [])) : t ≠ .chain := by
  rintro rfl
  simp only [List.mem_append] at h
  rcases h with (h | h) | h
  · obtain ⟨c, hc⟩ := boundaryCauses_cause h
    cases hc
  · simp [listeners] at h
  · split at h <;> simp at h

/-- A boundary at which no halt cause is raised moves the chain by its operation alone. -/
theorem pitchBoundary_chainMoved (level : Bool) {s : State} (h : BoundaryWithoutCause s) :
    ChainMoved s (pitchBoundary level s) := by
  obtain ⟨before, after, index, run, perm, causes, -⟩ := pitchBoundary_order level s
  rw [boundaryCauses_nil h] at causes
  obtain rfl : before = [] := List.eq_nil_iff_forall_not_mem.mpr fun x hx => absurd (causes x hx) (by simp)
  have blocks : ∀ x ∈ after, x.1 ≠ .chain := by
    intro x hx
    refine boundaryTask_ne_chain (s := s) (perm.mem_iff.mp ?_)
    exact List.mem_append_right _ (List.mem_map_of_mem hx)
  have operation : ChainMoved s (chainBoundary { closePitch s with choices := index }) :=
    chainBoundary_chainMoved { closePitch s with choices := index }
  rw [run]
  exact chainMoved_of_ledger operation
    (takenInOrder_proj ledger (fun _ _ => rfl) after _ fun x hx y => doBoundary_ledger _ _ _ (blocks x hx) y)

theorem conclude_ledger {s : State} (pin : s.sensors.resetPin = false) : ledger (conclude s) = ledger s := by
  simp [ledger, pin]

/-! ## The banks at the chain operation (R31, R129, R131) -/

/-- R145, R159: an event once pending stays so while blocks post. -/
theorem Posts.keeps {s t : State} (h : Posts s t) {l : Link} {k : Nat}
    (hk : maskHas (s.ports.get l).pending k = true) : maskHas (t.ports.get l).pending k = true := by
  have bit := congrArg (·.getLsbD k) (h l).2
  simp only [maskHas] at hk ⊢
  simpa [hk, BitVec.lt_of_getLsbD hk] using bit

theorem post_told (e : Event) (s : State) (l : Link) :
    maskHas ((post e s).ports.get l).pending e.index = true := by
  have : ((post e s).ports.get l).pending = maskAdd (s.ports.get l).pending e.index := by cases l <;> rfl
  rw [this]
  cases e <;> simp [maskHas, maskAdd, Event.index]

theorem releaseUnnamed_posts (before : List Record) (b : BankId) (s : State) : Posts s (releaseUnnamed before b s) := by
  unfold releaseUnnamed
  split
  · exact releaseBank_posts b s
  · exact .refl s

/-- R131: the release of a DRAINING bank is told on every port. -/
theorem releaseUnnamed_told {before : List Record} {b : BankId} {s : State} (hd : bankState s b = .draining)
    (hn : namesBank before b = true) (hu : bankNamed s b = false) (l : Link) :
    maskHas ((releaseUnnamed before b s).ports.get l).pending Event.bankReleased.index = true := by
  simp only [releaseUnnamed, hn, hu, Bool.not_false, Bool.and_self, if_true, releaseBank, hd]
  exact post_told _ _ l

theorem releaseNotices_told {before : List Record} {b : BankId} {s : State} (hd : bankState s b = .draining)
    (hn : namesBank before b = true) (hu : bankNamed s b = false) (l : Link) :
    maskHas ((releaseNotices before s).ports.get l).pending Event.bankReleased.index = true := by
  rw [releaseNotices_eq]
  cases b with
  | bank0 => exact (releaseUnnamed_posts before .bank1 _).keeps (releaseUnnamed_told hd hn hu l)
  | bank1 =>
    refine releaseUnnamed_told ?_ hn ?_ l
    · rw [bankState_releaseUnnamed, if_neg (by simp)]; exact hd
    · rw [bankNamed_of_chain (releaseUnnamed_chain _ _ _)]; exact hu

/-- The bank states when the records that leave have left and the notices are given (R31). -/
theorem bankState_advanced (s : State) (k : BankId) :
    bankState (advanced s) k
      = if bankState s k = .draining ∧ bankNamed s k = true
          ∧ (s.chain.records.filter (staysInChain s.geometry)).all (fun r => r.bank != k) = true then .valid
        else bankState s k := by
  refine (bankState_releaseNotices _ _ k).trans (if_congr (and_congr_right' (and_congr_right' ?_)) rfl rfl)
  simp [bankNamed, namesBank, imp_iff_not_or]

theorem advanced_told {s : State} {b : BankId} (hd : bankState s b = .draining) (hn : bankNamed s b = true)
    (hu : (s.chain.records.filter (staysInChain s.geometry)).all (fun r => r.bank != b) = true) (l : Link) :
    maskHas ((advanced s).ports.get l).pending Event.bankReleased.index = true := by
  have unnamed : namesBank (s.chain.records.filter (staysInChain s.geometry)) b = false := by
    simpa [namesBank, imp_iff_not_or] using hu
  exact releaseNotices_told (s := { s with
    chain := { s.chain with
      records := s.chain.records.filter (staysInChain s.geometry)
      rejected := addCount s.chain.rejected (s.chain.records.filter (leavesAtGate s.geometry))
      good := addCount s.chain.good (s.chain.records.filter (leavesAtCount s.geometry)) }
    verdicts.reasonCounts := (s.chain.records.filter (leavesAtGate s.geometry)).foldl
      (fun c r => c.count r.reasons) s.verdicts.reasonCounts }) hd hn unnamed l

theorem feedStage_posts (s : State) : Posts s (feedStage s) := by
  unfold feedStage
  split
  · exact (takeChangeover_posts s).then_eq (createRecord_ports _)
  · exact .refl s

/-- A bank that is VALID when the feed decision is made is so after it: neither the ARMED nor the ACTIVE one. -/
theorem bankState_feedStage_valid {s : State} {k : BankId} (h : bankState s k = .valid) :
    bankState (feedStage s) k = .valid := by
  unfold feedStage
  split
  · rw [bankState_of_banks (createRecord_banks _)]
    cases ha : armedBank s with
    | none => rwa [takeChangeover_unarmed ha]
    | some b =>
      have armed := bankState_of_bankIn ha
      have notArmed : k ≠ b := by rintro rfl; rw [h] at armed; cases armed
      have notActive : activeBank s ≠ some k := fun hk => by
        have active := bankState_of_bankIn hk
        rw [h] at active; cases active
      rw [bankState_takeChangeover ha, if_neg notArmed, if_neg notActive, h]
  · exact h

theorem fieldsOf_chainBoundary (s : State) (k : BankId) : fieldsOf (chainBoundary s) k = fieldsOf s k := by
  rw [chainBoundary_eq, feedStage]
  split
  · rw [fieldsOf_of_banks (createRecord_banks _), fieldsOf_takeChangeover, fieldsOf_advanced]
  · exact fieldsOf_advanced s k

/-- R30, R130: the bank of a record that is created is ACTIVE. -/
theorem bankState_of_feedBank {s : State} (hf : mayFeed s = true) {b : BankId} (hb : feedBank s = some b) :
    bankState (chainBoundary s) b = .active := by
  rw [bankState_chainBoundary_fed hf]
  refine bankState_of_bankIn ((activeBank_takeChangeover (advanced s)).trans ?_)
  rw [feedBank, armedBank_advanced, activeBank_advanced]
  exact hb

/-! ## The chain operation written out -/

theorem stays_written (s : State) :
    s.chain.records.filter (staysInChain s.geometry)
      = s.chain.records.filter fun r => r.position != s.geometry.posCount
          && !(r.position == s.geometry.posGate && (r.fate == .reject || r.fate == .undecided)) :=
  List.filter_congr fun r _ => staysInChain_eq s.geometry r

theorem feedBank_written (s : State) :
    feedBank s = if (armedBank s).isSome then armedBank s else activeBank s := by
  unfold feedBank
  cases armedBank s <;> rfl

theorem newRecord_written (q : Seq) (b : BankId) (f : BankFields) :
    newRecord q b f =
      { seq := q, bank := b, position := 0, reasons := 0, regError := none, shift := none
        patched := if f.windowEnable = 1 then .due else .notDue
        gummed := if f.gumSeamEnable = 1 ∨ f.gumFlapEnable = 1 then .due else .notDue
        verdict := if f.inspectEnable = 1 then .uninspected else .notRequired
        verdictCause := none, fate := .undecided, counted := false } := by
  simp [newRecord, yes]

/-- Settles O19: the causes that come first, the chain operation and the blocks after it, from `pitchBoundary_order`. -/
theorem forwardBoundaryMovesTheChain : Obligations.ForwardBoundaryMovesTheChain := by
  refine ⟨fun elapsed level s pin wraps debt => ?_, fun level s => ?_, fun s => ?_⟩
  · have step := exec_forwardCountStep_boundary elapsed level wraps debt
    refine ⟨step, fun quiet => ⟨_, step, ?_⟩⟩
    have moved : ChainMoved s (pitchBoundary level (wrapped elapsed s)) := pitchBoundary_chainMoved level quiet
    exact chainMoved_of_ledger moved (conclude_ledger (by simpa [wrapped] using pin))
  · have valid : decide ((s.line.state = .run ∨ s.line.state = .drain) ∧ s.shaft.timingQualified = true
        ∧ s.shaft.pitchTimer ≤ 2000000) = periodIsValid s := by
      exact Bool.eq_iff_iff.mpr (decide_eq_true_iff.trans (periodIsValid_iff s).symm)
    have closed : closePitch s = { s with shaft := { s.shaft with
          lastPeriod := s.shaft.pitchTimer, periodValid := periodIsValid s
          timingQualified := decide (s.line.state = .run ∨ s.line.state = .drain), pitchTimer := 0, highWater := 0
          boundariesSinceIndex := if s.geometry.indexCheck = 1 ∧ s.line.state ≠ .config then
              (if s.shaft.boundariesSinceIndex = 0 then 1 else 0)
            else s.shaft.boundariesSinceIndex } } := by
      rw [closePitch, boundariesAfter_eq, running_decide]
    have act : boundaryWork level s = fun t x => match t with
        | .cause c => raiseCause c none x
        | .chain => chainBoundary x
        | .firing => firingBoundary s.shaft.pitchTimer (periodIsValid s) x
        | .registration => registrationBoundary x
        | .gumFold => gumFoldBoundary level x
        | .gate => gateCrossing 0 x
        | .batch => batchBoundary x
        | .emptyNotice => chainEmptyNotice x := by
      funext t x; cases t <;> rfl
    have order := pitchBoundary_order level s
    simp only [act, closed, boundaryCauses_eq] at order
    simp only [valid]
    exact order
  · refine ⟨chainBoundary_chainMoved s, ?_, fieldsOf_chainBoundary s, ?_, ?_, ?_⟩
    · rw [chainBoundary_chain, movedUp, created, stays_written, feedBank_written]
      simp only [newRecord_written]
      rfl
    · intro feeds b hb
      exact bankState_of_feedBank feeds ((feedBank_written s).trans hb)
    · intro feeds b hb
      rw [bankState_chainBoundary_unfed feeds, bankState_advanced, if_neg fun h => hb h.1]
    · intro b hd hn hu
      have unnamed : (s.chain.records.filter (staysInChain s.geometry)).all (fun r => r.bank != b) = true := by
        rw [stays_written]; exact hu
      refine ⟨bankState_feedStage_valid (s := advanced s) ?_,
        fun l => (feedStage_posts _).keeps (advanced_told hd hn unnamed l)⟩
      rw [bankState_advanced, if_pos ⟨hd, hn, unnamed⟩]

end Sys2Proof.Machine

/-! # The halt causes of a forward boundary (R10, R15, R139 to R143) -/

namespace Sys2Proof.Machine

/-! ## What a halt cause writes in the Line Sequencer -/

/-- The Line Sequencer, its feed-inhibit set apart, when a cause is raised to it at a phase with a record below GATE
(R140, R141, R143). -/
def LineSequencer.raised (phase : Nat) (l : LineSequencer) (cause : HaltCause × Option Seq) : LineSequencer :=
  match l.state with
  | .config => l
  | .halt => { l with haltRecord.further := maskAdd l.haltRecord.further cause.1.index }
  | _ => { l with
      haltRecord :=
        { firstCause := some cause.1, haltingLink := none, stateLeft := some l.state, phaseAtEntry := some phase
          seqAtGate := cause.2, further := 0, count := l.haltRecord.count + 1 }
      closeFlag := none, state := .halt }

theorem raiseCause_apart (c : HaltCause) (s : State) :
    (raiseCause c none s).line.apart
      = s.line.apart.raised s.shaft.phase (c, (recordBefore s s.geometry.posGate).map Record.seq) := by
  cases h : s.line.state <;>
    simp [raiseCause, h, LineSequencer.raised, LineSequencer.apart, haltEntryRecord]

/-! ## The tasks of a boundary and the Line Sequencer -/

/-- The halt cause that a task of a boundary raises. -/
def BoundaryTask.causeOf : BoundaryTask → Option HaltCause
  | .cause c => some c
  | _ => none

/-- The blocks leave the Line Sequencer, but for the feed-inhibit set. -/
theorem boundaryWork_apart {t : BoundaryTask} (hc : t.causeOf = none) (hn : t ≠ .emptyNotice) (level : Bool)
    (s x : State) : (boundaryWork level s t x).line.apart = x.line.apart := by
  cases t with
  | cause c => simp [BoundaryTask.causeOf] at hc
  | emptyNotice => exact absurd rfl hn
  | _ => simp [boundaryWork, doBoundary, LineSequencer.apart]

theorem chainEmptyNotice_apart {s : State} (h : s.line.state ≠ .drain) :
    (chainEmptyNotice s).line.apart = s.line.apart := by
  cases hs : s.line.state <;> simp_all [chainEmptyNotice, LineSequencer.apart]

theorem boundaryWork_phase (level : Bool) (s : State) (t : BoundaryTask) (x : State) :
    (boundaryWork level s t x).shaft.phase = x.shaft.phase := by
  change (doBoundary s.shaft.pitchTimer (periodIsValid s) level t x).2.shaft.phase = x.shaft.phase
  rcases (doBoundary_keepsShaft s.shaft.pitchTimer (periodIsValid s) level t x).shaft with ⟨e, -⟩ | ⟨e, -⟩ <;>
    rw [e]
  rfl

theorem raiseCause_phase (c : HaltCause) (x : State) : (raiseCause c none x).shaft.phase = x.shaft.phase := by
  rcases (raiseCause_keepsShaft c none x).shaft with ⟨e, -⟩ | ⟨e, -⟩ <;> rw [e]
  rfl

/-- One task that completes no drain: it raises its cause, if it has one. -/
theorem boundaryWork_raises (level : Bool) (s : State) {t : BoundaryTask} {x : State}
    (h : x.line.state = .drain → t ≠ .emptyNotice) :
    ∃ raised : List (HaltCause × Option Seq), raised.map Prod.fst = t.causeOf.toList
      ∧ (boundaryWork level s t x).line.apart = raised.foldl (LineSequencer.raised x.shaft.phase) x.line.apart := by
  cases hc : t.causeOf with
  | some c =>
    obtain rfl : t = .cause c := by cases t <;> simp_all [BoundaryTask.causeOf]
    exact ⟨[(c, _)], rfl, raiseCause_apart c x⟩
  | none =>
    refine ⟨[], rfl, ?_⟩
    by_cases hn : t = .emptyNotice
    · subst hn
      exact chainEmptyNotice_apart fun hd => h hd rfl
    · exact boundaryWork_apart hc hn level s x

/-- No cause brings the line to DRAIN. -/
theorem foldl_raised_drain (phase : Nat) (raised : List (HaltCause × Option Seq)) :
    ∀ {l : LineSequencer}, (raised.foldl (LineSequencer.raised phase) l).state = .drain → l.state = .drain := by
  induction raised with
  | nil => exact id
  | cons c raised ih =>
    intro l h
    have one : (l.raised phase c).state = .drain := ih h
    cases hl : l.state <;> simp [LineSequencer.raised, hl] at one ⊢

/-- The causes of an order of tasks, one after the other. -/
def causesOf (order : List (BoundaryTask × Nat)) : List HaltCause := (order.map Prod.fst).filterMap BoundaryTask.causeOf

theorem causesOf_cons (x : BoundaryTask × Nat) (order : List (BoundaryTask × Nat)) :
    causesOf (x :: order) = x.1.causeOf.toList ++ causesOf order := by
  unfold causesOf
  cases h : x.1.causeOf <;> simp [h]

/-- Where no drain is completed, the tasks of a boundary do to the Line Sequencer what their causes do. -/
theorem takenInOrder_apart (level : Bool) (s : State) (order : List (BoundaryTask × Nat)) :
    ∀ x : State, (x.line.state = .drain → BoundaryTask.emptyNotice ∉ order.map Prod.fst) →
      ∃ raised : List (HaltCause × Option Seq), raised.map Prod.fst = causesOf order
        ∧ (takenInOrder (boundaryWork level s) order x).line.apart
            = raised.foldl (LineSequencer.raised x.shaft.phase) x.line.apart := by
  induction order with
  | nil => exact fun x _ => ⟨[], rfl, rfl⟩
  | cons task order ih =>
    intro x noDrain
    have notNow : x.line.state = .drain → task.1 ≠ .emptyNotice := fun h ht =>
      noDrain h (ht ▸ List.mem_cons_self)
    obtain ⟨now, nowNames, nowLine⟩ := boundaryWork_raises level s (x := { x with choices := task.2 }) notNow
    set y := boundaryWork level s task.1 { x with choices := task.2 } with hy
    have drains : y.line.state = .drain → x.line.state = .drain := fun h =>
      foldl_raised_drain x.shaft.phase now (l := x.line.apart) (nowLine ▸ h)
    obtain ⟨later, laterNames, laterLine⟩ := ih y fun h hm => noDrain (drains h) (List.mem_cons_of_mem _ hm)
    refine ⟨now ++ later, by rw [List.map_append, nowNames, laterNames, causesOf_cons], ?_⟩
    rw [List.foldl_append, ← show y.line.apart = _ from nowLine,
      ← show y.shaft.phase = x.shaft.phase from boundaryWork_phase level s task.1 _]
    exact laterLine

/-! ## A boundary that may complete the drain (R139) -/

/-- A cause that the halt record holds, first or further. -/
def HaltRecord.Holds (r : HaltRecord) (c : HaltCause) : Prop := r.firstCause = some c ∨ maskHas r.further c.index = true

/-- The line halted once since `l`, at a phase, from DRAIN or READY, holding some causes (R139, R140, R143). -/
structure LineSequencer.HaltedSince (l : LineSequencer) (phase : Nat) (causes : List HaltCause) (m : LineSequencer) :
    Prop where
  state : m.state = .halt
  closeFlag : m.closeFlag = none
  phaseAtEntry : m.haltRecord.phaseAtEntry = some phase
  haltingLink : m.haltRecord.haltingLink = none
  count : m.haltRecord.count = l.haltRecord.count + 1
  stateLeft : m.haltRecord.stateLeft = some .drain ∨ m.haltRecord.stateLeft = some .ready
  causes : ∀ c ∈ causes, m.haltRecord.Holds c

/-- The line at a boundary in DRAIN that may complete the drain: not halted and no cause raised, or halted. -/
def LineSequencer.Draining (l : LineSequencer) (phase : Nat) (causes : List HaltCause) (m : LineSequencer) : Prop :=
  (causes = [] ∧ (m.state = .drain ∨ m.state = .ready) ∧ m.haltRecord.count = l.haltRecord.count)
    ∨ l.HaltedSince phase causes m

theorem maskHas_maskAdd {n : Nat} {m : BitVec n} {i j : Nat} (h : maskHas m i = true) :
    maskHas (maskAdd m j) i = true := by
  simp only [maskHas, maskAdd, BitVec.getLsbD_or] at h ⊢
  simp [h]

theorem maskHas_index (m : BitVec 6) (c : HaltCause) : maskHas (maskAdd m c.index) c.index = true := by
  cases c <;> simp [maskHas, maskAdd, HaltCause.index]

section
variable {l m : LineSequencer} {phase : Nat} {causes : List HaltCause}

/-- A cause in HALT joins the further causes. -/
theorem LineSequencer.HaltedSince.raised (h : l.HaltedSince phase causes m) (c : HaltCause) (q : Option Seq) :
    l.HaltedSince phase (causes ++ [c]) (m.raised phase (c, q)) := by
  have joined : m.raised phase (c, q)
      = { m with haltRecord.further := maskAdd m.haltRecord.further c.index } := by
    simp only [LineSequencer.raised, h.state]
  rw [joined]
  refine { h with causes := fun d hd => ?_ }
  rcases List.mem_append.mp hd with hd | hd
  · exact (h.causes d hd).imp_right maskHas_maskAdd
  · obtain rfl := List.mem_singleton.mp hd
    exact .inr (maskHas_index _ d)

theorem LineSequencer.Draining.raised (h : l.Draining phase causes m) (c : HaltCause) (q : Option Seq) :
    l.Draining phase (causes ++ [c]) (m.raised phase (c, q)) := by
  rcases h with ⟨rfl, state, count⟩ | h
  · have entered : m.raised phase (c, q) = { m with
        haltRecord :=
          { firstCause := some c, haltingLink := none, stateLeft := some m.state, phaseAtEntry := some phase
            seqAtGate := q, further := 0, count := m.haltRecord.count + 1 }
        closeFlag := none, state := .halt } := by
      rcases state with state | state <;> simp only [LineSequencer.raised, state]
    rw [entered]
    exact .inr ⟨rfl, rfl, rfl, rfl, congrArg (· + 1) count, by simpa using state,
      fun d hd => .inl (by simp_all)⟩
  · exact .inr (h.raised c q)

/-- Fewer causes are held where more are. -/
theorem LineSequencer.Draining.of_append {more : List HaltCause} (h : l.Draining phase (causes ++ more) m) :
    l.Draining phase causes m := by
  rcases h with ⟨none, rest⟩ | h
  · exact .inl ⟨(List.append_eq_nil_iff.mp none).1, rest⟩
  · exact .inr { h with causes := fun c hc => h.causes c (List.mem_append_left _ hc) }

end

/-- The levels examined at the completion of the drain (R140). -/
theorem examineLevels_draining {l : LineSequencer} {causes : List HaltCause} {x : State}
    (h : l.Draining x.shaft.phase causes x.line.apart) : l.Draining x.shaft.phase causes (examineLevels x).line.apart :=
  (runAll_induct (fun y => y.shaft.phase = x.shaft.phase ∧ l.Draining x.shaft.phase causes y.line.apart)
    (fun _ => True) (fun _ _ h => h)
    (fun c y _ hy => ⟨by rw [← hy.1]; exact raiseCause_phase c y, by
      rw [raiseCause_apart, hy.1]
      exact (hy.2.raised c _).of_append⟩) _ _ (fun _ _ => trivial) ⟨rfl, h⟩).2

/-- The state in which a drain completed examines the levels: READY, and the chain at rest (R139). -/
def drainDone (s : State) : State :=
  let s1 := noSubjects (leaveRunning { s with line.state := .ready })
  let s2 := if s.line.closeFlag = some true then closeBatch .drain s1 else s1
  takeChangeover (post .drained { s2 with line.closeFlag := none })

theorem completeDrain_eq (s : State) : completeDrain s = examineLevels (drainDone s) := rfl

theorem drainDone_phase (s : State) : (drainDone s).shaft.phase = s.shaft.phase := by
  simp only [drainDone]; split <;> simp

theorem drainDone_apart (s : State) :
    (drainDone s).line.apart = { s.line.apart with state := .ready, closeFlag := none } := by
  simp only [drainDone]; split <;> simp [LineSequencer.apart]

theorem completeDrain_draining {l : LineSequencer} {causes : List HaltCause} {x : State} (hd : x.line.state = .drain)
    (h : l.Draining x.shaft.phase causes x.line.apart) : l.Draining x.shaft.phase causes (completeDrain x).line.apart := by
  rw [completeDrain_eq, ← drainDone_phase]
  refine examineLevels_draining ?_
  rw [drainDone_apart]
  rcases h with ⟨none, -, count⟩ | h
  · exact .inl ⟨none, .inr rfl, count⟩
  · have halted : x.line.state = .halt := h.state
    rw [hd] at halted; cases halted

theorem chainEmptyNotice_draining {l : LineSequencer} {causes : List HaltCause} {x : State}
    (h : l.Draining x.shaft.phase causes x.line.apart) :
    l.Draining x.shaft.phase causes (chainEmptyNotice x).line.apart := by
  by_cases hd : x.line.state = .drain
  · rw [show chainEmptyNotice x = completeDrain x by simp [chainEmptyNotice, hd]]
    exact completeDrain_draining hd h
  · rwa [chainEmptyNotice_apart hd]

theorem boundaryWork_draining (level : Bool) (s : State) (t : BoundaryTask) {l : LineSequencer}
    {causes : List HaltCause} {x : State} (h : l.Draining x.shaft.phase causes x.line.apart) :
    l.Draining x.shaft.phase (causes ++ t.causeOf.toList) (boundaryWork level s t x).line.apart := by
  by_cases hn : t = .emptyNotice
  · subst hn
    rw [show BoundaryTask.emptyNotice.causeOf.toList = [] from rfl, List.append_nil]
    exact chainEmptyNotice_draining h
  · obtain ⟨raised, names, line⟩ := boundaryWork_raises level s (t := t) (x := x) fun _ => hn
    rw [line, ← names]
    cases raised with
    | nil => simpa using h
    | cons c rest =>
      obtain rfl : rest = [] := by
        have := congrArg List.length names
        cases hc : t.causeOf <;> simp [hc] at this
        exact this
      exact h.raised c.1 c.2

theorem takenInOrder_draining (level : Bool) (s : State) {l : LineSequencer} (order : List (BoundaryTask × Nat)) :
    ∀ {causes : List HaltCause} {x : State}, l.Draining x.shaft.phase causes x.line.apart →
      l.Draining x.shaft.phase (causes ++ causesOf order) (takenInOrder (boundaryWork level s) order x).line.apart := by
  induction order with
  | nil =>
    intro causes x h
    rw [show causesOf [] = [] from rfl, List.append_nil]
    exact h
  | cons task order ih =>
    intro causes x h
    have now := boundaryWork_draining level s task.1 (x := { x with choices := task.2 }) h
    have later := ih (x := boundaryWork level s task.1 { x with choices := task.2 }) (by rw [boundaryWork_phase]; exact now)
    rw [boundaryWork_phase, List.append_assoc, ← causesOf_cons] at later
    exact later

/-! ## The boundary as a whole -/

/-- The halt causes of a forward boundary (R10, R15). -/
def haltCauses (s : State) : List HaltCause := (boundaryCauses s).filterMap BoundaryTask.causeOf

theorem causeOf_listeners : listeners.filterMap BoundaryTask.causeOf = [] := rfl

theorem causeOf_notice (p : Prop) [Decidable p] :
    (if p then [BoundaryTask.emptyNotice] else []).filterMap BoundaryTask.causeOf = [] := by
  split <;> rfl

/-- The chain-empty notice is a task of the boundary only where the chain became empty (R31). -/
theorem notice_of_mem {s : State} {p : Prop} [Decidable p]
    (h : BoundaryTask.emptyNotice ∈ boundaryCauses s ++ listeners ++ (if p then [.emptyNotice] else [])) : p := by
  simp only [List.mem_append] at h
  rcases h with (h | h) | h
  · obtain ⟨c, hc⟩ := boundaryCauses_cause h
    cases hc
  · simp [listeners] at h
  · by_contra hp
    simp [hp] at h

/-- The tasks of a boundary in their order, the chain operation among them: which causes they raise, and when the
chain-empty notice is one of them. -/
theorem pitchBoundary_causes (level : Bool) (s : State) :
    ∃ order, pitchBoundary level s = takenInOrder (boundaryWork level s) order (closePitch s)
      ∧ (causesOf order).Perm (haltCauses s)
      ∧ (BoundaryTask.emptyNotice ∈ order.map Prod.fst →
          s.chain.records ≠ [] ∧ (pitchBoundary level s).chain.records = []) := by
  obtain ⟨before, after, index, run, perm, causes, -⟩ := pitchBoundary_order level s
  refine ⟨before ++ [(.chain, index)] ++ after, by rw [takenInOrder_append]; exact run, ?_, fun notice => ?_⟩
  · have raised := perm.filterMap BoundaryTask.causeOf
    simp only [List.filterMap_append, causeOf_listeners, causeOf_notice, List.append_nil] at raised
    simp only [causesOf, List.map_append, List.filterMap_append]
    rw [show ([(BoundaryTask.chain, index)].map Prod.fst).filterMap BoundaryTask.causeOf = [] from rfl, List.append_nil]
    exact raised
  · have mem : BoundaryTask.emptyNotice ∈ before.map Prod.fst ++ after.map Prod.fst := by simpa using notice
    obtain ⟨some, none⟩ := notice_of_mem (perm.mem_iff.mp mem)
    have places : (pitchBoundary level s).chain.places
        = (takenInOrder (boundaryWork level s) (before ++ [(.chain, index)]) (closePitch s)).chain.places := by
      rw [run]
      refine takenInOrder_proj (fun x => x.chain.places) (fun _ _ => rfl) after _ fun x hx y => ?_
      have : x.1 ≠ .chain := boundaryTask_ne_chain (s := s)
        (perm.mem_iff.mp (List.mem_append_right _ (List.mem_map_of_mem hx)))
      exact congrArg Prod.fst (doBoundary_ledger s.shaft.pitchTimer (periodIsValid s) level this y)
    have records := congrArg Prod.fst places
    simp only [Chain.places, none, List.map_nil, List.map_eq_nil_iff] at records
    exact ⟨some, records⟩

/-- A boundary that completes no drain does to the Line Sequencer what its causes do. -/
theorem pitchBoundary_apart (level : Bool) {s : State}
    (h : ¬(s.line.state = .drain ∧ s.chain.records ≠ [] ∧ (pitchBoundary level s).chain.records = [])) :
    ∃ raised : List (HaltCause × Option Seq), (raised.map Prod.fst).Perm (haltCauses s)
      ∧ (pitchBoundary level s).line.apart = raised.foldl (LineSequencer.raised s.shaft.phase) s.line.apart := by
  obtain ⟨order, run, causes, notice⟩ := pitchBoundary_causes level s
  obtain ⟨raised, names, line⟩ := takenInOrder_apart level s order (closePitch s)
    fun hd hn => h ⟨hd, notice hn⟩
  exact ⟨raised, names ▸ causes, run ▸ line⟩

/-- A boundary in DRAIN, whether it completes the drain or not. -/
theorem pitchBoundary_draining (level : Bool) {s : State} (h : s.line.state = .drain) {causes : List HaltCause}
    (hc : causes = haltCauses s) :
    ∃ taken, taken.Perm causes ∧ s.line.Draining s.shaft.phase taken (pitchBoundary level s).line.apart := by
  obtain ⟨order, run, taken, -⟩ := pitchBoundary_causes level s
  refine ⟨causesOf order, hc ▸ taken, ?_⟩
  rw [run]
  exact takenInOrder_draining level s order (causes := []) (x := closePitch s) (.inl ⟨rfl, .inl h, rfl⟩)

/-- Causes raised in HALT join the further causes. -/
theorem foldl_raised_in_halt (phase : Nat) (raised : List (HaltCause × Option Seq)) :
    ∀ {l : LineSequencer}, l.state = .halt →
      raised.foldl (LineSequencer.raised phase) l = { l with
        haltRecord.further :=
          ((raised.map Prod.fst).foldl (fun m c => maskAdd m c.index) l.haltRecord.further) } := by
  induction raised with
  | nil => intro l _; rfl
  | cons c raised ih =>
    intro l h
    have joined : l.raised phase c = { l with haltRecord.further := maskAdd l.haltRecord.further c.1.index } := by
      simp only [LineSequencer.raised, h]
    rw [List.foldl_cons, ih (by rw [joined]; exact h), joined]
    rfl

/-- The line halted by the first of some causes, the others joining it (R141, R143). -/
theorem foldl_raised_halts (phase : Nat) {l : LineSequencer} (hc : l.state ≠ .config) (hh : l.state ≠ .halt)
    (c : HaltCause × Option Seq) (rest : List (HaltCause × Option Seq)) :
    (c :: rest).foldl (LineSequencer.raised phase) l = { l with
      haltRecord :=
        { firstCause := some c.1, haltingLink := none, stateLeft := some l.state, phaseAtEntry := some phase
          seqAtGate := c.2, further := (rest.map Prod.fst).foldl (fun m c => maskAdd m c.index) 0
          count := l.haltRecord.count + 1 }
      closeFlag := none, state := .halt } := by
  have entered : l.raised phase c = { l with
      haltRecord :=
        { firstCause := some c.1, haltingLink := none, stateLeft := some l.state, phaseAtEntry := some phase
          seqAtGate := c.2, further := 0, count := l.haltRecord.count + 1 }
      closeFlag := none, state := .halt } := by
    cases hl : l.state <;> simp_all [LineSequencer.raised]
  rw [List.foldl_cons, entered, foldl_raised_in_halt phase rest rfl]

theorem maskHas_foldl {c : HaltCause} (causes : List HaltCause) :
    ∀ {m : BitVec 6}, c ∈ causes ∨ maskHas m c.index = true →
      maskHas (causes.foldl (fun m c => maskAdd m c.index) m) c.index = true := by
  induction causes with
  | nil => intro m h; exact h.resolve_left (by simp)
  | cons d causes ih =>
    intro m h
    refine ih ?_
    rcases h with h | h
    · rcases List.mem_cons.mp h with rfl | h
      · exact .inr (maskHas_index m c)
      · exact .inl h
    · exact .inr (maskHas_maskAdd h)

theorem haltCauses_eq (s : State) :
    haltCauses s
      = (if (s.geometry.indexCheck = 1 ∧ s.line.state ≠ .config) ∧ 1 ≤ s.shaft.boundariesSinceIndex then
          [.encoderFault] else [])
        ++ (if (s.line.state = .run ∨ s.line.state = .drain) ∧ s.shaft.timingQualified = true
              ∧ s.shaft.pitchTimer < 30000 then [.overspeed] else []) := by
  rw [haltCauses, boundaryCauses_eq, List.filterMap_append]
  congr 1
  · split <;> rfl
  · split <;> rfl

/-- From READY, RUN and DRAIN the causes of a boundary that completes no drain halt the line: the one taken first is
first. -/
theorem pitchBoundary_halts (level : Bool) {s : State} (hc : s.line.state ≠ .config) (hh : s.line.state ≠ .halt)
    (raises : haltCauses s ≠ [])
    (h : ¬(s.line.state = .drain ∧ s.chain.records ≠ [] ∧ (pitchBoundary level s).chain.records = [])) :
    ∃ first rest q, (first :: rest).Perm (haltCauses s)
      ∧ (pitchBoundary level s).line.apart = { s.line.apart with
          haltRecord :=
            { firstCause := some first, haltingLink := none, stateLeft := some s.line.state
              phaseAtEntry := some s.shaft.phase, seqAtGate := q
              further := rest.foldl (fun m c => maskAdd m c.index) 0, count := s.line.haltRecord.count + 1 }
          closeFlag := none, state := .halt } := by
  obtain ⟨raised, perm, line⟩ := pitchBoundary_apart level h
  cases raised with
  | nil => exact absurd perm.symm.eq_nil raises
  | cons c rest =>
    refine ⟨c.1, rest.map Prod.fst, c.2, perm, ?_⟩
    rw [line, foldl_raised_halts s.shaft.phase (l := s.line.apart) hc hh]
    rfl

/-- Settles O20: the causes of the boundary are raised one after the other, the drain completed before, between or after
them. -/
theorem boundaryCausesHaltTheLine : Obligations.BoundaryCausesHaltTheLine := by
  intro elapsed level s pin wraps debt overspeed missing
  set w := wrapped elapsed s with hw
  set x := pitchBoundary level w with hx
  have pin' : x.sensors.resetPin = false := by simpa [hx, hw, wrapped] using pin
  have causes : haltCauses w = (if missing then [.encoderFault] else []) ++ (if overspeed then [.overspeed] else []) :=
    (haltCauses_eq w).trans (by congr 1; exact if_congr and_assoc rfl rfl)
  refine ⟨_, exec_forwardCountStep_boundary elapsed level wraps debt, ?_⟩
  rw [conclude_line _ pin', conclude_chain _ pin', conclude_shaft _ pin']
  intro record drained holds
  refine ⟨fun ho hm hd => ?_, fun hm hs => ?_, fun raised hs => ?_⟩
  · obtain ⟨raised, perm, line⟩ := pitchBoundary_apart level (s := w) hd
    rw [causes, if_neg hm, if_neg ho] at perm
    obtain rfl : raised = [] := List.map_eq_nil_iff.mp perm.eq_nil
    exact ⟨(congrArg LineSequencer.state line :), (congrArg LineSequencer.haltRecord line :)⟩
  · have slow : ¬overspeed := fun h => by rcases h.1 with h | h <;> simp [hs] at h
    obtain ⟨raised, perm, line⟩ := pitchBoundary_apart level (s := w) (by simp [hw, wrapped, hs])
    rw [causes, if_pos hm, if_neg slow] at perm
    rw [foldl_raised_in_halt w.shaft.phase raised (l := w.line.apart) hs, perm.eq_singleton] at line
    exact ⟨(congrArg LineSequencer.state line).trans hs, congrArg LineSequencer.haltRecord line⟩
  · have working : s.line.state ≠ .config := by
      rcases raised with ⟨h | h, -⟩ | ⟨-, h, -⟩
      · simp [h]
      · simp [h]
      · exact h
    have raises : haltCauses w ≠ [] := by
      rw [causes]
      rcases raised with h | h <;> simp [h]
    have overspeeds : overspeed → HaltCause.overspeed ∈ haltCauses w := fun h => by simp [causes, h]
    have misses : missing → HaltCause.encoderFault ∈ haltCauses w := fun h => by simp [causes, h]
    have shaft : x.line.state = .halt → x.shaft.periodValid = false ∧ x.shaft.timingQualified = false := fun h => by
      rw [hx, pitchBoundary_shaft, ← hx, h]; simp
    by_cases hd : drained
    · obtain ⟨taken, perm, draining⟩ := pitchBoundary_draining level (s := w) hd.1 rfl
      have halted : w.line.HaltedSince w.shaft.phase taken x.line.apart :=
        draining.resolve_left fun h => raises (h.1 ▸ perm).symm.eq_nil
      obtain ⟨state, closeFlag, phase, link, count, left, held⟩ := halted
      exact ⟨state, closeFlag, phase, link, count, (shaft state).1, (shaft state).2,
        fun h => held _ (perm.mem_iff.mpr (overspeeds h)), fun h => held _ (perm.mem_iff.mpr (misses h)),
        fun _ => left, fun h => absurd hd h⟩
    · obtain ⟨first, rest, q, perm, line⟩ := pitchBoundary_halts level (s := w) working hs raises hd
      have state : x.line.state = .halt := congrArg LineSequencer.state line
      have haltRecord := congrArg LineSequencer.haltRecord line
      change record = _ at haltRecord
      have held : ∀ c ∈ haltCauses w, holds c := fun c hc => by
        rcases List.mem_cons.mp (perm.mem_iff.mpr hc) with rfl | h
        · exact .inl (by rw [haltRecord])
        · exact .inr (by rw [haltRecord]; exact maskHas_foldl rest (.inl h))
      refine ⟨state, (congrArg LineSequencer.closeFlag line :), by rw [haltRecord]; rfl, by rw [haltRecord],
        by rw [haltRecord]; rfl, (shaft state).1, (shaft state).2, fun h => held _ (overspeeds h),
        fun h => held _ (misses h), fun h => absurd h hd, fun _ => ⟨by rw [haltRecord]; rfl, ?_, ?_, ?_⟩⟩
      · intro ho hm
        rw [causes, if_neg hm, if_pos ho] at perm
        obtain ⟨rfl, rfl⟩ := List.cons.inj perm.eq_singleton
        exact ⟨by rw [haltRecord], by rw [haltRecord]; rfl⟩
      · intro hm ho
        rw [causes, if_pos hm, if_neg ho] at perm
        obtain ⟨rfl, rfl⟩ := List.cons.inj perm.eq_singleton
        exact ⟨by rw [haltRecord], by rw [haltRecord]; rfl⟩
      · intro ho hm
        rw [causes, if_pos hm, if_pos ho] at perm
        rcases List.perm_pair.mp perm with e | e <;> obtain ⟨rfl, rfl⟩ := List.cons.inj e
        · exact .inr ⟨by rw [haltRecord], by rw [haltRecord]; rfl⟩
        · exact .inl ⟨by rw [haltRecord], by rw [haltRecord]; rfl⟩

end Sys2Proof.Machine

/-! # The index edge (R12 to R15) -/

namespace Sys2Proof.Machine

/-! ## The check (R13) -/

/-- R13: the mismatch run after the check, and the cause at a second mismatch in a row. -/
theorem checkMismatch_eq (d : Int) {s : State} :
    checkMismatch d s = if 2 < d ∨ d < -2 then
        (if s.shaft.mismatchRun = 0 then { s with shaft.mismatchRun := 1 }
         else raiseCause .encoderFault none { s with shaft.mismatchRun := 0 })
      else { s with shaft.mismatchRun := 0 } := by
  unfold checkMismatch
  by_cases far : 2 < d ∨ d < -2
  · rw [if_pos far, if_neg (by rw [abs_le]; omega)]
  · rw [if_neg far, if_pos (by rw [abs_le]; omega)]

/-- The check leaves the Shaft Tracker but for the mismatch run, and the period where it halts the line. -/
theorem checkMismatch_shaft (d : Int) (s : State) :
    (checkMismatch d s).shaft = { s.shaft with
      mismatchRun := if (2 < d ∨ d < -2) ∧ s.shaft.mismatchRun = 0 then 1 else 0
      periodValid := (checkMismatch d s).shaft.periodValid
      timingQualified := (checkMismatch d s).shaft.timingQualified } := by
  rw [checkMismatch_eq]
  by_cases far : 2 < d ∨ d < -2
  · by_cases run : s.shaft.mismatchRun = 0
    · simp [far, run]
    · simp only [far, run, if_true, if_false, and_false]
      have kept := (raiseCause_keepsShaft .encoderFault none { s with shaft.mismatchRun := 0 }).shaft
      rcases kept with ⟨e, -⟩ | ⟨e, -⟩
      · rw [e]
      · rw [e]; rfl
  · simp [far]

/-! ## The realignment by the difference (R14) -/

/-- The count and the phase realigned, with a high-water phase and a reverse debt. -/
def countedAt (highWater debt : Nat) (s : State) : State :=
  { s with shaft := { s.shaft with
      count := s.geometry.indexCount, phase := phaseOf s.geometry.indexCount s.shaft.workingCpp
      highWater := highWater, reverseDebt := debt } }

theorem countedAt_ledger (highWater debt : Nat) (s : State) : ledger (countedAt highWater debt s) = ledger s := rfl

theorem countedAt_state (highWater debt : Nat) (s : State) :
    (countedAt highWater debt s).line.state = s.line.state := rfl

theorem countedAt_apart (highWater debt : Nat) (s : State) :
    (countedAt highWater debt s).line.apart = s.line.apart := rfl

/-- The state in which a realignment across the wrap has taken its boundary. -/
def openedAcross (level : Bool) (s : State) : State :=
  pitchBoundary level (crossings level (max s.shaft.phase s.shaft.highWater) 4095 s)

@[simp] theorem openedAcross_geometry (level : Bool) (s : State) : (openedAcross level s).geometry = s.geometry := by
  simp [openedAcross]

/-- The Shaft Tracker after that boundary: the pitch is closed, the count not yet set. -/
theorem openedAcross_shaft (level : Bool) (s : State) :
    (openedAcross level s).shaft = { (closePitch s).shaft with
      periodValid := periodIsValid s && (openedAcross level s).line.state != .halt
      timingQualified := s.line.state.running && (openedAcross level s).line.state != .halt } := by
  rw [openedAcross, pitchBoundary_shaft]
  simp [closePitch, periodIsValid, boundariesAfter_eq]

section
variable {s : State} {d : Int} (level : Bool)

theorem realign_zero (h : d = 0) : realign level d s = s := by
  simp [realign, h]

theorem realign_backward (debt : s.shaft.reverseDebt = 0) (hd : d < 0) (h : 0 ≤ (s.shaft.count : Int) + d) :
    realign level d s = countedAt s.shaft.highWater 0 s := by
  rw [realign, if_neg (by omega), if_pos hd, if_pos h, countedAt, ← debt]
  rfl

theorem realign_owing (debt : s.shaft.reverseDebt = 0) (h : (s.shaft.count : Int) + d < 0) :
    realign level d s = countedAt s.shaft.highWater 1 s := by
  rw [realign, if_neg (by omega), if_pos (by omega), if_neg (by omega),
    addDebt_owes (by simp [setCount, debt]), countedAt]
  simp [setCount, debt]

theorem realign_within (debt : s.shaft.reverseDebt = 0) (index : s.geometry.indexCount < s.shaft.workingCpp)
    (hd : 0 < d) (h : (s.shaft.count : Int) + d < s.shaft.workingCpp) :
    realign level d s = (phasesCrossed s (phaseOf s.geometry.indexCount s.shaft.workingCpp)).foldl (crossing level)
      (countedAt (max s.shaft.highWater (phaseOf s.geometry.indexCount s.shaft.workingCpp)) 0 s) := by
  rw [realign, if_pos hd, if_pos h, advanceCount_free level _ debt (phaseOf_le index), countedAt, ← debt]

theorem realign_across (count : s.shaft.count < s.shaft.workingCpp) (debt : s.shaft.reverseDebt = 0)
    (index : s.geometry.indexCount < s.shaft.workingCpp) (h : (s.shaft.workingCpp : Int) ≤ s.shaft.count + d) :
    realign level d s
      = ((List.range 4096).filter fun p => decide (0 < p)
            && decide (p ≤ phaseOf s.geometry.indexCount s.shaft.workingCpp)).foldl (crossing level)
          (countedAt (phaseOf s.geometry.indexCount s.shaft.workingCpp) 0 (openedAcross level s)) := by
  have phase := phaseOf_le index
  have shaft := openedAcross_shaft level s
  have counted : raiseHighWater (setCount s.geometry.indexCount (openedAcross level s))
      = countedAt (phaseOf s.geometry.indexCount s.shaft.workingCpp) 0 (openedAcross level s) := by
    simp [raiseHighWater, setCount, countedAt, shaft, closePitch, debt]
  rw [range_filter_between 0 (Nat.lt_succ_of_le phase), ← counted, realign, if_pos (by omega), if_neg (by omega)]
  simp only [realignAcross, crossings_geometry]
  change crossings level 0 (phaseOf s.geometry.indexCount (openedAcross level s).shaft.workingCpp) _ = _
  rw [shaft]
  rfl

end

/-! ## What the realignment leaves of the Shaft Tracker -/

/-- R13: no difference means that the count is at index_count. -/
theorem count_of_indexDifference_zero {s : State} (count : s.shaft.count < s.shaft.workingCpp)
    (index : s.geometry.indexCount < s.shaft.workingCpp) (h : indexDifference s = 0) :
    s.shaft.count = s.geometry.indexCount := by
  simp only [indexDifference] at h
  set cpp : Int := (s.shaft.workingCpp : Int) with hcpp
  have whole := Int.emod_add_mul_ediv ((s.geometry.indexCount : Int) - s.shaft.count + cpp / 2) cpp
  have divides : cpp ∣ (s.geometry.indexCount : Int) - s.shaft.count := ⟨_, by linarith⟩
  have same := Int.eq_zero_of_abs_lt_dvd divides (abs_lt.mpr ⟨by omega, by omega⟩)
  omega

theorem foldl_crossing_shaft (level : Bool) (phases : List Nat) (s : State) :
    (phases.foldl (crossing level) s).shaft = s.shaft :=
  foldl_proj State.shaft (fun _ _ => by simp) phases s

/-- R14: the Shaft Tracker after the realignment. -/
theorem realign_shaft (level : Bool) {d : Int} {s : State} (count : s.shaft.count < s.shaft.workingCpp)
    (debt : s.shaft.reverseDebt = 0) (index : s.geometry.indexCount < s.shaft.workingCpp)
    (phase : s.shaft.phase = phaseOf s.shaft.count s.shaft.workingCpp)
    (zero : d = 0 → s.shaft.count = s.geometry.indexCount) :
    ∃ highWater valid qualified boundaries, (realign level d s).shaft = { s.shaft with
      count := s.geometry.indexCount, phase := phaseOf s.geometry.indexCount s.shaft.workingCpp
      highWater := highWater
      reverseDebt := if (s.shaft.count : Int) + d < 0 then 1 else 0
      pitchTimer := if (s.shaft.workingCpp : Int) ≤ s.shaft.count + d then 0 else s.shaft.pitchTimer
      lastPeriod := if (s.shaft.workingCpp : Int) ≤ s.shaft.count + d then s.shaft.pitchTimer else s.shaft.lastPeriod
      periodValid := valid, timingQualified := qualified, boundariesSinceIndex := boundaries } := by
  by_cases back : (s.shaft.count : Int) + d < 0
  · have within : ¬(s.shaft.workingCpp : Int) ≤ s.shaft.count + d := by omega
    rw [realign_owing level debt back]
    exact ⟨_, _, _, _, by simp only [back, within, if_true, if_false]; rfl⟩
  by_cases across : (s.shaft.workingCpp : Int) ≤ s.shaft.count + d
  · rw [realign_across level count debt index across, foldl_crossing_shaft, countedAt, openedAcross_shaft,
      openedAcross_geometry]
    exact ⟨_, _, _, _, by simp only [back, across, if_true, if_false, closePitch]; rfl⟩
  rcases lt_trichotomy d 0 with hd | hd | hd
  · rw [realign_backward level debt hd (by omega)]
    exact ⟨_, _, _, _, by simp only [back, across, if_false]; rfl⟩
  · rw [realign_zero level hd, ← zero hd, ← phase]
    exact ⟨_, _, _, _, by simp only [back, across, if_false, ← debt]; rfl⟩
  · rw [realign_within level debt index hd (by omega), foldl_crossing_shaft]
    exact ⟨_, _, _, _, by simp only [back, across, if_false]; rfl⟩

theorem ledger_shaft (s : State) (x : Shaft) : ledger { s with shaft := x } = ledger s := rfl

/-- R14: across the wrap, where no cause is raised, the chain moves as at any forward boundary, and the period is
recorded. -/
theorem realign_across_chainMoved (level : Bool) {d : Int} {s : State} (count : s.shaft.count < s.shaft.workingCpp)
    (debt : s.shaft.reverseDebt = 0) (index : s.geometry.indexCount < s.shaft.workingCpp)
    (across : (s.shaft.workingCpp : Int) ≤ s.shaft.count + d) (quiet : BoundaryWithoutCause s) :
    ChainMoved ((phasesCrossed s 4095).foldl (crossing level) s) (realign level d s)
      ∧ (realign level d s).shaft.periodValid = (periodIsValid s && (realign level d s).line.state != .halt) := by
  rw [realign_across level count debt index across]
  set phases := (List.range 4096).filter fun p => decide (0 < p)
    && decide (p ≤ phaseOf s.geometry.indexCount s.shaft.workingCpp)
  set opened := countedAt (phaseOf s.geometry.indexCount s.shaft.workingCpp) 0 (openedAcross level s) with hopened
  have state : (phases.foldl (crossing level) opened).line.state = (openedAcross level s).line.state :=
    (foldl_proj (fun x => x.line.state) (fun _ _ => by simp) phases opened).trans (countedAt_state _ _ _)
  have ledgers : ledger (phases.foldl (crossing level) opened) = ledger (openedAcross level s) :=
    (foldl_proj ledger (fun x p => crossing_ledger level p x) phases opened).trans (countedAt_ledger _ _ _)
  refine ⟨?_, by rw [state, foldl_crossing_shaft, hopened, countedAt, openedAcross_shaft]⟩
  rw [← crossings_eq_phasesCrossed level s (Nat.le_refl _)]
  have moved : ChainMoved (crossings level (max s.shaft.phase s.shaft.highWater) 4095 s) (openedAcross level s) :=
    pitchBoundary_chainMoved level (by simpa [BoundaryWithoutCause] using quiet)
  exact chainMoved_of_ledger moved ledgers

/-! ## A line that the check has halted -/

/-- In HALT: the first cause and the state left stay, and the further causes only grow. -/
structure StaysHalted (s t : State) : Prop where
  state : t.line.state = .halt
  firstCause : t.line.haltRecord.firstCause = s.line.haltRecord.firstCause
  stateLeft : t.line.haltRecord.stateLeft = s.line.haltRecord.stateLeft
  further : ∀ c : HaltCause, maskHas s.line.haltRecord.further c.index = true →
    maskHas t.line.haltRecord.further c.index = true

theorem StaysHalted.of_apart {s t : State} (h : s.line.state = .halt) (e : t.line.apart = s.line.apart) :
    StaysHalted s t := by
  have record : t.line.haltRecord = s.line.haltRecord := (congrArg LineSequencer.haltRecord e :)
  exact ⟨(congrArg LineSequencer.state e :).trans h, by rw [record], by rw [record], by rw [record]; exact fun _ => id⟩

theorem StaysHalted.trans {a b c : State} (h : StaysHalted a b) (h' : StaysHalted b c) : StaysHalted a c :=
  ⟨h'.state, h'.firstCause.trans h.firstCause, h'.stateLeft.trans h.stateLeft,
    fun k hk => h'.further k (h.further k hk)⟩

theorem pitchBoundary_staysHalted (level : Bool) {s : State} (h : s.line.state = .halt) :
    StaysHalted s (pitchBoundary level s) := by
  obtain ⟨raised, -, line⟩ := pitchBoundary_apart level (s := s) (by simp [h])
  rw [foldl_raised_in_halt s.shaft.phase raised (l := s.line.apart) h] at line
  have record : (pitchBoundary level s).line.haltRecord = _ := (congrArg LineSequencer.haltRecord line :)
  refine ⟨(congrArg LineSequencer.state line :).trans h, by rw [record]; rfl, by rw [record]; rfl, fun c hc => ?_⟩
  rw [record]
  exact maskHas_foldl _ (.inr hc)

theorem foldl_crossing_apart (level : Bool) (phases : List Nat) (s : State) :
    (phases.foldl (crossing level) s).line.apart = s.line.apart :=
  foldl_proj (fun s => s.line.apart) (fun _ _ => by simp) phases s

theorem openedAcross_staysHalted (level : Bool) {s : State} (h : s.line.state = .halt) :
    StaysHalted s (openedAcross level s) :=
  have crossed := StaysHalted.of_apart h (crossings_line_apart level (max s.shaft.phase s.shaft.highWater) 4095 s)
  crossed.trans (pitchBoundary_staysHalted level crossed.state)

/-- A realignment moves a halted line no further than its boundary does. -/
theorem realign_staysHalted (level : Bool) {d : Int} {s : State} (h : s.line.state = .halt)
    (count : s.shaft.count < s.shaft.workingCpp) (debt : s.shaft.reverseDebt = 0)
    (index : s.geometry.indexCount < s.shaft.workingCpp) : StaysHalted s (realign level d s) := by
  by_cases back : (s.shaft.count : Int) + d < 0
  · rw [realign_owing level debt back]; exact .of_apart h rfl
  by_cases across : (s.shaft.workingCpp : Int) ≤ s.shaft.count + d
  · rw [realign_across level count debt index across]
    have opened := openedAcross_staysHalted level h
    exact opened.trans (.of_apart opened.state ((foldl_crossing_apart _ _ _).trans (countedAt_apart _ _ _)))
  rcases lt_trichotomy d 0 with hd | hd | hd
  · rw [realign_backward level debt hd (by omega)]; exact .of_apart h rfl
  · rw [realign_zero level hd]; exact .of_apart h rfl
  · rw [realign_within level debt index hd (by omega)]; exact .of_apart h (foldl_crossing_apart _ _ _)

/-- R13: a second mismatch in a row outside CONFIG halts the line, or joins the further causes of one that is halted. -/
theorem checkMismatch_halts {d : Int} {s : State} (far : 2 < d ∨ d < -2) (run : s.shaft.mismatchRun ≠ 0)
    (config : s.line.state ≠ .config) :
    (checkMismatch d s).line.state = .halt
      ∧ (s.line.state ≠ .halt → (checkMismatch d s).line.haltRecord.firstCause = some .encoderFault
          ∧ (checkMismatch d s).line.haltRecord.stateLeft = some s.line.state)
      ∧ (s.line.state = .halt →
          maskHas (checkMismatch d s).line.haltRecord.further HaltCause.encoderFault.index = true) := by
  rw [checkMismatch_eq, if_pos far, if_neg run]
  by_cases halted : s.line.state = .halt
  · rw [raiseCause_in_halt (s := { s with shaft.mismatchRun := 0 }) halted]
    exact ⟨halted, fun h => absurd halted h, fun _ => maskHas_index _ .encoderFault⟩
  · rw [raiseCause_enters (s := { s with shaft.mismatchRun := 0 }) config halted, enterHalt_line]
    exact ⟨rfl, fun _ => ⟨rfl, rfl⟩, fun h => absurd h halted⟩

/-! ## O22 -/

/-- The state in which an index edge realigns: time has passed and the difference is checked (R13). -/
def edgeChecked (elapsed : Nat) (s : State) : State := checkMismatch (indexDifference s) (passTime elapsed s)

@[simp] theorem edgeChecked_geometry (elapsed : Nat) (s : State) : (edgeChecked elapsed s).geometry = s.geometry := by
  simp [edgeChecked, passTime]

@[simp] theorem edgeChecked_sensors (elapsed : Nat) (s : State) : (edgeChecked elapsed s).sensors = s.sensors := by
  simp [edgeChecked, passTime]

/-- R13: the mismatch run is 1 only after one mismatch alone. -/
theorem edgeChecked_shaft (elapsed : Nat) {s : State} (h : s.shaft.mismatchRun ≤ 1) :
    (edgeChecked elapsed s).shaft = { s.shaft with
      pitchTimer := min (s.shaft.pitchTimer + elapsed) 2000001
      mismatchRun := if 2 < indexDifference s ∨ indexDifference s < -2 then 1 - s.shaft.mismatchRun else 0
      periodValid := (edgeChecked elapsed s).shaft.periodValid
      timingQualified := (edgeChecked elapsed s).shaft.timingQualified } := by
  have run : (if (2 < indexDifference s ∨ indexDifference s < -2) ∧ s.shaft.mismatchRun = 0 then 1 else 0)
      = if 2 < indexDifference s ∨ indexDifference s < -2 then 1 - s.shaft.mismatchRun else 0 := by
    by_cases far : 2 < indexDifference s ∨ indexDifference s < -2
    · simp only [far, true_and, if_true]; split <;> omega
    · simp only [far, false_and, if_false]
  rw [← run]
  exact checkMismatch_shaft (indexDifference s) (passTime elapsed s)

theorem indexTaken_iff (s : State) :
    indexTaken s = true ↔ (s.geometry.indexCheck = 1 ∧ s.line.state ≠ .config) ∧ s.shaft.reverseDebt = 0
      ∧ s.shaft.lastStep ≠ some .backward := by
  simp [indexTaken, ← indexChecked_iff, and_assoc]

/-- An index edge taken for checking: checked, realigned, and no boundary since it (R13 to R15). -/
theorem exec_indexEdge_taken (elapsed : Nat) (level : Bool) {s : State} (h : indexTaken s = true) :
    exec (.indexEdge elapsed level) s = .next (conclude
      { realign level (indexDifference s) (edgeChecked elapsed s) with
        shaft.boundariesSinceIndex := 0 }) := by
  have taken : indexTaken (passTime elapsed s) = true := h
  change Host.Outcome.next (conclude (indexEdge level (passTime elapsed s))) = _
  rw [indexEdge, if_pos taken]
  rfl

/-- Settles O22: an index edge that is taken, by the difference it finds; the other shaft events. -/
theorem indexEdgeRealignsTheCount : Obligations.IndexEdgeRealignsTheCount := by
  refine ⟨fun elapsed level s law pin check config debt forward => ?_,
    fun elapsed level s => ⟨rfl, rfl, fun h => ?_⟩⟩
  · intro cpp d far phase passed checked s1 moved found opened run
    have checked_eq : edgeChecked elapsed s = s1 := checkMismatch_eq d
    have taken : run = .next (conclude (found (realign level d s1))) := by
      rw [← checked_eq]
      exact exec_indexEdge_taken elapsed level ((indexTaken_iff s).mpr ⟨⟨check, config⟩, debt, forward⟩)
    have geometry : s1.geometry = s.geometry := by rw [← checked_eq]; simp
    have shaft : s1.shaft = { s.shaft with
        pitchTimer := passed, mismatchRun := if far then 1 - s.shaft.mismatchRun else 0
        periodValid := s1.shaft.periodValid, timingQualified := s1.shaft.timingQualified } :=
      checked_eq ▸ edgeChecked_shaft elapsed ((shaftLaw_iff s).mp law).1.run
    have cpp_eq : s1.shaft.workingCpp = s.shaft.workingCpp := by rw [shaft]
    have count_eq : s1.shaft.count = s.shaft.count := by rw [shaft]
    have debt1 : s1.shaft.reverseDebt = 0 := by rw [shaft]; exact debt
    have phase_eq : phaseOf s1.geometry.indexCount s1.shaft.workingCpp = phase := by rw [geometry, cpp_eq]; rfl
    have high : s1.shaft.highWater = s.shaft.highWater := by rw [shaft]
    have counts : s1.shaft.count < s1.shaft.workingCpp := by
      rw [count_eq, cpp_eq]; exact ((shaftLaw_iff s).mp law).1.count
    have index : s1.geometry.indexCount < s1.shaft.workingCpp := by
      rw [geometry, cpp_eq]; exact indexCount_lt law config
    have crossed : ∀ hi, phasesCrossed s1 hi = phasesCrossed s hi := fun hi => by
      rw [phasesCrossed, phasesCrossed, shaft]
    have counted : ∀ highWater debt x, x.geometry = s.geometry → x.shaft.workingCpp = s.shaft.workingCpp →
        countedAt highWater debt x = moved highWater debt x := fun highWater debt x hg hc => by
      have same : x.geometry.indexCount = s.geometry.indexCount := by rw [hg]
      rw [countedAt, same, hc]; rfl
    have opened_eq : openedAcross level s1 = opened := by
      rw [openedAcross, crossings_eq_phasesCrossed level s1 (Nat.le_refl _), crossed]
    have openedCpp : opened.shaft.workingCpp = s.shaft.workingCpp := by
      rw [← opened_eq, openedAcross_shaft]; exact cpp_eq
    rw [taken]
    refine ⟨fun hd => ?_, fun hd hc => ?_, fun hc => ?_, fun hd hc => ?_, fun hc => ?_, ?_⟩
    · rw [realign_zero level hd]
    · rw [realign_backward level debt1 hd (by rw [count_eq]; exact hc), counted _ _ s1 geometry cpp_eq, high]
    · rw [realign_owing level debt1 (by rw [count_eq]; exact hc), counted _ _ s1 geometry cpp_eq, high]
    · rw [realign_within level debt1 index hd (by rw [count_eq, cpp_eq]; exact hc), counted _ _ s1 geometry cpp_eq,
        phase_eq, high, crossed]
    · rw [realign_across level counts debt1 index (by rw [count_eq, cpp_eq]; exact hc), opened_eq,
        counted _ _ opened (by rw [← opened_eq, openedAcross_geometry, geometry]) openedCpp, phase_eq]
    obtain ⟨highWater, valid, qualified, boundaries, moved_shaft⟩ := realign_shaft level counts debt1 index
      (by rw [shaft]; exact ((shaftLaw_iff s).mp law).1.phase)
      fun hd => by
        rw [count_eq, geometry]
        exact count_of_indexDifference_zero ((shaftLaw_iff s).mp law).1.count (indexCount_lt law config) hd
    set y := realign level d s1 with hy
    have pin' : (found y).sensors.resetPin = false := by
      change y.sensors.resetPin = false
      rw [hy, realign_sensors, ← checked_eq]
      simpa using pin
    refine ⟨_, rfl, ?_⟩
    rw [conclude_shaft _ pin', conclude_line _ pin']
    have timer : s1.shaft.pitchTimer = passed := by rw [shaft]
    have timers : (s1.shaft.workingCpp : Int) ≤ s1.shaft.count + d ↔ cpp ≤ s.shaft.count + d := by
      rw [cpp_eq, count_eq]
    refine ⟨?_, ?_, rfl, ?_, ?_, ?_, ?_, ?_, fun across quiet => ?_, fun hf run => ?_⟩
    · exact (congrArg Shaft.count moved_shaft).trans (by rw [geometry])
    · exact (congrArg Shaft.phase moved_shaft).trans phase_eq
    · exact (congrArg Shaft.mismatchRun moved_shaft).trans (by rw [shaft])
    · exact (congrArg Shaft.reverseDebt moved_shaft).trans (by rw [count_eq]; rfl)
    · exact (congrArg (fun x : Shaft => (x.pairA, x.pairB, x.lastStep)) moved_shaft).trans (by rw [shaft])
    · exact (congrArg Shaft.pitchTimer moved_shaft).trans (if_congr timers rfl timer)
    · exact (congrArg Shaft.lastPeriod moved_shaft).trans (if_congr timers timer (by rw [shaft]))
    · obtain ⟨chain, period⟩ := realign_across_chainMoved level counts debt1 index (timers.mpr across) quiet
      rw [crossed] at chain
      have kept : ledger (conclude (found y)) = ledger y := (conclude_ledger pin').trans (ledger_shaft y _)
      refine ⟨chainMoved_of_ledger chain kept, period.trans ?_⟩
      rw [periodIsValid, timer]
      rfl
    · have halts := checkMismatch_halts (s := passTime elapsed s) hf (by simp [passTime, run]) config
      rw [show checkMismatch d (passTime elapsed s) = s1 from checked_eq] at halts
      obtain ⟨state, first, further⟩ := halts
      have stays := realign_staysHalted level (d := d) state counts debt1 index
      exact ⟨stays.state, fun h => ⟨stays.firstCause.trans (first h).1, stays.stateLeft.trans (first h).2⟩,
        fun h => stays.further _ (further h)⟩
  · have ignored : ¬indexTaken (passTime elapsed s) = true := fun taken => by
      obtain ⟨⟨check, config⟩, debt, forward⟩ := (indexTaken_iff (passTime elapsed s)).mp taken
      rcases h with h | h | h | h
      · exact h check
      · exact config h
      · exact h debt
      · exact forward h
    change Host.Outcome.next (conclude (indexEdge level (passTime elapsed s))) = _
    rw [indexEdge, if_neg ignored]
    rfl

end Sys2Proof.Machine

/-! # LINE RESET (R149) -/

namespace Sys2Proof.Machine

/-! ## The feed-inhibit set (R145) -/

theorem maskHas_maskAdd_eq {n k : Nat} (m : BitVec n) (h : k < n) (j : Nat) :
    maskHas (maskAdd m k) j = (decide (k = j) || maskHas m j) := by
  simp [maskHas, maskAdd, BitVec.getLsbD_twoPow, h, Bool.or_comm]

theorem maskHas_maskRemove_eq {n k : Nat} (m : BitVec n) (j : Nat) :
    maskHas (maskRemove m k) j = (!decide (k = j) && maskHas m j) := by
  by_cases hj : j < n
  · simp [maskHas, maskRemove, hj, Bool.and_comm, eq_comm]
  · simp [maskHas, maskRemove, BitVec.getLsbD_of_ge m j (Nat.le_of_not_lt hj)]

/-- A cause made present or absent in the set. -/
def maskSet (m : BitVec 6) (c : FeedCause) (present : Bool) : BitVec 6 :=
  if present then maskAdd m c.index else maskRemove m c.index

theorem FeedCause.index_lt (c : FeedCause) : c.index < 6 := by
  cases c <;> decide

theorem FeedCause.index_inj {c d : FeedCause} (h : c.index = d.index) : c = d := by
  revert h; cases c <;> cases d <;> decide

theorem maskHas_maskSet (m : BitVec 6) (c d : FeedCause) (present : Bool) :
    maskHas (maskSet m c present) d.index = if c = d then present else maskHas m d.index := by
  have same : c.index = d.index ↔ c = d := ⟨FeedCause.index_inj, fun h => h ▸ rfl⟩
  cases present
  · simp [maskSet, maskHas_maskRemove_eq, same]
  · simp [maskSet, maskHas_maskAdd_eq m c.index_lt, same]

/-- The causes of the links' holds are apart from those of the units. -/
theorem maskSet_holds (m : BitVec 6) {c : FeedCause} (h : BitVec.twoPow 6 c.index &&& 0x38 = 0) (present : Bool) :
    maskSet m c present &&& 0x38 = m &&& 0x38 := by
  have others : ~~~BitVec.twoPow 6 c.index &&& 0x38 = 0x38 := by
    revert h; cases c <;> decide
  cases present
  · rw [maskSet, if_neg (by decide), maskRemove, BitVec.and_assoc, others]
  · rw [maskSet, if_pos rfl, maskAdd, BitVec.and_or_distrib_right, h]
    exact BitVec.or_zero

/-- Outside RUN nothing is posted when a cause is made present or absent. -/
theorem setFeedCause_idle {s : State} (h : s.line.state ≠ .run) (c : FeedCause) (present : Bool) :
    setFeedCause c present s = { s with line.feedInhibit := maskSet s.line.feedInhibit c present } := by
  cases present <;> simp [setFeedCause, addFeedCause, removeFeedCause, maskSet, h]

/-- GUM_LOW and PATCH_SUPPLY taken anew outside RUN. -/
theorem retakeSupplies_idle {s : State} (h : s.line.state ≠ .run) :
    retakeSupplies s = { s with line.feedInhibit :=
      (maskSet (maskSet s.line.feedInhibit .gumLow (gumLow s)) .patchSupply (patchSupplyLow s)) } := by
  rw [retakeSupplies]
  simp only [setFeedCause_idle h]
  rw [setFeedCause_idle (by exact h)]
  rfl

/-! ## The batch purged (R111, R114, R119) -/

/-- Whether the batch purged at LINE RESET starts a backlog (R114). -/
def backlogStarts (s : State) : Bool :=
  s.batch.openBatch.isSome && !s.batch.backlog && decide (11 ≤ s.batch.queue.length)

/-- Whether the batch purged at LINE RESET ends a backlog (R114). -/
def backlogEnds (s : State) : Bool :=
  s.batch.openBatch.isSome && s.batch.backlog && decide (s.batch.queue.length + 1 ≤ 8)

/-- The feed-inhibit set after the batch is purged: PACKER_BACKLOG follows the backlog (R114). -/
def purgedInhibit (s : State) : BitVec 6 :=
  if backlogStarts s then maskSet s.line.feedInhibit .packerBacklog true
  else if backlogEnds s then maskSet s.line.feedInhibit .packerBacklog false
  else s.line.feedInhibit

theorem checkBacklog_idle {s : State} (h : s.line.state ≠ .run) :
    checkBacklog s =
      if s.batch.backlog = false ∧ 12 ≤ s.batch.queue.length then
        { s with
          batch.backlog := true, line.feedInhibit := maskSet s.line.feedInhibit .packerBacklog true
          ports := portsPosted [.backlog] s.ports }
      else if s.batch.backlog = true ∧ s.batch.queue.length ≤ 8 then
        { s with batch.backlog := false, line.feedInhibit := maskSet s.line.feedInhibit .packerBacklog false }
      else s := by
  have added : ∀ x : State, x.line.state = s.line.state →
      addFeedCause .packerBacklog x = { x with line.feedInhibit := maskSet x.line.feedInhibit .packerBacklog true } :=
    fun x hx => setFeedCause_idle (hx ▸ h) .packerBacklog true
  rw [checkBacklog, added (post .backlog { s with batch.backlog := true }) rfl]
  rfl

/-- R119: the open batch purged outside RUN. -/
theorem purgeBatch_idle {s : State} (h : s.line.state ≠ .run) :
    purgeBatch s = { s with
      batch := { s.batch with
        openBatch := none, closeRequest := false, kickMark := none
        backlog := (s.batch.backlog || backlogStarts s) && !backlogEnds s
        queue := s.batch.queue ++ (s.batch.openBatch.map (OpenBatch.closed · .purge)).toList }
      line.feedInhibit := purgedInhibit s
      ports := portsPosted ((if s.batch.openBatch.isSome then [.batchClosed] else [])
        ++ (if backlogStarts s then [.backlog] else [])) s.ports } := by
  cases ho : s.batch.openBatch with
  | none => simp [purgeBatch, closeBatch, ho, backlogStarts, backlogEnds, purgedInhibit]
  | some o =>
    simp only [purgeBatch, closeBatch, ho]
    rw [checkBacklog_idle (by exact h)]
    simp only [backlogStarts, backlogEnds, purgedInhibit, ho]
    cases hb : s.batch.backlog with
    | false =>
      by_cases hl : 11 ≤ s.batch.queue.length
      · simp [hl, post_ports, ← portsPosted_append]
      · simp [hl, post_ports]
    | true =>
      by_cases hl : s.batch.queue.length + 1 ≤ 8
      · simp [hl, post_ports]
      · simp [hl, post_ports]

/-! ## The records discarded (R36, R131) -/

/-- Whether the discard of every record releases a DRAINING bank (R31, R131). -/
def discardReleases (s : State) (b : BankId) : Bool := bankState s b == .draining && bankNamed s b

/-- An event posted twice is pending once (R159). -/
theorem portsPosted_twice (e : Event) (ports : PerLink Port) : portsPosted [e, e] ports = portsPosted [e] ports := by
  have once : ∀ m : BitVec 13, maskAdd (maskAdd m e.index) e.index = maskAdd m e.index := fun m => by
    rw [maskAdd, maskAdd, BitVec.or_assoc, BitVec.or_self]
  refine PerLink.ext_get fun l => ?_
  simp [portsPosted, once]

/-- An event posted after another post of it and no more. -/
theorem portsPosted_merge (e : Event) (ports : PerLink Port) :
    portsPosted [e] (portsPosted [e] ports) = portsPosted [e] ports :=
  (portsPosted_append [e] [e] ports).symm.trans (portsPosted_twice e ports)

theorem releaseUnnamed_ports (before : List Record) (b : BankId) {s : State} (h : bankNamed s b = false) :
    (releaseUnnamed before b s).ports
      = portsPosted (if bankState s b == .draining && namesBank before b then [.bankReleased] else []) s.ports := by
  cases hn : namesBank before b <;> by_cases hd : bankState s b = .draining <;>
    simp [releaseUnnamed, hn, h, releaseBank, hd, post_ports]

/-- The chain emptied, its records counted as purged (R36). -/
def emptied (s : State) : State :=
  { s with chain := { s.chain with records := [], purged := addCount s.chain.purged s.chain.records } }

theorem discardRecords_eq (s : State) :
    discardRecords s
      = releaseUnnamed s.chain.records .bank1 (releaseUnnamed s.chain.records .bank0 (emptied s)) := rfl

theorem bankNamed_emptied (s : State) (k : BankId) : bankNamed (emptied s) k = false := rfl

/-- The notices of the discard: BANK_RELEASED where a DRAINING bank was named. -/
theorem discardRecords_ports (s : State) :
    (discardRecords s).ports
      = portsPosted (if [BankId.bank0, .bank1].any (discardReleases s) then [.bankReleased] else []) s.ports := by
  have other : bankState (releaseUnnamed s.chain.records .bank0 (emptied s)) .bank1 = bankState s .bank1 := by
    rw [bankState_releaseUnnamed, if_neg (by simp)]; rfl
  have unnamed : bankNamed (releaseUnnamed s.chain.records .bank0 (emptied s)) .bank1 = false := by
    rw [bankNamed_of_chain (releaseUnnamed_chain _ _ _), bankNamed_emptied]
  rw [discardRecords_eq, releaseUnnamed_ports _ _ unnamed, other,
    releaseUnnamed_ports _ _ (bankNamed_emptied s .bank0), ← portsPosted_append]
  change portsPosted ((if discardReleases s .bank0 then [.bankReleased] else [])
    ++ (if discardReleases s .bank1 then [.bankReleased] else [])) s.ports = _
  cases h0 : discardReleases s .bank0 <;> cases h1 : discardReleases s .bank1 <;>
    simp [h0, h1, portsPosted_twice]

theorem releaseUnnamed_written (before : List Record) (b : BankId) (s : State) :
    releaseUnnamed before b s = { s with
      banks := (releaseUnnamed before b s).banks, ports := (releaseUnnamed before b s).ports } := by
  unfold releaseUnnamed releaseBank
  (repeat' split) <;> rfl

theorem discardRecords_written (s : State) :
    discardRecords s = { emptied s with banks := (discardRecords s).banks, ports := (discardRecords s).ports } := by
  have second := releaseUnnamed_written s.chain.records .bank1 (releaseUnnamed s.chain.records .bank0 (emptied s))
  have first := releaseUnnamed_written s.chain.records .bank0 (emptied s)
  exact second.trans (congrArg (fun x : State =>
    { x with banks := (discardRecords s).banks, ports := (discardRecords s).ports }) first)

theorem bankState_discardRecords (s : State) (k : BankId) :
    bankState (discardRecords s) k = if discardReleases s k then .valid else bankState s k := by
  refine (bankState_releaseNotices _ (emptied s) k).trans (if_congr ?_ rfl rfl)
  rw [bankNamed_emptied, bankState_of_banks (show (emptied s).banks = s.banks from rfl)]
  simp [discardReleases, bankNamed]

/-- The discard leaves the ACTIVE bank and the ARMED one. -/
theorem bankIn_discardRecords {st : BankState} (hd : st ≠ .draining) (hv : st ≠ .valid) (s : State) :
    bankIn st (discardRecords s) = bankIn st s :=
  bankIn_releaseNotices hd hv s.chain.records (emptied s)

/-! ## The changeover with the chain empty (R130) -/

theorem banksChanged_unnamed {b : BankId} {s : State} (h : ∀ k, bankNamed s k = false) :
    banksChanged b s = { s with
      banks := (banksChanged b s).banks
      ports := portsPosted (if (activeBank s).isSome then [.bankReleased] else []) s.ports } := by
  cases ha : activeBank s with
  | none => simp only [banksChanged, ha]; rfl
  | some old =>
    have unnamed : bankNamed (setBankState b .active s) old = false := h old
    simp only [banksChanged, ha, retireBank, unnamed]
    rfl

theorem activeBank_congr {s t : State} (hb : t.banks = s.banks) : activeBank t = activeBank s :=
  bankIn_congr fun k => by rw [bankState_of_banks hb]

theorem gumLow_congr {s t : State} (hb : t.banks = s.banks) (hs : t.sensors = s.sensors) : gumLow t = gumLow s := by
  unfold gumLow
  rw [activeBank_congr hb, hs]
  cases activeBank s with
  | none => rfl
  | some b => simp only [fieldsOf_of_banks hb]

theorem patchSupplyLow_congr {s t : State} (hb : t.banks = s.banks) (hs : t.sensors = s.sensors) :
    patchSupplyLow t = patchSupplyLow s := by
  unfold patchSupplyLow
  rw [activeBank_congr hb, hs]
  cases activeBank s with
  | none => rfl
  | some b => simp only [fieldsOf_of_banks hb]

theorem supersede_of_none {s : State} (b : BankId) (h : s.batch.openBatch = none) : supersede b s = s := by
  rw [supersede, h, Option.map_none, ← h]

/-- An armed changeover outside RUN with no record and no open batch. -/
theorem takeChangeover_idle {s : State} (hr : s.line.state ≠ .run) (hu : ∀ k, bankNamed s k = false)
    (ho : s.batch.openBatch = none) (h : (armedBank s).isSome = true) :
    takeChangeover s = { s with
      banks := (takeChangeover s).banks
      registration := { s.registration with m16 := 0, driftAlert := false, accepted := 0 }
      line.feedInhibit := maskSet (maskSet s.line.feedInhibit .gumLow (gumLow (takeChangeover s))) .patchSupply
        (patchSupplyLow (takeChangeover s))
      ports := portsPosted ((if (activeBank s).isSome then [.bankReleased] else []) ++ [.changeoverTaken]) s.ports } := by
  obtain ⟨b, hb⟩ := Option.isSome_iff_exists.mp h
  set x : State := supersede b (zeroDrift (post .changeoverTaken (banksChanged b s))) with hx
  have taken : takeChangeover s = retakeSupplies x := takeChangeover_armed hb
  have written : x = { s with
      banks := x.banks, registration := { s.registration with m16 := 0, driftAlert := false, accepted := 0 }
      ports := portsPosted ((if (activeBank s).isSome then [.bankReleased] else []) ++ [.changeoverTaken]) s.ports } := by
    rw [hx, banksChanged_unnamed hu, portsPosted_append, supersede_of_none b]
    · rfl
    · exact ho
  have line : x.line = s.line := by rw [written]
  rw [gumLow_congr (t := takeChangeover s) (s := x) (by rw [taken]; simp) (by rw [taken]; simp),
    patchSupplyLow_congr (t := takeChangeover s) (s := x) (by rw [taken]; simp) (by rw [taken]; simp),
    taken, retakeSupplies_idle (by rw [line]; exact hr), line]
  exact congrArg (fun y : State => { y with line := { s.line with feedInhibit :=
    (maskSet (maskSet s.line.feedInhibit .gumLow (gumLow x)) .patchSupply (patchSupplyLow x)) } }) written

/-! ## The units at LINE RESET -/

/-- LINE RESET before the levels are examined (R149). -/
def resetTaken (s : State) : State := takeChangeover (unitsReset s)

/-- What LINE RESET posts before the levels are examined (R111, R114, R130, R131). -/
def resetEvents (s : State) : List Event :=
  (if s.batch.openBatch.isSome then [.batchClosed] else []) ++ (if backlogStarts s then [.backlog] else [])
    ++ (if [BankId.bank0, .bank1].any (discardReleases s) || ((armedBank s).isSome && (activeBank s).isSome) then
          [.bankReleased] else [])
    ++ (if (armedBank s).isSome then [.changeoverTaken] else [])

/-- What LINE RESET does when the batch is purged and the records are discarded (R18, R70, R82, R89, R94, R143). -/
def restarted (s : State) : State :=
  let s1 := resetShaft (resetGumFold (resetRegistration { s with verdicts.triggerLog := [] }))
  { s1 with line := { s1.line with state := .ready, haltRecord := clearHaltRecord s1.line.haltRecord } }

section
variable {s : State}

/-- The units reset, written out but for the banks (R18, R36, R70, R77, R82, R89, R94, R119, R143). -/
theorem unitsReset_written (h : s.line.state ≠ .run) :
    unitsReset s = { s with
      shaft := { s.shaft with
        reverseDebt := 0, highWater := s.shaft.phase, periodValid := false, timingQualified := false }
      chain := { s.chain with records := [], purged := addCount s.chain.purged s.chain.records }
      registration := (resetRegistration s).registration
      gumFold := (resetGumFold s).gumFold
      verdicts := { s.verdicts with triggerLog := [] }
      batch := { s.batch with
        openBatch := none, closeRequest := false, kickMark := none
        backlog := (s.batch.backlog || backlogStarts s) && !backlogEnds s
        queue := s.batch.queue ++ (s.batch.openBatch.map (OpenBatch.closed · .purge)).toList }
      banks := (unitsReset s).banks
      line := { s.line with
        state := .ready, haltRecord := clearHaltRecord s.line.haltRecord, feedInhibit := purgedInhibit s }
      ports := portsPosted ((if s.batch.openBatch.isSome then [.batchClosed] else [])
        ++ (if backlogStarts s then [.backlog] else [])
        ++ (if [BankId.bank0, .bank1].any (discardReleases s) then [.bankReleased] else [])) s.ports } := by
  have releases : discardReleases (purgeBatch s) = discardReleases s := by
    funext b
    rw [discardReleases, bankState_of_banks (purgeBatch_banks s), bankNamed_of_chain (purgeBatch_chain s)]
    rfl
  have purgePorts : (purgeBatch s).ports = portsPosted ((if s.batch.openBatch.isSome then [.batchClosed] else [])
      ++ (if backlogStarts s then [.backlog] else [])) s.ports := congrArg State.ports (purgeBatch_idle h)
  have ports : (discardRecords (purgeBatch s)).ports = portsPosted (
      (if s.batch.openBatch.isSome then [.batchClosed] else [])
      ++ (if backlogStarts s then [.backlog] else [])
      ++ (if [BankId.bank0, .bank1].any (discardReleases s) then [.bankReleased] else [])) s.ports := by
    rw [discardRecords_ports, releases, purgePorts, ← portsPosted_append]
  have discarded := (discardRecords_written (purgeBatch s)).trans (congrArg (fun x : State =>
    { emptied x with banks := (discardRecords (purgeBatch s)).banks, ports := (discardRecords (purgeBatch s)).ports })
    (purgeBatch_idle h))
  rw [ports] at discarded
  exact congrArg restarted discarded

theorem bankState_unitsReset (k : BankId) :
    bankState (unitsReset s) k = if discardReleases s k then .valid else bankState s k := by
  refine (bankState_discardRecords (purgeBatch s) k).trans ?_
  rw [bankState_of_banks (purgeBatch_banks s), discardReleases, discardReleases, bankState_of_banks (purgeBatch_banks s),
    bankNamed_of_chain (purgeBatch_chain s)]

theorem bankIn_unitsReset {st : BankState} (hd : st ≠ .draining) (hv : st ≠ .valid) :
    bankIn st (unitsReset s) = bankIn st s :=
  (bankIn_discardRecords hd hv (purgeBatch s)).trans
    (bankIn_congr fun k => by rw [bankState_of_banks (purgeBatch_banks s)])

theorem fieldsOf_unitsReset (k : BankId) : fieldsOf (unitsReset s) k = fieldsOf s k :=
  (fieldsOf_releaseNotices _ _ k).trans (fieldsOf_of_banks (purgeBatch_banks s) k)

/-! ## With an armed changeover taken -/

theorem resetTaken_unarmed (h : armedBank s = none) : resetTaken s = unitsReset s :=
  takeChangeover_unarmed ((bankIn_unitsReset (by decide) (by decide)).trans h)

theorem resetTaken_armed (hr : s.line.state ≠ .run) (h : (armedBank s).isSome = true) :
    resetTaken s = { unitsReset s with
      banks := (resetTaken s).banks
      registration := { (unitsReset s).registration with m16 := 0, driftAlert := false, accepted := 0 }
      line.feedInhibit := (maskSet (maskSet (purgedInhibit s) .gumLow (gumLow (resetTaken s))) .patchSupply
        (patchSupplyLow (resetTaken s)))
      ports := portsPosted ((if (activeBank s).isSome then [.bankReleased] else []) ++ [.changeoverTaken])
        (unitsReset s).ports } := by
  have written := unitsReset_written hr
  have armed : (armedBank (unitsReset s)).isSome = true := by
    rw [armedBank, bankIn_unitsReset (by decide) (by decide)]; exact h
  have inhibit : (unitsReset s).line.feedInhibit = purgedInhibit s := by rw [written]
  have active : activeBank (unitsReset s) = activeBank s := bankIn_unitsReset (by decide) (by decide)
  have taken := takeChangeover_idle (s := unitsReset s) (by rw [written]; simp) (fun k => by rw [written]; rfl)
    (by rw [written]) armed
  rw [inhibit, active] at taken
  exact taken

/-- The feed-inhibit set after LINE RESET: the supplies are taken anew with a changeover alone (R75, R83, R130). -/
def resetInhibit (s : State) : BitVec 6 :=
  if (armedBank s).isSome then
    maskSet (maskSet (purgedInhibit s) .gumLow (gumLow (resetTaken s))) .patchSupply (patchSupplyLow (resetTaken s))
  else purgedInhibit s

/-- LINE RESET with any armed changeover taken, written out but for the banks. -/
theorem resetTaken_written (hr : s.line.state ≠ .run) :
    resetTaken s = { unitsReset s with
      banks := (resetTaken s).banks, line.feedInhibit := resetInhibit s
      ports := portsPosted (resetEvents s) s.ports } := by
  have written := unitsReset_written hr
  cases ha : armedBank s with
  | none =>
    have ports : portsPosted (resetEvents s) s.ports = (unitsReset s).ports := by
      rw [written]; simp [resetEvents, ha]
    have inhibit : resetInhibit s = (unitsReset s).line.feedInhibit := by
      rw [written]; simp [resetInhibit, ha]
    rw [resetTaken_unarmed ha, ports, inhibit]
  | some b =>
    have armed : (armedBank s).isSome = true := by rw [ha]; rfl
    have ports : portsPosted (resetEvents s) s.ports
        = portsPosted ((if (activeBank s).isSome then [.bankReleased] else []) ++ [.changeoverTaken])
            (unitsReset s).ports := by
      rw [written]
      simp only [resetEvents, armed, Bool.true_and, if_true, portsPosted_append]
      cases [BankId.bank0, .bank1].any (discardReleases s) <;> cases (activeBank s).isSome <;> simp [portsPosted_merge]
    have registration : (unitsReset s).registration
        = { (unitsReset s).registration with m16 := 0, driftAlert := false, accepted := 0 } := by rw [written]; rfl
    have inhibit : resetInhibit s = maskSet (maskSet (purgedInhibit s) .gumLow (gumLow (resetTaken s))) .patchSupply
        (patchSupplyLow (resetTaken s)) := if_pos armed
    rw [ports, inhibit]
    refine (resetTaken_armed hr armed).trans ?_
    rw [← registration]

/-- The bank states after LINE RESET (R130, R131). -/
theorem bankState_resetTaken (hr : s.line.state ≠ .run) (k : BankId) :
    bankState (resetTaken s) k =
      if armedBank s = some k then .active
      else if discardReleases s k = true ∨ ((armedBank s).isSome = true ∧ activeBank s = some k) then .valid
      else bankState s k := by
  have active : activeBank (unitsReset s) = activeBank s := bankIn_unitsReset (by decide) (by decide)
  have unnamed : bankNamed (unitsReset s) k = false := by rw [unitsReset_written hr]; rfl
  cases ha : armedBank s with
  | none => rw [resetTaken_unarmed ha, bankState_unitsReset]; simp
  | some b =>
    have armed : armedBank (unitsReset s) = some b := (bankIn_unitsReset (by decide) (by decide)).trans ha
    rw [resetTaken, bankState_takeChangeover armed, bankState_unitsReset, active, unnamed]
    by_cases hk : k = b
    · simp [hk]
    · by_cases hd : discardReleases s k = true <;> by_cases hact : activeBank s = some k <;>
        simp [hk, Ne.symm hk, hd, hact]

end

/-! ## The levels examined from READY (R140, R141, R143) -/

theorem enterHalt_ready {s : State} (h : s.line.state = .ready) (c : HaltCause) :
    enterHalt c none s = { s with
      shaft := { s.shaft with periodValid := false, timingQualified := false }
      line := { s.line with haltRecord := haltEntryRecord c none s, closeFlag := none, state := .halt }
      ports := portsPosted [.halted] s.ports } := by
  simp only [enterHalt, h, LineState.running]
  rfl

theorem levelCauses_nil_iff (s : State) : levelCauses s = [] ↔ ¬(s.sensors.estop = true ∨ s.sensors.jam = true) := by
  cases he : s.sensors.estop <;> cases hj : s.sensors.jam <;> simp [levelCauses, he, hj]

/-- The levels examined in READY where the period is not valid: the line alone changes, with HALTED posted. -/
theorem examineLevels_ready {s : State} (h : s.line.state = .ready) (spoiled : (spoilPeriod s).shaft = s.shaft) :
    ∃ line index, examineLevels s = { s with
        line := line, choices := index
        ports := portsPosted (if s.sensors.estop = true ∨ s.sensors.jam = true then [.halted] else []) s.ports }
      ∧ (¬(s.sensors.estop = true ∨ s.sensors.jam = true) → line = s.line)
      ∧ (s.sensors.estop = true ∨ s.sensors.jam = true → ∃ first ∈ levelCauses s, line = { s.line with
          haltRecord := { haltEntryRecord first none s with
            further := ((levelCauses s).erase first).foldl (fun m c => maskAdd m c.index) 0 }
          closeFlag := none, state := .halt }) := by
  by_cases hl : s.sensors.estop = true ∨ s.sensors.jam = true
  · have raised : levelCauses s ≠ [] := fun e => (levelCauses_nil_iff s).mp e hl
    obtain ⟨first, mem, index, halted⟩ := examineLevels_halts h raised
    refine ⟨_, index, ?_, fun e => absurd hl e, fun _ => ⟨first, mem, rfl⟩⟩
    have shaft : ({ s.shaft with periodValid := false, timingQualified := false } : Shaft) = s.shaft := spoiled
    rw [halted, enterHalt_ready h, if_pos hl, shaft]
  · refine ⟨s.line, s.choices, ?_, fun _ => rfl, fun e => absurd e hl⟩
    push Not at hl
    rw [examineLevels_none (by simpa using hl.1) (by simpa using hl.2)]
    simp [hl]

/-! ## O44 -/

theorem recordBefore_empty {s : State} (h : s.chain.records = []) (p : Nat) : recordBefore s p = none := by
  unfold recordBefore recordAt
  split <;> simp [h]

/-- R89: what becomes of the fold target and of its settled flag (log 21). -/
theorem resetGumFold_gumFold (s : State) :
    (resetGumFold s).gumFold = { s.gumFold with
      progress := [], foldOpen := false, foldSeen := false, foldBarred := true
      foldTarget := (match s.gumFold.foldTarget with | .record _ => .absent | x => x)
      foldSettled := (match s.gumFold.foldTarget with | .record _ => false | _ => s.gumFold.foldSettled) } := by
  rw [resetGumFold, settledAfterReset]
  cases s.gumFold.foldTarget <;> rfl

/-- R145: the feed-inhibit set after LINE RESET, cause by cause. -/
theorem resetInhibit_causes (s : State) :
    resetInhibit s &&& 0x38 = s.line.feedInhibit &&& 0x38
      ∧ maskHas (resetInhibit s) FeedCause.packerBacklog.index
          = ((maskHas s.line.feedInhibit FeedCause.packerBacklog.index || backlogStarts s) && !backlogEnds s)
      ∧ maskHas (resetInhibit s) FeedCause.gumLow.index
          = (if (armedBank s).isSome then gumLow (resetTaken s) else maskHas s.line.feedInhibit FeedCause.gumLow.index)
      ∧ maskHas (resetInhibit s) FeedCause.patchSupply.index
          = (if (armedBank s).isSome then patchSupplyLow (resetTaken s)
              else maskHas s.line.feedInhibit FeedCause.patchSupply.index) := by
  have exclusive : backlogStarts s = true → backlogEnds s = false := fun h => by
    cases hb : s.batch.backlog <;> simp_all [backlogStarts, backlogEnds]
  have purged : purgedInhibit s &&& 0x38 = s.line.feedInhibit &&& 0x38
      ∧ maskHas (purgedInhibit s) FeedCause.packerBacklog.index
          = ((maskHas s.line.feedInhibit FeedCause.packerBacklog.index || backlogStarts s) && !backlogEnds s)
      ∧ ∀ c ≠ FeedCause.packerBacklog, maskHas (purgedInhibit s) c.index = maskHas s.line.feedInhibit c.index := by
    unfold purgedInhibit
    split
    · rename_i h
      exact ⟨maskSet_holds _ (by decide) _, by rw [maskHas_maskSet, if_pos rfl, h, exclusive h]; simp,
        fun c hc => by rw [maskHas_maskSet, if_neg (Ne.symm hc)]⟩
    · split
      · rename_i h
        exact ⟨maskSet_holds _ (by decide) _, by rw [maskHas_maskSet, if_pos rfl, h]; simp,
          fun c hc => by rw [maskHas_maskSet, if_neg (Ne.symm hc)]⟩
      · rename_i hs he
        exact ⟨rfl, by simp [hs, he], fun _ _ => rfl⟩
  obtain ⟨holds, backlog, others⟩ := purged
  unfold resetInhibit
  split
  · rw [maskSet_holds _ (by decide), maskSet_holds _ (by decide)]
    refine ⟨holds, ?_, ?_, ?_⟩
    · rw [maskHas_maskSet, if_neg (by decide), maskHas_maskSet, if_neg (by decide)]; exact backlog
    · rw [maskHas_maskSet, if_neg (by decide), maskHas_maskSet, if_pos rfl]
    · rw [maskHas_maskSet, if_pos rfl]
  · exact ⟨holds, backlog, others _ (by decide), others _ (by decide)⟩

/-- Settles O44: LINE RESET block by block. -/
theorem lineResetStartsTheLineAgain : Obligations.LineResetStartsTheLineAgain := by
  refine fun s => ⟨fun hready hhalt => ?_, fun hs pin => ?_⟩
  · have refused : ¬(s.line.state = .ready ∨ s.line.state = .halt) := not_or.mpr ⟨hready, hhalt⟩
    simp only [exec, execLineReset, noArguments, if_true, if_neg refused, conclude_answer]
  · intro purged starts ends levels armed released
    have idle : s.line.state ≠ .run := by rcases hs with h | h <;> simp [h]
    have units := unitsReset_written idle
    have taken := resetTaken_written idle
    have fields : ∀ k, fieldsOf (resetTaken s) k = fieldsOf s k := fun k =>
      (fieldsOf_takeChangeover (unitsReset s) k).trans (fieldsOf_unitsReset k)
    have banks := bankState_resetTaken idle
    obtain ⟨holds, backlog, gum, patch⟩ := resetInhibit_causes s
    have reset : lineReset s = examineLevels (resetTaken s) := lineReset_eq s
    generalize resetTaken s = x at *
    have ready : x.line.state = .ready := by rw [taken, units]
    have spoiled : (spoilPeriod x).shaft = x.shaft := by rw [taken, units]; rfl
    have sensors : x.sensors = s.sensors := by rw [taken, units]
    obtain ⟨line, index, examined, quiet, halts⟩ := examineLevels_ready ready spoiled
    have run : exec (.lineReset []) s = .next (conclude (answer .line .lineReset .ok [] (examineLevels x))) := by
      simp only [exec, execLineReset, noArguments, if_true, if_pos hs, reset]
    have pin' : (answer .line .lineReset .ok [] (examineLevels x)).sensors.resetPin = false := by
      rw [examined]; simpa [answer, sensors] using pin
    refine ⟨_, run, ?_⟩
    rw [conclude_eq _ pin', examined]
    rw [units] at taken
    rw [sensors] at quiet halts
    have chain : x.chain.records = [] := by rw [taken]
    have causes : levelCauses x = levelCauses s := by rw [levelCauses, levelCauses, sensors]
    have entry : ∀ first, haltEntryRecord first none x = { firstCause := some first, haltingLink := none
                                                           stateLeft := some .ready, phaseAtEntry := some s.shaft.phase
                                                           seqAtGate := none, further := 0
                                                           count := s.line.haltRecord.count + 1 } := fun first => by
      rw [haltEntryRecord, recordBefore_empty chain, ready, taken]; rfl
    have kept : line.holders = s.line.holders ∧ line.locked = s.line.locked ∧ line.feedInhibit = resetInhibit s := by
      by_cases hl : levels
      · obtain ⟨first, -, rfl⟩ := halts hl
        rw [taken]; exact ⟨rfl, rfl, rfl⟩
      · rw [quiet hl, taken]; exact ⟨rfl, rfl, rfl⟩
    obtain ⟨holders, locked, inhibit⟩ := kept
    refine ⟨?_, (congrArg State.chain taken :), (congrArg State.firing taken :), (congrArg State.geometry taken :),
      sensors,
      (congrArg State.verdicts taken :), (congrArg State.batch taken :), (congrArg State.registration taken :),
      (congrArg State.gumFold taken :).trans (resetGumFold_gumFold s), (congrArg State.shaft taken :), ?_, ?_, ?_, holders,
      locked, ?_, ?_, ?_, ?_, ?_, ?_, ?_⟩
    · by_cases hl : levels
      · obtain ⟨first, -, rfl⟩ := halts hl
        exact (if_pos hl).symm
      · rw [quiet hl]
        exact ready.trans (if_neg hl).symm
    · exact fields
    · exact fun b hb => (banks b).trans (if_pos hb)
    · intro b hb
      refine ((banks b).trans (if_neg hb)).trans (if_congr ?_ rfl rfl)
      simp [discardReleases, armed]
    · rw [← holds, ← inhibit]; rfl
    · rw [← inhibit] at backlog; exact backlog
    · rw [← inhibit] at gum
      exact gum.trans (if_congr Iff.rfl (gumLow_congr rfl rfl).symm rfl)
    · rw [← inhibit] at patch
      exact patch.trans (if_congr Iff.rfl (patchSupplyLow_congr rfl rfl).symm rfl)
    · intro hl
      have same := quiet hl
      exact ⟨(congrArg LineSequencer.haltRecord (same.trans (congrArg State.line taken)) :),
        (congrArg LineSequencer.closeFlag (same.trans (congrArg State.line taken)) :)⟩
    · intro hl
      obtain ⟨first, mem, rfl⟩ := halts hl
      rw [causes] at mem
      refine ⟨rfl, first, mem, ?_⟩
      rw [entry, causes]
      rfl
    · have ports : x.ports = portsPosted (resetEvents s) s.ports := (congrArg State.ports taken :)
      have posted : portsPosted (if x.sensors.estop = true ∨ x.sensors.jam = true then [.halted] else []) x.ports
          = portsPosted (resetEvents s ++ if levels then [.halted] else []) s.ports := by
        rw [sensors, ports, ← portsPosted_append]
      exact congrArg (portsAnswered .line .lineReset .ok [] []) posted

end Sys2Proof.Machine

/-! # What a step can do to the Pitch Chain (R23, R26 to R31, R36) -/

namespace Sys2Proof.Machine

/-! ## The records kept in place -/

/-- The records stand where they stood and the counters are kept, under the same geometry; where no two records share a
seq, each is changed only as a record in place may change. -/
structure KeepsRecords (s t : State) : Prop where
  places : t.chain.places = s.chain.places
  geometry : t.geometry = s.geometry
  config : t.line.state = .config ↔ s.line.state = .config
  records : UniqueSeqs s → RecordsKept s.geometry.posCount s t

theorem KeepsRecords.of_eq {s t : State} (chain : t.chain = s.chain) (geometry : t.geometry = s.geometry)
    (config : t.line.state = .config ↔ s.line.state = .config) : KeepsRecords s t :=
  ⟨by rw [chain], geometry, config, fun _ => .of_eq chain⟩

theorem KeepsRecords.refl (s : State) : KeepsRecords s s := .of_eq rfl rfl Iff.rfl

theorem KeepsRecords.trans {a b c : State} (h : KeepsRecords a b) (h' : KeepsRecords b c) : KeepsRecords a c :=
  ⟨h'.places.trans h.places, h'.geometry.trans h.geometry, h'.config.trans h.config, fun hu =>
    (h.records hu).trans (h.geometry ▸ h'.records (unique_of_places h.places hu))⟩

/-- A write to nothing that the chain, the geometry and the line state are made of. -/
theorem KeepsRecords.then_eq {s t u : State} (h : KeepsRecords s t) (chain : u.chain = t.chain)
    (geometry : u.geometry = t.geometry) (config : u.line.state = .config ↔ t.line.state = .config) :
    KeepsRecords s u :=
  h.trans (.of_eq chain geometry config)

theorem KeepsRecords.after_eq {s t u : State} (h : KeepsRecords t u) (chain : t.chain = s.chain)
    (geometry : t.geometry = s.geometry) (config : t.line.state = .config ↔ s.line.state = .config) :
    KeepsRecords s u :=
  KeepsRecords.trans (.of_eq chain geometry config) h

theorem crossings_keepsRecords (v : Bool) (lo hi : Nat) (s : State) : KeepsRecords s (crossings v lo hi s) :=
  ⟨by simp, by simp, by simp, fun hu => (inPlace_crossings _ v lo hi s hu rfl).records⟩

theorem raiseCause_keepsRecords (c : HaltCause) (l : Option Link) (s : State) : KeepsRecords s (raiseCause c l s) :=
  ⟨by simp, by simp, by simp, fun _ => kept_raiseCause _ c l s⟩

theorem beginDrain_keepsRecords (close : Bool) {s : State} (h : s.line.state = .run) :
    KeepsRecords s (beginDrain close s) := by
  refine ⟨by simp, by simp, by simp [beginDrain_config, h], fun _ => ?_⟩
  simp only [beginDrain]
  split
  · exact kept_completeDrain _ { s with line := { s.line with state := .drain, closeFlag := some close } }
  · exact .refl _ s

theorem markEdge_keepsRecords (s : State) : KeepsRecords s (markEdge s) :=
  ⟨by simp, by simp, by simp, fun _ => kept_markEdge _ s⟩

/-! ## The shaft events -/

theorem advanceCount_keepsRecords (v : Bool) (c : Nat) (s : State) : KeepsRecords s (advanceCount v c s) := by
  simp only [advanceCount]
  split
  · exact (crossings_keepsRecords _ _ _ (raiseHighWater (setCount c s))).after_eq rfl rfl Iff.rfl
  · exact .of_eq rfl rfl Iff.rfl

theorem addDebt_keepsRecords (s : State) : KeepsRecords s (addDebt s) :=
  addDebt_induct (KeepsRecords s) (fun _ _ h => h.then_eq rfl rfl Iff.rfl)
    (fun _ x h => h.trans (raiseCause_keepsRecords _ _ x)) s (.refl s)

theorem backwardCount_keepsRecords (s : State) : KeepsRecords s (backwardCount s) :=
  backwardCount_induct (KeepsRecords s) (fun _ _ h => h.then_eq rfl rfl Iff.rfl)
    (fun _ _ h => h.then_eq rfl rfl Iff.rfl) (fun _ x h => h.trans (raiseCause_keepsRecords _ _ x)) s (.refl s)

theorem checkMismatch_keepsRecords (d : Int) (s : State) : KeepsRecords s (checkMismatch d s) := by
  unfold checkMismatch
  split
  · exact .of_eq rfl rfl Iff.rfl
  · split
    · exact .of_eq rfl rfl Iff.rfl
    · exact (raiseCause_keepsRecords _ _ _).after_eq rfl rfl Iff.rfl

/-- Every block but the Pitch Chain keeps the records at a boundary. -/
theorem doBoundary_keepsRecords (n : Nat) (w v : Bool) {t : BoundaryTask} (ht : t ≠ .chain) (s : State) :
    KeepsRecords s (doBoundary n w v t s).2 :=
  ⟨congrArg Prod.fst (doBoundary_ledger n w v ht s), by simp, by simp, fun hu =>
    (inPlace_doBoundary _ n w v t s ht hu rfl).records⟩

theorem takenInOrder_keepsRecords (level : Bool) (s : State) :
    ∀ (order : List (BoundaryTask × Nat)) (x : State), (∀ t ∈ order, t.1 ≠ .chain) →
      KeepsRecords x (takenInOrder (boundaryWork level s) order x) := by
  intro order
  induction order with
  | nil => exact fun x _ => .refl x
  | cons t order ih =>
    intro x h
    have first : KeepsRecords x (boundaryWork level s t.1 { x with choices := t.2 }) :=
      (doBoundary_keepsRecords _ _ _ (h t List.mem_cons_self) { x with choices := t.2 }).after_eq rfl rfl Iff.rfl
    exact first.trans (ih _ fun u hu => h u (List.mem_cons_of_mem t hu))

/-- One chain operation, and before and after it only changes of records in place. -/
def MovesOnce (s t : State) : Prop := ∃ m, KeepsRecords s m ∧ KeepsRecords (chainBoundary m) t

theorem MovesOnce.then_keeps {a b c : State} (h : MovesOnce a b) (after : KeepsRecords b c) : MovesOnce a c := by
  obtain ⟨m, hm, hb⟩ := h
  exact ⟨m, hm, hb.trans after⟩

theorem MovesOnce.after_keeps {a b c : State} (h : MovesOnce b c) (before : KeepsRecords a b) : MovesOnce a c := by
  obtain ⟨m, hm, hc⟩ := h
  exact ⟨m, before.trans hm, hc⟩

/-- R7, R26: a forward boundary takes the chain operation once; the other blocks keep the records. -/
theorem pitchBoundary_movesOnce (level : Bool) (s : State) : MovesOnce s (pitchBoundary level s) := by
  obtain ⟨before, after, index, run, perm, causes, -⟩ := pitchBoundary_order level s
  have quiet : ∀ t ∈ before ++ after, t.1 ≠ .chain := by
    intro t ht
    have mem := perm.mem_iff.mp (List.map_append (f := Prod.fst) ▸ List.mem_map_of_mem (f := Prod.fst) ht)
    rintro hc
    rw [hc] at mem
    rcases List.mem_append.mp mem with mem | mem
    · rcases List.mem_append.mp mem with mem | mem
      · obtain ⟨c, h⟩ := boundaryCauses_cause mem
        cases h
      · simp [listeners] at mem
    · split at mem <;> simp at mem
  have moved : takenInOrder (boundaryWork level s) (before ++ [(.chain, index)]) (closePitch s)
      = chainBoundary { takenInOrder (boundaryWork level s) before (closePitch s) with choices := index } := by
    rw [takenInOrder_append]; rfl
  refine ⟨{ takenInOrder (boundaryWork level s) before (closePitch s) with choices := index }, ?_, ?_⟩
  · have closed : KeepsRecords s (closePitch s) := .of_eq rfl rfl Iff.rfl
    exact (closed.trans (takenInOrder_keepsRecords level s before _ fun t ht =>
      quiet t (List.mem_append_left _ ht))).then_eq rfl rfl Iff.rfl
  · rw [run, moved]
    exact takenInOrder_keepsRecords level s after _ fun t ht => quiet t (List.mem_append_right _ ht)

theorem forwardCount_moves (v : Bool) (s : State) :
    KeepsRecords s (forwardCount v s) ∨ MovesOnce s (forwardCount v s) := by
  unfold forwardCount
  split
  · exact .inl (advanceCount_keepsRecords _ _ _)
  · simp only [forwardWrap]
    split
    · exact .inr ((pitchBoundary_movesOnce v (setCount 0 s)).after_keeps (.of_eq rfl rfl Iff.rfl))
    · exact .inl (.of_eq rfl rfl Iff.rfl)

theorem realignAcross_movesOnce (v : Bool) (s : State) : MovesOnce s (realignAcross v s) := by
  have closing := crossings_keepsRecords v (max s.shaft.phase s.shaft.highWater) 4095 s
  have opened : MovesOnce s (openedAcross v s) := (pitchBoundary_movesOnce v _).after_keeps closing
  have counted : ∀ c x, KeepsRecords x (raiseHighWater (setCount c x)) := fun _ _ => .of_eq rfl rfl Iff.rfl
  exact opened.then_keeps ((counted _ _).trans (crossings_keepsRecords v 0 _ _))

theorem realign_moves (v : Bool) (d : Int) (s : State) :
    KeepsRecords s (realign v d s) ∨ MovesOnce s (realign v d s) := by
  unfold realign
  split
  · split
    · exact .inl (advanceCount_keepsRecords _ _ _)
    · exact .inr (realignAcross_movesOnce v s)
  · split
    · split
      · exact .inl (.of_eq rfl rfl Iff.rfl)
      · exact .inl ((addDebt_keepsRecords (setCount s.geometry.indexCount s)).after_eq rfl rfl Iff.rfl)
    · exact .inl (.refl s)

theorem indexEdge_moves (v : Bool) (s : State) : KeepsRecords s (indexEdge v s) ∨ MovesOnce s (indexEdge v s) := by
  simp only [indexEdge]
  split
  · have checked := checkMismatch_keepsRecords (indexDifference s) s
    rcases realign_moves v (indexDifference s) (checkMismatch (indexDifference s) s) with h | h
    · exact .inl ((checked.trans h).then_eq rfl rfl Iff.rfl)
    · exact .inr ((h.after_keeps checked).then_keeps (.of_eq rfl rfl Iff.rfl))
  · exact .inl (.refl s)

/-! ## Every command -/

/-- All that a command can do to the chain, and with it to the geometry and CONFIG. -/
inductive ChainEffect (s t : State) : Prop
  /-- Most commands: the records are changed in place at most. -/
  | kept (h : KeepsRecords s t)
  /-- A forward boundary (R26). -/
  | moved (h : MovesOnce s t)
  /-- VERDICT (R97). -/
  | judged (q : Seq) (result : VerdictResult) (cause : Nat)
      (chain : t.chain = (takeVerdict q result cause s).2.chain) (geometry : t.geometry = s.geometry)
      (state : t.line.state = s.line.state)
  /-- LINE RESET (R36). -/
  | purged (places : t.chain.places = (discardRecords s).chain.places) (geometry : t.geometry = s.geometry)
      (before : s.line.state ≠ .config) (after : t.line.state ≠ .config)
  /-- WRITE GEOMETRY in CONFIG, and RELEASE GEOMETRY with the chain empty (R135, R137). -/
  | unlocked (empty : s.line.state = .config ∨ s.chain.records = []) (chain : t.chain = s.chain)
      (config : t.line.state = .config)
  /-- COMMIT GEOMETRY (R136). -/
  | locked (config : s.line.state = .config) (checks : firstFailure (geometryChecks s.geometry) = none)
      (places : t.chain.places = s.chain.places) (geometry : t.geometry = s.geometry)
      (after : t.line.state ≠ .config)
  /-- Power-on values (R38). -/
  | restarted (chain : t.chain = ⟨[], 0, 0, 0, 0, 0⟩) (config : t.line.state = .config)

namespace ChainEffect

variable {s t u : State}

/-- The effect on the chain is told by the chain, the geometry and the line state after. -/
theorem then_eq (h : ChainEffect s t) (chain : u.chain = t.chain) (geometry : u.geometry = t.geometry)
    (state : u.line.state = t.line.state) : ChainEffect s u := by
  have keeps : KeepsRecords t u := .of_eq chain geometry (by rw [state])
  cases h with
  | kept h => exact .kept (h.trans keeps)
  | moved h => exact .moved (h.then_keeps keeps)
  | judged q result cause c g l =>
    exact .judged q result cause (chain.trans c) (geometry.trans g) (state.trans l)
  | purged p g before after => exact .purged (keeps.places.trans p) (geometry.trans g) before (state ▸ after)
  | unlocked e c l => exact .unlocked e (chain.trans c) (state.trans l)
  | locked l checks p g after => exact .locked l checks (keeps.places.trans p) (geometry.trans g) (state ▸ after)
  | restarted c l => exact .restarted (chain.trans c) (state.trans l)

theorem answered (h : ChainEffect s t) (l : Link) (c : Command) (status : Status) (payload : List Byte) :
    ChainEffect s (answer l c status payload t) := h.then_eq rfl rfl rfl

/-- A request that is refused, or that only reads. -/
theorem read (s : State) (l : Link) (c : Command) (status : Status) (payload : List Byte) :
    ChainEffect s (answer l c status payload s) := (kept (.refl s)).answered l c status payload

theorem concluded (h : ChainEffect s t) : ChainEffect s (conclude t) := by
  cases hp : t.sensors.resetPin with
  | false => exact h.then_eq (by simp [hp]) (by simp [hp]) (by simp [hp])
  | true =>
    have held : underReset t = .powerOn t.shaft.pairA t.shaft.pairB t.sensors t.choices t.pending := if_pos hp
    exact .restarted (by rw [conclude, held]; rfl) (by rw [conclude, held]; rfl)

/-- A shaft event, after the writes to the Shaft Tracker that it begins with. -/
theorem of_moves (start : KeepsRecords s t) (h : KeepsRecords t u ∨ MovesOnce t u) : ChainEffect s u :=
  h.elim (fun h => .kept (start.trans h)) (fun h => .moved (h.after_keeps start))

end ChainEffect

theorem commitGeometry_chainEffect {s : State} (h : s.line.state = .config)
    (checks : firstFailure (geometryChecks s.geometry) = none) : ChainEffect s (commitGeometry s) :=
  .locked h checks (by simp) (by simp) (commitGeometry_config s)

theorem lineReset_chainEffect {s : State} (h : s.line.state ≠ .config) : ChainEffect s (lineReset s) := by
  have discarded : (discardRecords (purgeBatch s)).chain = (discardRecords s).chain := by simp [discardRecords_chain]
  exact .purged (by simp [lineReset, discarded]) (by simp) h (lineReset_config s)

/-- Every command concludes a state whose chain is one of those. -/
theorem exec_chainEffect (i : Instr) (s : State) :
    ∃ x, exec i s = .next (conclude x) ∧ ChainEffect s x := by
  have raised : ∀ (c : HaltCause) (l : Option Link) {x : State}, KeepsRecords s x →
      ChainEffect s (raiseCause c l x) := fun c l x hx => .kept (hx.trans (raiseCause_keepsRecords c l x))
  cases i with
  | powerOnReset asserted pair => exact ⟨_, rfl, .restarted rfl rfl⟩
  | forwardCountStep elapsed level =>
    have start : KeepsRecords s (steppedForward elapsed s) := .of_eq rfl rfl Iff.rfl
    exact ⟨_, rfl, .of_moves start (forwardCount_moves level (steppedForward elapsed s))⟩
  | backwardCountStep =>
    exact ⟨_, rfl, .kept ((backwardCount_keepsRecords (steppedBackward s)).after_eq rfl rfl Iff.rfl)⟩
  | indexEdge elapsed level =>
    have start : KeepsRecords s (passTime elapsed s) := .of_eq rfl rfl Iff.rfl
    exact ⟨_, rfl, .of_moves start (indexEdge_moves level (passTime elapsed s))⟩
  | markEdge => exact ⟨_, rfl, .kept (markEdge_keepsRecords s)⟩
  | estopChange level =>
    refine ⟨_, rfl, ?_⟩
    split
    · exact raised _ _ (.of_eq rfl rfl Iff.rfl)
    · exact .kept (.of_eq rfl rfl Iff.rfl)
  | jamChange level =>
    refine ⟨_, rfl, ?_⟩
    split
    · exact raised _ _ (.of_eq rfl rfl Iff.rfl)
    · exact .kept (.of_eq rfl rfl Iff.rfl)
  | halt l p =>
    refine ⟨_, rfl, ?_⟩
    split
    · exact .read ..
    · split
      · exact .read ..
      · exact (raised _ _ (.refl s)).answered ..
  | writeGeometry p =>
    refine ⟨_, rfl, ?_⟩
    split
    · exact .read ..
    · split
      · rename_i hs
        exact .unlocked (.inl hs) (by simp) (by simpa using hs)
      · exact .read ..
  | commitGeometry p =>
    refine ⟨_, rfl, ?_⟩
    split
    · exact .read ..
    · split
      · rename_i hs
        split
        · exact .read ..
        · rename_i checks
          exact (commitGeometry_chainEffect hs checks).answered ..
      · exact .read ..
  | releaseGeometry p =>
    refine ⟨_, rfl, ?_⟩
    split
    · exact .read ..
    · split
      · rename_i hs
        exact .unlocked (.inr hs.2) (by simp) (by simp)
      · exact .read ..
  | start p =>
    refine ⟨_, rfl, ?_⟩
    split
    · exact .read ..
    · split
      · rename_i hs
        exact .kept (.of_eq (by simp) (by simp) (by simp [hs.1]))
      · exact .read ..
  | drain p =>
    refine ⟨_, rfl, ?_⟩
    split
    · exact .read ..
    · split
      · rename_i hs
        exact (ChainEffect.kept (beginDrain_keepsRecords _ hs)).answered ..
      · exact .read ..
  | clearHalt p =>
    refine ⟨_, rfl, ?_⟩
    split
    · exact .read ..
    · split
      · rename_i hs
        exact .kept (.of_eq (by simp) (by simp) (by simp [hs.1]))
      · exact .read ..
  | lineReset p =>
    refine ⟨_, rfl, ?_⟩
    split
    · exact .read ..
    · split
      · rename_i hs
        exact (lineReset_chainEffect (by rcases hs with hs | hs <;> simp [hs])).answered ..
      · exact .read ..
  | readTriggers p =>
    refine ⟨_, rfl, ?_⟩
    split
    · exact .read ..
    · dsimp only
      split
      · exact .read ..
      · exact .kept (.of_eq rfl rfl Iff.rfl)
  | verdict p =>
    refine ⟨_, rfl, ?_⟩
    split
    · exact .read ..
    · exact .judged _ _ _ rfl (by simp) (by simp)
  | _ =>
    -- The other commands write nothing of the chain, the geometry or the line state.
    refine ⟨_, rfl, .kept (.of_eq ?_ ?_ ?_)⟩ <;> (repeat' split) <;> simp

/-- A step does one of those things to the chain, from the state with the queue's rest. -/
theorem step_chainEffect {s t : State} (h : step s = .next t) :
    ∃ rest, ChainEffect { s with pending := rest } t := by
  unfold step at h
  split at h
  · cases h
    refine ⟨s.pending, .kept ?_⟩
    unfold tick
    split
    · exact .refl s
    · exact .of_eq rfl rfl Iff.rfl
  · rename_i c rest _
    obtain ⟨x, hx, effect⟩ := exec_chainEffect c { s with pending := rest }
    rw [hx] at h
    cases h
    exact ⟨rest, effect.concluded⟩

end Sys2Proof.Machine

/-! # The accounts of the chain (R21, R34) -/

namespace Sys2Proof.Machine

/-- The accounts speak of the counters and of how many records there are. -/
theorem accounts_of_places {s t : State} (h : Accounts s) (hp : t.chain.places = s.chain.places) : Accounts t := by
  simp only [Chain.places, Prod.mk.injEq] at hp
  obtain ⟨records, next, fed, good, rejected, purged⟩ := hp
  have length : t.chain.records.length = s.chain.records.length := by
    simpa using congrArg List.length records
  simpa only [Accounts, next, fed, good, rejected, purged, length] using h

theorem KeepsRecords.accounts {s t : State} (h : KeepsRecords s t) (hs : Accounts s) : Accounts t :=
  accounts_of_places hs h.places

theorem created_length (s : State) : (created s).length = if mayFeed s then 1 else 0 := by
  unfold created
  by_cases hf : mayFeed s = true
  · obtain ⟨b, hb⟩ := feedBank_isSome hf
    simp [hf, hb]
  · simp [hf]

/-- R27 to R30: each record that leaves is counted once, and the one created is fed. -/
theorem chainBoundary_accounts {s : State} (h : Accounts s) : Accounts (chainBoundary s) := by
  obtain ⟨fed, next⟩ := h
  have split := leaving_lengths s.geometry s.chain.records
  simp only [Accounts, chainBoundary_chain, List.length_append, created_length, movedUp, List.length_map, addCount]
  constructor
  · have fedOne : BitVec.ofNat 32 (if mayFeed s then 1 else 0) = if mayFeed s then 1 else 0 := by split <;> rfl
    rw [fed, ← split]
    simp only [BitVec.ofNat_add, fedOne]
    ring
  · rw [next, BitVec.setWidth_add _ _ (by decide)]
    split <;> rfl

theorem MovesOnce.accounts {s t : State} (h : MovesOnce s t) (hs : Accounts s) : Accounts t := by
  obtain ⟨m, before, after⟩ := h
  exact after.accounts (chainBoundary_accounts (before.accounts hs))

/-- R36: every record discarded is counted as purged. -/
theorem discardRecords_accounts {s : State} (h : Accounts s) : Accounts (discardRecords s) := by
  obtain ⟨fed, next⟩ := h
  simp only [Accounts, discardRecords_chain, addCount, List.length_nil]
  refine ⟨?_, next⟩
  rw [fed]
  exact (BitVec.add_zero _).symm.trans (by ring)

theorem ChainEffect.accounts {s t : State} (h : ChainEffect s t) (hs : Accounts s) : Accounts t := by
  cases h with
  | kept h => exact h.accounts hs
  | moved h => exact h.accounts hs
  | judged q result cause chain => exact accounts_of_places hs (by rw [chain, takeVerdict_places])
  | purged places => exact accounts_of_places (discardRecords_accounts hs) places
  | unlocked empty chain => exact accounts_of_places hs (by rw [chain])
  | locked config checks places => exact accounts_of_places hs places
  | restarted chain => rw [Accounts, chain]; decide

/-- Settles O7: the accounts hold at the power-on values and every effect on the chain keeps them. -/
theorem stepsKeepTheAccounts : Obligations.StepsKeepTheAccounts := by
  refine ⟨fun pin pair s t h => ?_, fun s t hs h => ?_⟩
  · cases h
    have restarted : ∀ sensors choices queue,
        ChainEffect State.reset (.powerOn pair.1 pair.2 sensors choices queue) := fun _ _ _ => .restarted rfl rfl
    exact (restarted _ _ _).concluded.accounts resetMeetsEveryLaw.1
  · obtain ⟨rest, effect⟩ := step_chainEffect h
    exact effect.accounts hs

end Sys2Proof.Machine

/-! # The places of the records (R20, R37) -/

namespace Sys2Proof.Machine

/-! ## Records in the order of their creation -/

/-- R20: records at rising positions up to `n`, in the order of their creation, each created no earlier than its position
allows. -/
def Standing (n : Nat) (next : Seq) (records : List Record) : Prop :=
  records.Pairwise (fun x y => x.position < y.position ∧ x.age next < y.age next)
    ∧ ∀ r ∈ records, r.position ≤ n ∧ 1 ≤ r.age next ∧ r.age next ≤ r.position + 1

theorem chainLaw_iff (s : State) :
    ChainLaw s ↔ (s.line.state = .config → s.chain.records = [])
      ∧ (s.line.state ≠ .config → s.geometry.posGate < s.geometry.posCount ∧ s.geometry.posCount ≤ 47)
      ∧ Standing s.geometry.posCount s.chain.nextSeq s.chain.records := Iff.rfl

theorem standing_nil (n : Nat) (next : Seq) : Standing n next [] := ⟨.nil, by simp⟩

/-- Only the places of the records are spoken of. -/
theorem standing_of_places {n : Nat} {next : Seq} {l l' : List Record} (h : Standing n next l)
    (hp : l'.map Record.place = l.map Record.place) : Standing n next l' := by
  have told : ∀ records : List Record, Standing n next records ↔
      (records.map Record.place).Pairwise (fun x y => x.2.2 < y.2.2 ∧ (next - x.1).toNat < (next - y.1).toNat)
        ∧ ∀ p ∈ records.map Record.place,
            p.2.2 ≤ n ∧ 1 ≤ (next - p.1).toNat ∧ (next - p.1).toNat ≤ p.2.2 + 1 := by
    intro records
    rw [List.pairwise_map, List.forall_mem_map]
    exact Iff.rfl
  rw [told, hp, ← told]
  exact h

/-- The next creation makes a record one older, short of a whole turn of the seqs (R21). -/
theorem age_succ {next : Seq} {r : Record} (h : r.age next + 1 < 2 ^ 24) : r.age (next + 1) = r.age next + 1 := by
  unfold Record.age at *
  bv_omega

/-- R27 to R29: those that stay are below pos_COUNT, and move up by one. -/
theorem movedUp_standing {s : State} (h : Standing s.geometry.posCount s.chain.nextSeq s.chain.records) :
    Standing s.geometry.posCount s.chain.nextSeq (movedUp s)
      ∧ ∀ r ∈ movedUp s, 1 ≤ r.position ∧ r.age s.chain.nextSeq ≤ r.position := by
  obtain ⟨order, ranges⟩ := h
  have up : ∀ r ∈ movedUp s, ∃ x ∈ s.chain.records, x.position ≠ s.geometry.posCount
      ∧ r = { x with position := x.position + 1 } := by
    intro r hr
    obtain ⟨x, hx, rfl⟩ := List.mem_map.mp hr
    obtain ⟨mem, stays⟩ := List.mem_filter.mp hx
    rw [staysInChain_eq] at stays
    simp only [Bool.and_eq_true, bne_iff_ne] at stays
    exact ⟨x, mem, stays.1, rfl⟩
  refine ⟨⟨?_, ?_⟩, ?_⟩
  · exact List.pairwise_map.mpr ((order.filter _).imp fun h => ⟨Nat.succ_lt_succ h.1, h.2⟩)
  · intro r hr
    obtain ⟨x, mem, below, rfl⟩ := up r hr
    obtain ⟨last, first, age⟩ := ranges x mem
    exact ⟨by dsimp only; omega, first, Nat.le_succ_of_le age⟩
  · intro r hr
    obtain ⟨x, mem, -, rfl⟩ := up r hr
    exact ⟨Nat.le_add_left _ _, (ranges x mem).2.2⟩

/-- R21, R30: a record created at position 0 comes before those that have moved on. -/
theorem fed_standing {n : Nat} {next : Seq} {records : List Record} (h : Standing n next records) (hn : n ≤ 47)
    (moved : ∀ r ∈ records, 1 ≤ r.position ∧ r.age next ≤ r.position) (b : BankId) (f : BankFields) :
    Standing n (next + 1) (newRecord next b f :: records) := by
  obtain ⟨order, ranges⟩ := h
  have older : ∀ r ∈ records, r.age (next + 1) = r.age next + 1 := fun r hr =>
    age_succ (by have := ranges r hr; omega)
  have newest : (newRecord next b f).age (next + 1) = 1 := by
    simp [Record.age, newRecord, add_sub_cancel_left]
  refine ⟨List.pairwise_cons.mpr ⟨?_, ?_⟩, ?_⟩
  · intro r hr
    obtain ⟨above, -⟩ := moved r hr
    have := ranges r hr
    exact ⟨above, by rw [newest, older r hr]; omega⟩
  · refine order.imp_of_mem fun {x y} hx hy h => ?_
    rw [older x hx, older y hy]
    exact ⟨h.1, Nat.succ_lt_succ h.2⟩
  · intro r hr
    rcases List.mem_cons.mp hr with rfl | hr
    · rw [newest]; exact ⟨Nat.zero_le _, Nat.le_refl _, Nat.le_refl _⟩
    · rw [older r hr]
      exact ⟨(ranges r hr).1, by omega, Nat.succ_le_succ (moved r hr).2⟩

/-! ## The law after each effect on the chain -/

theorem chainLaw_of_places {s t : State} (law : ChainLaw s) (places : t.chain.places = s.chain.places)
    (geometry : t.geometry = s.geometry) (config : t.line.state = .config ↔ s.line.state = .config) : ChainLaw t := by
  obtain ⟨empty, checked, standing⟩ := (chainLaw_iff s).mp law
  have next : t.chain.nextSeq = s.chain.nextSeq := congrArg (fun p => p.2.1) places
  refine (chainLaw_iff t).mpr ⟨fun hc => records_nil_of_places places (empty (config.mp hc)), fun hc => ?_, ?_⟩
  · rw [geometry]; exact checked fun hs => hc (config.mpr hs)
  · rw [geometry, next]; exact standing_of_places standing (congrArg Prod.fst places)

theorem KeepsRecords.chainLaw {s t : State} (h : KeepsRecords s t) (law : ChainLaw s) : ChainLaw t :=
  chainLaw_of_places law h.places h.geometry h.config

theorem mayFeed_run {s : State} (h : mayFeed s = true) : s.line.state = .run := by
  simp only [mayFeed, Bool.and_eq_true, beq_iff_eq] at h
  exact h.1.1

/-- R26 to R30: the chain operation keeps the order and the places. -/
theorem chainBoundary_chainLaw {s : State} (law : ChainLaw s) : ChainLaw (chainBoundary s) := by
  obtain ⟨empty, checked, standing⟩ := (chainLaw_iff s).mp law
  obtain ⟨moved, later⟩ := movedUp_standing standing
  rw [chainLaw_iff, chainBoundary_line_state, chainBoundary_geometry, chainBoundary_chain]
  refine ⟨fun hc => ?_, checked, ?_⟩
  · have idle : mayFeed s ≠ true := fun hf => by rw [mayFeed_run hf] at hc; cases hc
    simp [created, movedUp, idle, empty hc]
  · by_cases hf : mayFeed s = true
    · obtain ⟨b, hb⟩ := feedBank_isSome hf
      have run := mayFeed_run hf
      simpa [created, hf, hb] using
        fed_standing moved (checked (by simp [run])).2 later b (fieldsOf s b)
    · simpa [created, hf] using moved

theorem MovesOnce.chainLaw {s t : State} (h : MovesOnce s t) (law : ChainLaw s) : ChainLaw t := by
  obtain ⟨m, before, after⟩ := h
  exact after.chainLaw (chainBoundary_chainLaw (before.chainLaw law))

/-- With the chain empty only the geometry outside CONFIG is left to check. -/
theorem chainLaw_of_empty {s : State} (empty : s.chain.records = [])
    (checked : s.line.state ≠ .config → s.geometry.posGate < s.geometry.posCount ∧ s.geometry.posCount ≤ 47) :
    ChainLaw s :=
  (chainLaw_iff s).mpr ⟨fun _ => empty, checked, empty ▸ standing_nil _ _⟩

/-- R136: a geometry that passes check 11 has its gate below pos_COUNT. -/
theorem posGate_lt_of_checks {g : Geometry} (h : firstFailure (geometryChecks g) = none) :
    g.posGate < g.posCount ∧ g.posCount ≤ 47 := by
  have check := (firstFailure_none_iff _).mp h
    (11, decide (1 ≤ g.posCount ∧ g.posCount ≤ 47 ∧ g.posGate < g.posCount)) (by simp [geometryChecks])
  obtain ⟨-, last, gate⟩ := of_decide_eq_true check
  exact ⟨gate, last⟩

/-- LINE RESET leaves no record (R36). -/
theorem records_nil_of_discard {s t : State} (places : t.chain.places = (discardRecords s).chain.places) :
    t.chain.records = [] :=
  records_nil_of_places places (by rw [discardRecords_chain])

theorem ChainEffect.chainLaw {s t : State} (h : ChainEffect s t) (law : ChainLaw s) : ChainLaw t := by
  have checked := law.2.1
  cases h with
  | kept h => exact h.chainLaw law
  | moved h => exact h.chainLaw law
  | judged q result cause chain geometry state =>
    exact chainLaw_of_places law (by rw [chain, takeVerdict_places]) geometry (by rw [state])
  | purged places geometry before after =>
    exact chainLaw_of_empty (records_nil_of_discard places) fun _ => geometry ▸ checked before
  | unlocked empty chain config =>
    exact chainLaw_of_empty (by rw [chain]; exact empty.elim law.1 id) fun hc => absurd config hc
  | locked config checks places geometry =>
    exact chainLaw_of_empty (records_nil_of_places places (law.1 config))
      fun _ => geometry ▸ posGate_lt_of_checks checks
  | restarted chain config => exact chainLaw_of_empty (by rw [chain]) fun hc => absurd config hc

/-- Settles O8: every effect on the chain keeps the law. -/
theorem stepsKeepTheChainLaw : Obligations.StepsKeepTheChainLaw := by
  intro s t law h
  obtain ⟨rest, effect⟩ := step_chainEffect h
  exact effect.chainLaw law

end Sys2Proof.Machine

/-! # How a step changes the records (R23 to R30, R91, R97, R101, R106) -/

namespace Sys2Proof.Machine

/-! ## A record kept in place -/

/-- Records kept in place come each from one that stood there. -/
theorem RecordsKept.exists_of_mem {n : Nat} {s t : State} (h : RecordsKept n s t) {r' : Record}
    (hr : r' ∈ t.chain.records) : ∃ r ∈ s.chain.records, Record.Kept n r r' := by
  have from_list : ∀ {l l' : List Record}, List.Forall₂ (Record.Kept n) l l' → r' ∈ l' →
      ∃ r ∈ l, Record.Kept n r r' := by
    intro l l' h
    induction h with
    | nil => exact fun h => absurd h List.not_mem_nil
    | @cons r x l l' kept _ ih =>
      intro mem
      rcases List.mem_cons.mp mem with rfl | mem
      · exact ⟨r, List.mem_cons_self, kept⟩
      · obtain ⟨y, hy, k⟩ := ih mem
        exact ⟨y, List.mem_cons_of_mem r hy, k⟩
  exact from_list h hr

theorem KeepsRecords.exists_of_mem {s t : State} (h : KeepsRecords s t) (law : ChainLaw s) {r' : Record}
    (hr : r' ∈ t.chain.records) : ∃ r ∈ s.chain.records, Record.Kept s.geometry.posCount r r' :=
  (h.records (unique_of_law law)).exists_of_mem hr

theorem Record.Kept.position {n : Nat} {r r' : Record} (h : Record.Kept n r r') : r'.position = r.position :=
  congrArg (fun p => p.2.2) h.place

theorem Record.Kept.seq {n : Nat} {r r' : Record} (h : Record.Kept n r r') : r'.seq = r.seq :=
  congrArg Prod.fst h.place

theorem Record.Kept.bank {n : Nat} {r r' : Record} (h : Record.Kept n r r') : r'.bank = r.bank :=
  congrArg (fun p => p.2.1) h.place

/-! ## The records after VERDICT and after the chain operation -/

/-- R96, R97: the record judged was PENDING and UNDECIDED; every other is left as it was. -/
theorem takeVerdict_records {s : State} (law : ChainLaw s) (q : Seq) (result : VerdictResult) (cause : Nat)
    {r' : Record} (hr : r' ∈ (takeVerdict q result cause s).2.chain.records) :
    r' ∈ s.chain.records
      ∨ ∃ r ∈ s.chain.records, r.fate = .undecided ∧ r.verdict = .pending ∧ r' = applyVerdict result cause r := by
  unfold takeVerdict at hr
  split at hr
  · exact .inl hr
  · rename_i r found
    split at hr
    · exact .inl hr
    · rename_i expected
      split at hr
      · exact .inl hr
      · rename_i timely
        split at hr
        · exact .inl hr
        · rename_i unjudged
          obtain ⟨x, mem, rfl⟩ := List.mem_map.mp hr
          split
          · rename_i same
            obtain ⟨stands, seq⟩ := mem_bySeq found
            have : x = r := (unique_of_law law).eq mem stands ((by simpa using same : x.seq = q).trans seq.symm)
            subst this
            push Not at expected timely unjudged
            have pending : x.verdict = .pending := by cases hv : x.verdict <;> simp_all
            exact .inr ⟨x, mem, timely.1, pending, rfl⟩
          · exact .inl mem

/-- R27 to R30: a record after the chain operation is the one created, or one that stayed and moved up by one. -/
theorem chainBoundary_records {s : State} {r' : Record} (hr : r' ∈ (chainBoundary s).chain.records) :
    (∃ b, r' = newRecord s.chain.nextSeq b (fieldsOf s b))
      ∨ ∃ r ∈ s.chain.records, staysInChain s.geometry r = true ∧ r' = { r with position := r.position + 1 } := by
  rw [chainBoundary_chain] at hr
  rcases List.mem_append.mp hr with hr | hr
  · unfold created at hr
    split at hr
    · rename_i hf
      obtain ⟨b, hb⟩ := feedBank_isSome hf
      exact .inl ⟨b, by simpa [hb] using hr⟩
    · simp at hr
  · obtain ⟨r, hmem, rfl⟩ := List.mem_map.mp hr
    obtain ⟨mem, stays⟩ := List.mem_filter.mp hmem
    exact .inr ⟨r, mem, stays, rfl⟩

/-- What an effect leaves of the records, by the three ways in which it can change them. -/
theorem ChainEffect.records {s t : State} (h : ChainEffect s t) (law : ChainLaw s) :
    t.chain.records = [] ∨ KeepsRecords s t ∨ MovesOnce s t
      ∨ ∃ q result cause, t.chain = (takeVerdict q result cause s).2.chain ∧ t.geometry = s.geometry := by
  cases h with
  | kept h => exact .inr (.inl h)
  | moved h => exact .inr (.inr (.inl h))
  | judged q result cause chain geometry => exact .inr (.inr (.inr ⟨q, result, cause, chain, geometry⟩))
  | purged places => exact .inl (records_nil_of_discard places)
  | unlocked empty chain => exact .inl (by rw [chain]; exact empty.elim law.1 id)
  | locked config checks places => exact .inl (records_nil_of_places places (law.1 config))
  | restarted chain => exact .inl (by rw [chain])

/-! ## Sound records (R25, R27, R65, R97, R101, R106) -/

/-- What RecordsSound says of one record under a geometry. -/
structure Record.SoundAt (g : Geometry) (r : Record) : Prop where
  sound : r.Sound
  passed : g.posGate < r.position → r.fate = .pass ∨ r.fate = .passUnverified
  counted : r.counted = true → r.position = g.posCount

theorem recordsSound_iff (s : State) : RecordsSound s ↔ ∀ r ∈ s.chain.records, r.SoundAt s.geometry :=
  forall₂_congr fun _ _ => ⟨fun ⟨a, b, c⟩ => ⟨a, b, c⟩, fun h => ⟨h.sound, h.passed, h.counted⟩⟩

theorem Record.Kept.soundAt {g : Geometry} {r r' : Record} (h : Record.Kept g.posCount r r') (hr : r.SoundAt g) :
    r'.SoundAt g where
  sound := h.sound hr.sound
  passed above := by
    have fate := hr.passed (h.position ▸ above)
    rwa [(h.closed (by rcases fate with e | e <;> simp [e])).1]
  counted hc := by
    rw [h.position]
    exact (h.countAt hc).elim hr.counted id

theorem KeepsRecords.recordsSound {s t : State} (h : KeepsRecords s t) (law : ChainLaw s) (hs : RecordsSound s) :
    RecordsSound t := by
  rw [recordsSound_iff] at *
  intro r' hr'
  obtain ⟨r, hr, kept⟩ := h.exists_of_mem law hr'
  rw [h.geometry]
  exact kept.soundAt (hs r hr)

theorem newRecord_soundAt (g : Geometry) (q : Seq) (b : BankId) (f : BankFields) : (newRecord q b f).SoundAt g where
  sound := by
    refine ⟨by simp [newRecord], ?_, ?_, by simp [newRecord], by simp [newRecord]⟩ <;>
      simp only [newRecord] <;> split <;> simp
  passed := fun h => absurd h (Nat.not_lt_zero _)
  counted := by simp [newRecord]

/-- R27, R106: what stays at pos_GATE has passed, and what is counted has left. -/
theorem movedUp_soundAt {g : Geometry} {r : Record} (stays : staysInChain g r = true) (hr : r.SoundAt g) :
    ({ r with position := r.position + 1 } : Record).SoundAt g where
  sound := hr.sound
  passed above := by
    rw [staysInChain_eq] at stays
    rcases Nat.lt_or_eq_of_le (Nat.le_of_lt_succ above) with h | h
    · exact hr.passed h
    · cases hf : r.fate <;> simp_all
  counted hc := by
    rw [staysInChain_eq] at stays
    have := hr.counted hc
    simp_all

theorem chainBoundary_recordsSound {s : State} (hs : RecordsSound s) : RecordsSound (chainBoundary s) := by
  rw [recordsSound_iff] at *
  intro r' hr'
  rw [chainBoundary_geometry]
  rcases chainBoundary_records hr' with ⟨b, rfl⟩ | ⟨r, hr, stays, rfl⟩
  · exact newRecord_soundAt _ _ _ _
  · exact movedUp_soundAt stays (hs r hr)

theorem MovesOnce.recordsSound {s t : State} (h : MovesOnce s t) (law : ChainLaw s) (hs : RecordsSound s) :
    RecordsSound t := by
  obtain ⟨m, before, after⟩ := h
  have moved := chainBoundary_recordsSound (before.recordsSound law hs)
  exact after.recordsSound (chainBoundary_chainLaw (before.chainLaw law)) moved

/-- R97: an accepted verdict keeps its cause and its reason with it. -/
theorem applyVerdict_soundAt {g : Geometry} {r : Record} (hf : r.fate = .undecided) (hv : r.verdict = .pending)
    (hr : r.SoundAt g) (result : VerdictResult) (cause : Nat) : (applyVerdict result cause r).SoundAt g := by
  obtain ⟨⟨passes, hasCause, bad, shift, range⟩, passed, counted⟩ := hr
  cases result with
  | good =>
    have noCause : (applyVerdict .good cause r).verdictCause.isSome = true ↔ Verdict.good = .bad := by
      simpa [applyVerdict, hv] using hasCause
    exact ⟨⟨passes, noCause, by simp [applyVerdict], shift, range⟩, passed, counted⟩
  | bad =>
    have added : applyVerdict .bad cause r = { r with
        reasons := maskAdd r.reasons Reason.verdictBad.index, verdict := .bad, verdictCause := some cause } := by
      simp [applyVerdict, Record.addReason, hf]
    rw [added]
    refine ⟨⟨by simp [hf], by simp, fun _ => ?_, shift, range⟩, passed, counted⟩
    simp [maskHas, maskAdd, Reason.index]

theorem ChainEffect.recordsSound {s t : State} (h : ChainEffect s t) (law : ChainLaw s) (hs : RecordsSound s) :
    RecordsSound t := by
  rcases h.records law with empty | kept | moved | ⟨q, result, cause, chain, geometry⟩
  · exact fun r hr => absurd (empty ▸ hr) List.not_mem_nil
  · exact kept.recordsSound law hs
  · exact moved.recordsSound law hs
  · rw [recordsSound_iff] at *
    intro r' hr'
    rw [geometry]
    rcases takeVerdict_records law q result cause (chain ▸ hr') with hr | ⟨r, hr, undecided, pending, rfl⟩
    · exact hs r' hr
    · exact applyVerdict_soundAt undecided pending (hs r hr) result cause

/-- Settles O9: every effect on the chain keeps the records sound. -/
theorem stepsKeepRecordsSound : Obligations.StepsKeepRecordsSound := by
  intro s t law hs h
  obtain ⟨rest, effect⟩ := step_chainEffect h
  exact effect.recordsSound law hs

/-! ## What may change of a record (R23, R24, R29, R30, R91, R101) -/

theorem Record.Kept.follows {n : Nat} {r r' : Record} (h : Record.Kept n r r') : r.Follows r' :=
  ⟨h.seq, h.bank, by rw [h.position], by rw [h.position]; exact Nat.le_succ _, h.mono, h.closed,
    h.verdict.imp Eq.symm .inl, h.counted⟩

/-- A record changed in place, moved up by one, and changed in place again. -/
theorem Record.Follows.of_moved {n n' : Nat} {r x r' : Record} (before : Record.Kept n r x)
    (after : Record.Kept n' { x with position := x.position + 1 } r') : r.Follows r' := by
  have position : r'.position = r.position + 1 := by rw [after.position, before.position]
  refine ⟨after.seq.trans before.seq, after.bank.trans before.bank, by omega, by omega,
    mono_trans before.mono after.mono, fun hf => ?_, ?_, fun hc => after.counted (before.counted hc)⟩
  · obtain ⟨fate, reasons⟩ := before.closed hf
    obtain ⟨fate', reasons'⟩ := after.closed (fate ▸ hf : x.fate ≠ .undecided)
    exact ⟨fate'.trans fate, reasons'.trans reasons⟩
  · rcases before.verdict with same | ⟨uninspected, pending⟩
    · exact same ▸ after.verdict.imp Eq.symm .inl
    · refine .inr (.inl ⟨uninspected, ?_⟩)
      rcases after.verdict with same | ⟨again, -⟩
      · exact same.trans pending
      · cases pending.symm.trans again

/-- R97: a verdict moves from PENDING, and its reason is added before the fate is decided. -/
theorem applyVerdict_follows {r : Record} (hf : r.fate = .undecided) (hv : r.verdict = .pending)
    (result : VerdictResult) (cause : Nat) : r.Follows (applyVerdict result cause r) := by
  cases result with
  | good =>
    exact ⟨rfl, rfl, Nat.le_refl _, Nat.le_succ _, by simp [applyVerdict], fun h => absurd hf h,
      .inr (.inr ⟨hv, .inl rfl⟩), id⟩
  | bad =>
    obtain ⟨seq, bank, low, high, mono, -, -, counted⟩ := (record_kept_addReason 0 .verdictBad r).follows
    exact ⟨seq, bank, low, high, mono, fun h => absurd hf h, .inr (.inr ⟨hv, .inr rfl⟩), counted⟩

/-- R29, R30: after a boundary a record is one that stood there, or the one just created. -/
theorem MovesOnce.follows {s t : State} (h : MovesOnce s t) (law : ChainLaw s) {r' : Record}
    (hr : r' ∈ t.chain.records) :
    (∃ r ∈ s.chain.records, r.Follows r') ∨ (r'.seq = s.chain.nextSeq ∧ r'.position = 0) := by
  obtain ⟨m, before, after⟩ := h
  have law' := before.chainLaw law
  have next : m.chain.nextSeq = s.chain.nextSeq := congrArg (fun p => p.2.1) before.places
  obtain ⟨y, hy, kept'⟩ := after.exists_of_mem (chainBoundary_chainLaw law') hr
  rcases chainBoundary_records hy with ⟨b, rfl⟩ | ⟨x, hx, -, rfl⟩
  · exact .inr ⟨kept'.seq.trans next, kept'.position⟩
  · obtain ⟨r, hr, kept⟩ := before.exists_of_mem law hx
    exact .inl ⟨r, hr, .of_moved kept kept'⟩

theorem ChainEffect.follows {s t : State} (h : ChainEffect s t) (law : ChainLaw s) {r' : Record}
    (hr : r' ∈ t.chain.records) :
    (∃ r ∈ s.chain.records, r.Follows r') ∨ (r'.seq = s.chain.nextSeq ∧ r'.position = 0) := by
  rcases h.records law with empty | kept | moved | ⟨q, result, cause, chain, -⟩
  · exact absurd (empty ▸ hr) List.not_mem_nil
  · obtain ⟨r, mem, k⟩ := kept.exists_of_mem law hr
    exact .inl ⟨r, mem, k.follows⟩
  · exact moved.follows law hr
  · rcases takeVerdict_records law q result cause (chain ▸ hr) with mem | ⟨r, mem, undecided, pending, rfl⟩
    · exact .inl ⟨r', mem, (Record.Kept.refl 0 r').follows⟩
    · exact .inl ⟨r, mem, applyVerdict_follows undecided pending result cause⟩

/-- Settles O10: every effect on the chain changes the records as the rules allow. -/
theorem recordsChangeAsTheRulesAllow : Obligations.RecordsChangeAsTheRulesAllow := by
  intro s t law h r' hr
  obtain ⟨rest, effect⟩ := step_chainEffect h
  exact effect.follows law hr

end Sys2Proof.Machine

/-! # The reads of records and their layouts (R35, R71, R115, R125, R143, R167) -/

namespace Sys2Proof.Machine

/-! ## Bytes, least significant first (R164) -/

theorem leBytes_one (v : Nat) : leBytes 1 v = [BitVec.ofNat 8 v] := rfl

theorem leBytes_two (v : Nat) : leBytes 2 v = [BitVec.ofNat 8 v, BitVec.ofNat 8 (v / 256)] := rfl

/-- A byte of a word: shifted down and cut off. -/
theorem ofNat_div_toNat {n : Nat} (v : BitVec n) (k : Nat) :
    BitVec.ofNat 8 (v.toNat / 2 ^ k) = (v >>> k).setWidth 8 := by
  rw [← Nat.shiftRight_eq_div_pow, ← BitVec.toNat_ushiftRight, BitVec.ofNat_toNat]

theorem leBytes_two_toNat {n : Nat} (v : BitVec n) : leBytes 2 v.toNat = [v.setWidth 8, (v >>> 8).setWidth 8] := by
  rw [leBytes_two, BitVec.ofNat_toNat, ← ofNat_div_toNat v 8]
  rfl

theorem leBytes_three_toNat {n : Nat} (v : BitVec n) :
    leBytes 3 v.toNat = [v.setWidth 8, (v >>> 8).setWidth 8, (v >>> 16).setWidth 8] := by
  rw [← ofNat_div_toNat v 16, ← ofNat_div_toNat v 8, ← BitVec.ofNat_toNat]
  simp only [leBytes, Nat.div_div_eq_div_mul]
  rfl

/-- The bytes of a seq in a payload are read back as that seq (R166). -/
theorem tripleAt_seq (q : Seq) (b : Byte) :
    tripleAt [b, q.setWidth 8, (q >>> 8).setWidth 8, (q >>> 16).setWidth 8] 1 = q.toNat := by
  change (q.setWidth 8).toNat + 256 * ((q >>> 8).setWidth 8).toNat + 65536 * ((q >>> 16).setWidth 8).toNat = q.toNat
  have := q.isLt
  simp only [BitVec.toNat_setWidth, BitVec.toNat_ushiftRight, Nat.shiftRight_eq_div_pow]
  omega

theorem bankOfCode_code (b : BankId) : bankOfCode b.code = some b := by cases b <;> rfl

theorem fieldGroupOf_number (g : FieldGroup) : fieldGroupOf g.number = some g := by
  cases g with
  | channel ch => cases ch <;> rfl
  | _ => rfl

theorem fieldGroup_number_lt (g : FieldGroup) : g.number < 256 := by
  cases g with
  | channel ch => cases ch <;> decide
  | _ => decide

/-! ## The arguments of the reads (R166) -/

theorem selectorArgument_at {n : Nat} (h : n ≤ 47) :
    selectorArgument [0#8, BitVec.ofNat 8 n, 0#8, 0#8] = some (.byPosition n) := by
  have byte : n % 256 = n := Nat.mod_eq_of_lt (by omega)
  simp [selectorArgument, tripleAt, wordAt, byteAt, byte, h]

theorem selectorArgument_bySeq (q : Seq) :
    selectorArgument [1#8, q.setWidth 8, (q >>> 8).setWidth 8, (q >>> 16).setWidth 8] = some (.bySeq q) := by
  rw [selectorArgument, tripleAt_seq, BitVec.ofNat_toNat, BitVec.setWidth_eq]
  rfl

theorem readBankArgument_codes (b : BankId) (g : FieldGroup) :
    readBankArgument [BitVec.ofNat 8 b.code, BitVec.ofNat 8 g.number] = some (b, g) := by
  have bank : b.code % 256 = b.code := by cases b <;> rfl
  have group : g.number % 256 = g.number := Nat.mod_eq_of_lt (fieldGroup_number_lt g)
  simp [readBankArgument, byteAt, bank, group, bankOfCode_code, fieldGroupOf_number]

/-! ## Flags and optional quantities (R167) -/

theorem yesNo_isSome {α : Type} [DecidableEq α] (v : Option α) : yesNo v.isSome = if v = none then 0 else 1 := by
  cases v <;> rfl

theorem optionNat_map {α : Type} (f : α → Nat) (v : Option α) : optionNat (v.map f) = v.elim 0 f := by
  cases v <;> rfl

theorem ofNat_yesNo (b : Bool) : BitVec.ofNat 8 (yesNo b) = if b then 1#8 else 0#8 := by cases b <;> rfl

theorem optionNat_seq (v : Option Seq) : optionNat (v.map BitVec.toNat) = (v.getD 0).toNat := by cases v <;> rfl

/-- The payload of READ DRIFT, with the model's byte for the alert (log 27). -/
theorem driftBytes_layout (r : Registration) :
    driftBytes r = (leBytes 2 (BitVec.ofInt 16 r.m16).toNat ++ [if r.driftAlert then 1#8 else 0#8])
      ++ leBytes 4 r.accepted.toNat := by
  rw [driftBytes, leBytes_one, ofNat_yesNo]
  rfl

/-- Settles O36: each read by what its arguments name, and the layouts of R167. -/
theorem recordReadsAnswerInTheirLayouts : Obligations.RecordReadsAnswerInTheirLayouts := by
  refine ⟨fun l s => ⟨fun n hn => ?_, fun q => ?_, rfl, ?_, fun b g => ?_, ?_⟩, fun r => ?_, fun b => ?_,
    fun h => ?_⟩
  · simp only [exec, execReadRecord, selectorArgument_at hn]
    cases recordAt s n <;> rfl
  · simp only [exec, execReadRecord, selectorArgument_bySeq]
    cases recordBySeq s q <;> rfl
  · rw [← driftBytes_layout]
    rfl
  · simp only [exec, execReadBank, readBankArgument_codes]
    rfl
  · simp only [exec, execPeekBatch, noArguments, if_true]
    cases s.batch.queue <;> rfl
  · simp only [recordBytes, signedBytes, leBytes_one, leBytes_two_toNat, leBytes_three_toNat, yesNo_isSome, optionNat,
      ofNat_yesNo, ← ofNat_div_toNat _ 8, mul_ite]
    rfl
  · simp only [batchBytes, leBytes_one, leBytes_two, leBytes_three_toNat, yesNo, mul_ite]
    rfl
  · rw [haltRecordBytes, optionNat_seq]
    simp only [leBytes_one, leBytes_two_toNat, leBytes_three_toNat, optionNat_map, yesNo_isSome, mul_ite,
      BitVec.ofNat_toNat]
    rfl

end Sys2Proof.Machine

/-! # Outside RUN and DRAIN the line is still (R55, R57, R63, R82, R85, R89, R139) -/

namespace Sys2Proof.Machine

/-! ## The parts of the law -/

/-- Nothing is held, no window is open and no gum is in progress (R55, R57, R63, R82, R85). -/
structure Still (s : State) : Prop where
  held : s.firing.held = .all []
  planning : s.firing.planningContinuous = false
  gateHold : s.firing.gateHold = false
  mark : s.registration.markWindow = .shut
  patch : s.registration.patchOpen = false
  fold : s.gumFold.foldOpen = false
  gum : s.gumFold.progress = []

/-- In a pitch in which a LINE RESET was taken the fold window is SHUT (R89, log 30). -/
def Barred (s : State) : Prop := s.gumFold.foldBarred = true → s.gumFold.foldOpen = false

/-- The close flag is held in DRAIN alone (R139). -/
def FlagInDrain (s : State) : Prop := s.line.closeFlag.isSome = true ↔ s.line.state = .drain

theorem quietLaw_iff (s : State) :
    QuietLaw s ↔ (s.line.state.running = false → Still s) ∧ FlagInDrain s ∧ Barred s := by
  have still : Still s ↔ s.firing.held = .all [] ∧ s.firing.planningContinuous = false ∧ s.firing.gateHold = false
      ∧ s.registration.markWindow = .shut ∧ s.registration.patchOpen = false
      ∧ s.gumFold.foldOpen = false ∧ s.gumFold.progress = [] :=
    ⟨fun ⟨a, b, c, d, e, f, g⟩ => ⟨a, b, c, d, e, f, g⟩, fun ⟨a, b, c, d, e, f, g⟩ => ⟨a, b, c, d, e, f, g⟩⟩
  simp only [still, FlagInDrain, Barred]

section
variable {s t : State}

theorem QuietLaw.still (h : QuietLaw s) (idle : s.line.state.running = false) : Still s :=
  ((quietLaw_iff s).mp h).1 idle

theorem QuietLaw.barred (h : QuietLaw s) : Barred s := ((quietLaw_iff s).mp h).2.2

/-- Outside DRAIN no close flag is held. -/
theorem QuietLaw.noFlag (h : QuietLaw s) (hd : s.line.state ≠ .drain) : s.line.closeFlag = none := by
  have flag : FlagInDrain s := ((quietLaw_iff s).mp h).2.1
  simpa using mt flag.mp hd

/-- A line that is still with no close flag outside DRAIN meets the law. -/
theorem quietLaw_of_still (still : Still s) (flag : s.line.closeFlag = none) (hd : s.line.state ≠ .drain) :
    QuietLaw s :=
  (quietLaw_iff s).mpr ⟨fun _ => still, by simp [FlagInDrain, flag, hd], fun _ => still.fold⟩

/-- Stillness is told by the Firing, Registration and Gum and Fold Units. -/
theorem Still.of_eq (h : Still s) (firing : t.firing = s.firing) (registration : t.registration = s.registration)
    (gumFold : t.gumFold = s.gumFold) : Still t := by
  obtain ⟨a, b, c, d, e, f, g⟩ := h
  constructor <;> simp only [firing, registration, gumFold] <;> assumption

/-- Where the line state and the close flag are kept, the law rests on the three units. -/
theorem QuietLaw.of_line (h : QuietLaw s) (state : t.line.state = s.line.state)
    (flag : t.line.closeFlag = s.line.closeFlag) (still : s.line.state.running = false → Still s → Still t)
    (barred : Barred s → Barred t) : QuietLaw t := by
  obtain ⟨hs, hf, hb⟩ := (quietLaw_iff s).mp h
  exact (quietLaw_iff t).mpr ⟨fun idle => still (state ▸ idle) (hs (state ▸ idle)), by
    simpa only [FlagInDrain, state, flag] using hf, barred hb⟩

/-- The law speaks of the three units, the line state and the close flag alone. -/
theorem QuietLaw.of_eq (h : QuietLaw s) (firing : t.firing = s.firing) (registration : t.registration = s.registration)
    (gumFold : t.gumFold = s.gumFold) (state : t.line.state = s.line.state)
    (flag : t.line.closeFlag = s.line.closeFlag) : QuietLaw t :=
  h.of_line state flag (fun _ hs => hs.of_eq firing registration gumFold) (fun hb => by
    simpa only [Barred, gumFold] using hb)

/-- A unit's work that leaves the line and the fold window: with the line idle it must leave it still. -/
theorem QuietLaw.of_units (h : QuietLaw s) (line : t.line = s.line)
    (still : s.line.state.running = false → Still s → Still t) (foldOpen : t.gumFold.foldOpen = s.gumFold.foldOpen)
    (barred : t.gumFold.foldBarred = s.gumFold.foldBarred) : QuietLaw t :=
  h.of_line (by rw [line]) (by rw [line]) still (fun hb => by simpa only [Barred, foldOpen, barred] using hb)

/-! ## The changeover and the drift filter leave the line still -/

theorem takeChangeover_registration (s : State) :
    (takeChangeover s).registration = s.registration
      ∨ (takeChangeover s).registration = (zeroDrift s).registration := by
  cases h : armedBank s with
  | none => exact .inl (by rw [takeChangeover_unarmed h])
  | some b =>
    refine .inr ?_
    simp only [takeChangeover, h, retakeSupplies_registration, supersede_registration, zeroDrift]
    split <;> simp

/-- R70: the drift filter zeroed, the windows are as they were. -/
theorem Still.takeChangeover (h : Still s) : Still (takeChangeover s) := by
  obtain ⟨a, b, c, d, e, f, g⟩ := h
  rcases takeChangeover_registration s with hr | hr <;>
    constructor <;> simp [hr, zeroDrift, a, b, c, d, e, f, g]

theorem takeChangeover_quietLaw (h : QuietLaw s) : QuietLaw (takeChangeover s) :=
  h.of_line (by simp) (by simp) (fun _ hs => hs.takeChangeover) (fun hb => by simpa [Barred] using hb)

/-! ## Halts and drain completion (R55, R57, R63, R82, R85, R139, R141) -/

/-- Leaving RUN or DRAIN stills the line. -/
theorem leaveRunning_still (s : State) : Still (leaveRunning s) := ⟨rfl, rfl, rfl, rfl, rfl, rfl, rfl⟩

/-- An entry to HALT leaves the line still: it leaves RUN or DRAIN, or was still in READY. -/
theorem enterHalt_quietLaw (still : s.line.state.running = false → Still s) (c : HaltCause) (l : Option Link) :
    QuietLaw (enterHalt c l s) := by
  refine quietLaw_of_still ?_ (by simp) (by simp)
  cases idle : s.line.state.running with
  | false =>
    exact (still idle).of_eq (by simp [enterHalt, idle]) (by simp [enterHalt, idle]) (by simp [enterHalt, idle])
  | true =>
    exact (leaveRunning_still (markZone s)).of_eq (by simp [enterHalt, idle]) (by simp [enterHalt, idle])
      (by simp [enterHalt, idle])

theorem raiseCause_quietLaw (h : QuietLaw s) (c : HaltCause) (l : Option Link) : QuietLaw (raiseCause c l s) := by
  by_cases config : s.line.state = .config
  · rwa [raiseCause_in_config config]
  by_cases halted : s.line.state = .halt
  · rw [raiseCause_in_halt halted]
    exact h.of_eq rfl rfl rfl rfl rfl
  · rw [raiseCause_enters config halted]
    exact enterHalt_quietLaw h.still c l

theorem examineLevels_quietLaw (h : QuietLaw s) : QuietLaw (examineLevels s) :=
  runAll_induct QuietLaw (fun _ => True) (fun _ _ h => h.of_eq rfl rfl rfl rfl rfl)
    (fun c _ _ h => raiseCause_quietLaw h c none) _ s (fun _ _ => trivial) h

/-- A drain completed goes by way of a still line in READY. -/
theorem completeDrain_quietLaw (s : State) : QuietLaw (completeDrain s) := by
  rw [completeDrain_eq]
  refine examineLevels_quietLaw (quietLaw_of_still ?_ ?_ ?_)
  · refine Still.takeChangeover ?_
    split <;> constructor <;> simp [noSubjects, leaveRunning, shutWindows]
  · simp [drainDone]
  · simp only [drainDone, takeChangeover_line_state]; split <;> simp

theorem chainEmptyNotice_quietLaw (h : QuietLaw s) : QuietLaw (chainEmptyNotice s) := by
  unfold chainEmptyNotice
  split
  · exact h
  · exact takeChangeover_quietLaw h
  · exact h
  · exact completeDrain_quietLaw s
  · exact h

/-! ## The Registration Unit (R62 to R67, R73, R74) -/

theorem openMark_idle (idle : s.line.state.running = false) : openMark s = s := by
  simp [openMark, idle]

theorem openPatch_idle (idle : s.line.state.running = false) : openPatch s = s := by
  simp [openPatch, idle]

theorem settleMark_still (h : Still s) : Still (settleMark s) := by
  obtain ⟨a, b, c, d, e, f, g⟩ := h
  constructor <;> unfold settleMark <;> (repeat' split) <;> simp [a, b, c, d, e, f, g]

theorem settlePatch_still (h : Still s) : Still (settlePatch s) := by
  obtain ⟨a, b, c, d, e, f, g⟩ := h
  constructor <;> unfold settlePatch <;> (repeat' split) <;> simp [a, b, c, d, e, f, g]

theorem markCrossing_quietLaw (h : QuietLaw s) (p : Nat) : QuietLaw (markCrossing p s) := by
  refine h.of_units (by simp) (fun idle still => ?_) (by simp) (by simp)
  unfold markCrossing
  split
  · exact still
  · simp only [openMark_idle idle, ite_self]
    split
    · exact settleMark_still still
    · exact still

theorem patchCrossing_quietLaw (h : QuietLaw s) (p : Nat) : QuietLaw (patchCrossing p s) := by
  refine h.of_units (by simp) (fun idle still => ?_) (by simp) (by simp)
  unfold patchCrossing
  split
  · exact still
  · simp only [openPatch_idle idle, ite_self]
    split
    · exact settlePatch_still still
    · exact still

theorem openMarkAtZero_idle (idle : s.line.state.running = false) : openMarkAtZero s = s := by
  unfold openMarkAtZero; split <;> simp [openMark_idle idle]

theorem openPatchAtZero_idle (idle : s.line.state.running = false) : openPatchAtZero s = s := by
  unfold openPatchAtZero; split <;> simp [openPatch_idle idle]

theorem registrationBoundary_quietLaw (h : QuietLaw s) : QuietLaw (registrationBoundary s) := by
  refine h.of_units (by simp) (fun idle still => ?_) (by simp) (by simp)
  obtain ⟨a, b, c, -, -, f, g⟩ := still
  rw [registrationBoundary, openMarkAtZero_idle (by simpa using idle), openPatchAtZero_idle (by simpa using idle)]
  exact ⟨by simpa using a, by simpa using b, by simpa using c, rfl, rfl, by simpa using f, by simpa using g⟩

theorem markEdge_quietLaw (h : QuietLaw s) : QuietLaw (markEdge s) :=
  h.of_units (by simp) (fun idle still => by simpa [markEdge, idle] using still) (by simp) (by simp)

theorem patchPresentEdge_quietLaw (h : QuietLaw s) : QuietLaw (patchPresentEdge s) :=
  h.of_units (by simp) (fun idle still => by simpa [patchPresentEdge, idle] using still) (by simp) (by simp)

/-! ## The Gum and Fold Unit (R82, R84 to R89) -/

theorem settleFold_progress (s : State) : (settleFold s).gumFold.progress = s.gumFold.progress := by
  unfold settleFold
  (repeat' split) <;> simp

theorem foldReport_foldOpen (s : State) : (foldReport s).gumFold.foldOpen = s.gumFold.foldOpen := by
  simp only [foldReport]
  (repeat' split) <;> rfl

theorem openFold_idle (level : Bool) (idle : s.line.state.running = false) : openFold level s = s := by
  simp [openFold, idle]

/-- Opening the window where it is not barred (R85, R89). -/
theorem openFold_quietLaw (h : QuietLaw s) (level : Bool) : QuietLaw (openFold level s) := by
  refine h.of_line (by simp) (by simp) (fun idle still => by rwa [openFold_idle level idle]) (fun hb => ?_)
  by_cases bar : s.gumFold.foldBarred = true
  · rw [openFold_barred level s bar]; exact hb
  · intro h'
    rw [openFold_keeps_barred] at h'
    exact absurd h' bar

/-- The fold window shut, and no gum in progress that was not. -/
theorem QuietLaw.foldShut (h : QuietLaw s) (line : t.line = s.line) (firing : t.firing = s.firing)
    (registration : t.registration = s.registration) (fold : t.gumFold.foldOpen = false)
    (gum : s.gumFold.progress = [] → t.gumFold.progress = []) : QuietLaw t :=
  h.of_line (by rw [line]) (by rw [line])
    (fun _ ⟨a, b, c, d, e, _, g⟩ => ⟨by rwa [firing], by rwa [firing], by rwa [firing], by rwa [registration],
      by rwa [registration], fold, gum g⟩)
    (fun _ _ => fold)

theorem closeFold_quietLaw (h : QuietLaw s) : QuietLaw (closeFold s) :=
  h.foldShut (by simp) (by simp) (by simp) rfl (fun e => (settleFold_progress s).trans e)

theorem foldCrossing_quietLaw (h : QuietLaw s) (level : Bool) (p : Nat) : QuietLaw (foldCrossing level p s) := by
  unfold foldCrossing
  split
  · exact h
  · rename_i f _
    have opened : QuietLaw (if f.foldOpen = p then openFold level s else s) := by
      split
      · exact openFold_quietLaw h level
      · exact h
    dsimp only
    split
    · exact closeFold_quietLaw opened
    · exact opened

theorem gumFoldBoundary_quietLaw (h : QuietLaw s) (level : Bool) : QuietLaw (gumFoldBoundary level s) := by
  have taken : QuietLaw (cleanProgress (takeFoldTarget (settleFold s))) := by
    refine h.foldShut (by simp) (by simp) (by simp) rfl (fun e => ?_)
    have kept : (takeFoldTarget (settleFold s)).gumFold.progress = [] := (settleFold_progress s).trans e
    simp [cleanProgress, kept]
  unfold gumFoldBoundary openFoldAtZero
  split
  · exact taken
  · split
    · exact openFold_quietLaw taken level
    · exact taken

theorem foldCheckEdge_quietLaw (h : QuietLaw s) : QuietLaw (foldCheckEdge s) := by
  unfold foldCheckEdge
  split
  · rename_i running
    exact h.of_units (by simp) (fun idle => by simp [idle] at running) (foldReport_foldOpen s) (foldReport_barred s)
  · exact h

/-! ## The edges of held firings (R47 to R53) -/

/-- Whether the fold window is open, and whether it is barred: what no edge of a firing changes. -/
def foldWindow (s : State) : Bool × Bool := (s.gumFold.foldOpen, s.gumFold.foldBarred)

theorem gumProgress_foldOpen (ch : Channel) (r : Record) (s : State) :
    (gumProgress ch r s).gumFold.foldOpen = s.gumFold.foldOpen := by
  unfold gumProgress setGummed forgetGum
  (repeat' split) <;> simp

theorem gumEdge_foldOpen (ch : Channel) (r : Record) (s : State) :
    (gumEdge ch r s).gumFold.foldOpen = s.gumFold.foldOpen := by
  unfold gumEdge
  (repeat' split) <;> simp [gumProgress_foldOpen, setGummed, forgetGum]

/-- Of the edges only those of the gum channels write to the Gum and Fold Unit, and they write to the progress list. -/
theorem takeEdge_foldWindow (e : Edge) (s : State) : foldWindow (takeEdge e s) = foldWindow s := by
  refine Prod.ext ?_ (takeEdge_barred e s)
  unfold foldWindow takeEdge onEdge
  (repeat' split) <;> simp [gumEdge_foldOpen]

/-- Work of the Firing Unit that leaves the line and the fold window: with the line idle it must leave it still. -/
theorem QuietLaw.of_foldWindow (h : QuietLaw s) (line : t.line = s.line)
    (still : s.line.state.running = false → Still s → Still t) (fold : foldWindow t = foldWindow s) : QuietLaw t :=
  h.of_units line still (congrArg Prod.fst fold) (congrArg Prod.snd fold)

/-- With no firing held no edge falls at any phase. -/
theorem edgesAt_of_empty (h : s.firing.held = .all []) (p : Int) : edgesAt p s = [] := by
  simp [edgesAt, h, Channel.all, PerChannel.all, PerChannel.get]

/-- With no firing held no edge is overdue. -/
theorem overdueEdges_of_empty (h : s.firing.held = .all []) : overdueEdges s = [] := by
  simp [overdueEdges, h, Channel.all, PerChannel.all, PerChannel.get]

theorem takeOverdue_of_empty (h : s.firing.held = .all []) : takeOverdue s = s := by
  have held : (s.firing.held.map fun fs => fs.filter fun f => f.state != .waiting) = s.firing.held := by
    rw [h]; rfl
  simp only [takeOverdue, overdueEdges_of_empty h, List.length_nil, runFree, dropWaiting, held]

/-- Outside RUN and DRAIN the Firing Unit takes its lead snapshot at a boundary and nothing else (R45, R46). -/
theorem firingBoundary_still (idle : s.line.state.running = false) (h : Still s) (period : Nat) (valid : Bool) :
    Still (firingBoundary period valid s) := by
  have planned : Still (planningStep (takeSnapshot period valid (openPitch s))) := by
    obtain ⟨a, b, c, d, e, f, g⟩ := h
    constructor <;>
      simp [planningStep, idle, takeSnapshot, openPitch, a, b, c, d, e, f, g, PerChannel.map, PerChannel.all]
  rw [firingBoundary, takeOverdue_of_empty h.held]
  simp only [edgesAt_of_empty planned.held, runAll_nil]
  exact planned

theorem firingBoundary_quietLaw (h : QuietLaw s) (period : Nat) (valid : Bool) :
    QuietLaw (firingBoundary period valid s) := by
  refine h.of_foldWindow (by simp) (fun idle still => firingBoundary_still idle still period valid) ?_
  have overdue : foldWindow (takeOverdue s) = foldWindow s :=
    runFree_proj foldWindow (fun _ _ => rfl) (fun x s => takeEdge_foldWindow x.edge s) _ _ s
  refine (runAll_proj foldWindow (fun _ _ => rfl) takeEdge_foldWindow _ _).trans (Eq.trans ?_ overdue)
  simp [foldWindow]

/-! ## Phase crossings and boundaries (R6, R7) -/

theorem gateCrossing_quietLaw (h : QuietLaw s) (p : Nat) : QuietLaw (gateCrossing p s) := by
  refine h.of_units (by simp) (fun idle still => ?_) (by simp) (by simp)
  refine still.of_eq ?_ (by simp) (by simp)
  unfold gateCrossing gateDecision
  split <;> simp [idle]

/-- One unit's work at a crossing; with the line idle no edge is taken, as no firing is held. -/
theorem doCrossing_quietLaw (h : QuietLaw s) (level : Bool) (p : Nat) {t : CrossingTask}
    (noEdge : s.line.state.running = false → ∀ e, t ≠ .edge e) : QuietLaw (doCrossing level p t s) := by
  cases t with
  | edge e =>
    exact h.of_foldWindow (by simp [doCrossing]) (fun idle => absurd rfl (noEdge idle e)) (takeEdge_foldWindow e s)
  | mark => exact markCrossing_quietLaw h p
  | patch => exact patchCrossing_quietLaw h p
  | fold => exact foldCrossing_quietLaw h level p
  | gate => exact gateCrossing_quietLaw h p
  | count =>
    exact h.of_eq (countCrossing_firing p s) (countCrossing_registration p s) (countCrossing_gumFold p s)
      (countCrossing_line_state p s) (countCrossing_line_closeFlag p s)

theorem crossing_quietLaw (h : QuietLaw s) (level : Bool) (p : Nat) : QuietLaw (crossing level s p) := by
  have noEdge : ∀ t ∈ crossingTasks p s, s.line.state.running = false → ∀ e, t ≠ .edge e := by
    rintro _ ht idle e rfl
    have edge : e ∈ edgesAt p s := (mem_crossingTasks p s (.edge e)).mp ht
    simp [edgesAt_of_empty (h.still idle).held] at edge
  refine (runAll_induct (fun x => QuietLaw x ∧ x.line.state = s.line.state)
    (fun t => s.line.state.running = false → ∀ e, t ≠ .edge e) (fun x c hx => ⟨hx.1.of_eq rfl rfl rfl rfl rfl, hx.2⟩)
    (fun t x ht hx => ?_) _ s noEdge ⟨h, rfl⟩).1
  exact ⟨doCrossing_quietLaw hx.1 level p (by rwa [hx.2]), by simp [hx.2]⟩

theorem crossings_quietLaw (h : QuietLaw s) (level : Bool) (lo hi : Nat) : QuietLaw (crossings level lo hi s) :=
  List.foldlRecOn _ _ h fun _ hx p _ => crossing_quietLaw hx level p

theorem chainBoundary_registration (s : State) :
    (chainBoundary s).registration = s.registration
      ∨ (chainBoundary s).registration = (zeroDrift s).registration := by
  have before : (advanced s).registration = s.registration := by simp [advanced]
  rw [chainBoundary_eq, feedStage]
  split
  · simpa [zeroDrift, before] using takeChangeover_registration (advanced s)
  · exact .inl before

/-- The chain operation: only the drift filter of the three units, where a changeover is taken. -/
theorem chainBoundary_quietLaw (h : QuietLaw s) : QuietLaw (chainBoundary s) := by
  refine h.of_line (by simp) (by simp) (fun _ ⟨a, b, c, d, e, f, g⟩ => ?_) (fun hb => by simpa [Barred] using hb)
  rcases chainBoundary_registration s with hr | hr <;>
    constructor <;> simp [hr, zeroDrift, a, b, c, d, e, f, g]

theorem doBoundary_quietLaw (h : QuietLaw s) (n : Nat) (w level : Bool) (t : BoundaryTask) :
    QuietLaw (doBoundary n w level t s).2 := by
  cases t with
  | cause c => exact raiseCause_quietLaw h c none
  | chain => exact chainBoundary_quietLaw h
  | firing => exact firingBoundary_quietLaw h n w
  | registration => exact registrationBoundary_quietLaw h
  | gumFold => exact gumFoldBoundary_quietLaw h level
  | gate => exact gateCrossing_quietLaw h 0
  | batch =>
    exact h.of_eq (batchBoundary_firing s) (batchBoundary_registration s) (batchBoundary_gumFold s)
      (batchBoundary_line_state s) (batchBoundary_line_closeFlag s)
  | emptyNotice => exact chainEmptyNotice_quietLaw h

theorem pitchBoundary_quietLaw (h : QuietLaw s) (level : Bool) : QuietLaw (pitchBoundary level s) :=
  runFree_induct QuietLaw (fun _ => True) (fun _ _ h => h.of_eq rfl rfl rfl rfl rfl)
    (fun t _ _ h => ⟨doBoundary_quietLaw h _ _ level t, fun _ _ => trivial⟩) _ _ (closePitch s) (fun _ _ => trivial)
    (h.of_eq rfl rfl rfl rfl rfl)

/-! ## The requests that name a transition (R136 to R139, R144, R149) -/

theorem commitGeometry_quietLaw (h : QuietLaw s) (config : s.line.state = .config) : QuietLaw (commitGeometry s) := by
  obtain ⟨a, b, c, -, -, -, g⟩ := h.still (by simp [config, LineState.running])
  rw [commitGeometry_eq]
  exact examineLevels_quietLaw
    (quietLaw_of_still ⟨a, b, c, rfl, rfl, rfl, g⟩ (h.noFlag (by simp [config])) (by simp [committed]))

theorem releaseGeometry_quietLaw (h : QuietLaw s) (ready : s.line.state = .ready) : QuietLaw (releaseGeometry s) := by
  obtain ⟨a, b, c, -, -, -, g⟩ := h.still (by simp [ready, LineState.running])
  exact quietLaw_of_still ⟨a, b, c, rfl, rfl, rfl, g⟩ (h.noFlag (by simp [ready])) (by simp)

/-- A line that runs may hold firings and open windows; only the close flag and the barred window are left to check. -/
theorem quietLaw_of_running (running : s.line.state.running = true) (flag : FlagInDrain s) (barred : Barred s) :
    QuietLaw s :=
  (quietLaw_iff s).mpr ⟨fun idle => by simp [running] at idle, flag, barred⟩

theorem startLine_quietLaw (h : QuietLaw s) (ready : s.line.state = .ready) : QuietLaw (startLine s) := by
  have noFlag : (startLine s).line.closeFlag = none := by
    have := h.noFlag (by simp [ready])
    simp only [startLine]; split <;> exact this
  exact quietLaw_of_running (by simp [LineState.running]) (by simp [FlagInDrain, noFlag])
    (by simpa [Barred] using h.barred)

theorem beginDrain_quietLaw (h : QuietLaw s) (close : Bool) : QuietLaw (beginDrain close s) := by
  simp only [beginDrain]
  split
  · exact completeDrain_quietLaw _
  · exact quietLaw_of_running rfl (by simp [FlagInDrain]) h.barred

theorem clearHalt_quietLaw (h : QuietLaw s) (halted : s.line.state = .halt) : QuietLaw (clearHalt s) := by
  have still := h.still (by simp [halted, LineState.running])
  have ready : QuietLaw { s with line := { s.line with
      state := .ready
      haltRecord := { s.line.haltRecord with firstCause := none, haltingLink := none, further := 0 } } } :=
    quietLaw_of_still (still.of_eq rfl rfl rfl) (h.noFlag (by simp [halted])) (by simp)
  simp only [clearHalt]
  split
  · exact takeChangeover_quietLaw ready
  · exact ready

theorem lineReset_quietLaw (h : QuietLaw s) (idle : s.line.state.running = false) : QuietLaw (lineReset s) := by
  obtain ⟨a, b, c, -, -, -, -⟩ := h.still idle
  have noFlag : s.line.closeFlag = none := h.noFlag (by rintro e; simp [e, LineState.running] at idle)
  rw [lineReset_eq]
  refine examineLevels_quietLaw (takeChangeover_quietLaw (quietLaw_of_still ⟨?_, ?_, ?_, rfl, rfl, rfl, rfl⟩ ?_ ?_))
  all_goals simp [unitsReset, purgeBatch, a, b, c, noFlag]

end

/-! ## Every command -/

theorem powerOn_quietLaw (a b : Bool) (sensors : Sensors) (choices : Nat) (pending : List Instr) :
    QuietLaw (.powerOn a b sensors choices pending) :=
  quietLaw_of_still ⟨rfl, rfl, rfl, rfl, rfl, rfl, rfl⟩ rfl (by simp [State.powerOn])

theorem conclude_quietLaw {s : State} (h : QuietLaw s) : QuietLaw (conclude s) := by
  cases pin : s.sensors.resetPin with
  | false => rw [conclude_eq s pin]; exact h.of_eq rfl rfl rfl rfl rfl
  | true =>
    have held : underReset s = .powerOn s.shaft.pairA s.shaft.pairB s.sensors s.choices s.pending := by
      simp [underReset, pin]
    rw [conclude, held]
    exact (powerOn_quietLaw s.shaft.pairA s.shaft.pairB s.sensors s.choices s.pending).of_eq rfl rfl rfl rfl rfl

/-- The Shaft Tracker's own writes, beside the crossings, boundaries and causes that a shaft event is made of. -/
theorem shaft_quietLaw (s : State) (x : Shaft) (h : QuietLaw s) : QuietLaw { s with shaft := x } :=
  h.of_eq rfl rfl rfl rfl rfl

/-- A level change that may raise a cause. -/
theorem raiseIf_quietLaw {s : State} (h : QuietLaw s) (p : Prop) [Decidable p] (c : HaltCause) :
    QuietLaw (if p then raiseCause c none s else s) := by
  split
  · exact raiseCause_quietLaw h c none
  · exact h

theorem QuietLaw.answered {s : State} (h : QuietLaw s) (l : Link) (c : Command) (status : Status)
    (payload : List Byte) : QuietLaw (answer l c status payload s) :=
  h.of_eq rfl rfl rfl rfl rfl

/-- A bank armed, and ACTIVE at once where nothing runs (R127). -/
theorem armBank_quietLaw {s : State} (h : QuietLaw s) (b : BankId) : QuietLaw (armBank b s) := by
  have armed : QuietLaw (setBankState b .armed s) := h.of_eq rfl rfl rfl rfl rfl
  simp only [armBank]
  split
  · exact takeChangeover_quietLaw armed
  · exact armed

@[simp] theorem changeHolders_line_closeFlag (f : BitVec 3 → BitVec 3) (sts : List Station) (s : State) :
    (changeHolders f sts s).line.closeFlag = s.line.closeFlag := rfl

@[simp] theorem clearHolds_line_closeFlag (s : State) : (clearHolds s).line.closeFlag = s.line.closeFlag := rfl

/-- Every command concludes a state that meets the law. -/
theorem exec_keeps_quietLaw (i : Instr) {s : State} (h : QuietLaw s) :
    ∃ x, exec i s = .next (conclude x) ∧ QuietLaw x := by
  cases i with
  | powerOnReset asserted pair => exact ⟨_, rfl, powerOn_quietLaw _ _ _ _ _⟩
  | forwardCountStep elapsed level =>
    exact ⟨_, rfl, forwardCount_induct QuietLaw shaft_quietLaw (fun v lo hi _ h => crossings_quietLaw h v lo hi)
      (fun v _ h => pitchBoundary_quietLaw h v) level _ (shaft_quietLaw s _ h)⟩
  | backwardCountStep =>
    exact ⟨_, rfl, backwardCount_induct QuietLaw (fun _ _ h => h.of_eq rfl rfl rfl rfl rfl) shaft_quietLaw
      (fun c _ h => raiseCause_quietLaw h c none) _ (shaft_quietLaw s _ h)⟩
  | indexEdge elapsed level =>
    exact ⟨_, rfl, indexEdge_induct QuietLaw shaft_quietLaw (fun v lo hi _ h => crossings_quietLaw h v lo hi)
      (fun v _ h => pitchBoundary_quietLaw h v) (fun c _ h => raiseCause_quietLaw h c none) level _
      (shaft_quietLaw s _ h)⟩
  | markEdge => exact ⟨_, rfl, markEdge_quietLaw h⟩
  | patchPresentEdge => exact ⟨_, rfl, patchPresentEdge_quietLaw h⟩
  | foldCheckEdge => exact ⟨_, rfl, foldCheckEdge_quietLaw h⟩
  | estopChange level =>
    have levelled : QuietLaw { s with sensors.estop := level } := h.of_eq rfl rfl rfl rfl rfl
    exact ⟨_, rfl, raiseIf_quietLaw levelled _ .estop⟩
  | jamChange level =>
    have levelled : QuietLaw { s with sensors.jam := level } := h.of_eq rfl rfl rfl rfl rfl
    exact ⟨_, rfl, raiseIf_quietLaw levelled _ .jam⟩
  | halt l p =>
    refine ⟨_, rfl, ?_⟩
    split
    · exact h.answered _ _ _ _
    · split
      · exact h.answered _ _ _ _
      · exact (raiseCause_quietLaw h .haltCommand (some l)).answered _ _ _ _
  | commitGeometry p =>
    refine ⟨_, rfl, ?_⟩
    split
    · exact h.answered _ _ _ _
    · split
      · rename_i config
        split
        · exact h.answered _ _ _ _
        · exact (commitGeometry_quietLaw h config).answered _ _ _ _
      · exact h.answered _ _ _ _
  | releaseGeometry p =>
    refine ⟨_, rfl, ?_⟩
    split
    · exact h.answered _ _ _ _
    · split
      · rename_i ready; exact (releaseGeometry_quietLaw h ready.1).answered _ _ _ _
      · exact h.answered _ _ _ _
  | start p =>
    refine ⟨_, rfl, ?_⟩
    split
    · exact h.answered _ _ _ _
    · split
      · rename_i ready; exact (startLine_quietLaw h ready.1).answered _ _ _ _
      · exact h.answered _ _ _ _
  | drain p =>
    refine ⟨_, rfl, ?_⟩
    split
    · exact h.answered _ _ _ _
    · split
      · exact (beginDrain_quietLaw h _).answered _ _ _ _
      · exact h.answered _ _ _ _
  | clearHalt p =>
    refine ⟨_, rfl, ?_⟩
    split
    · exact h.answered _ _ _ _
    · split
      · rename_i halted; exact (clearHalt_quietLaw h halted.1).answered _ _ _ _
      · exact h.answered _ _ _ _
  | lineReset p =>
    refine ⟨_, rfl, ?_⟩
    split
    · exact h.answered _ _ _ _
    · split
      · rename_i idle
        exact (lineReset_quietLaw h (by rcases idle with e | e <;> rw [e] <;> rfl)).answered _ _ _ _
      · exact h.answered _ _ _ _
  | armChangeover p =>
    refine ⟨_, rfl, ?_⟩
    split
    · exact h.answered _ _ _ _
    · split
      · exact (armBank_quietLaw h _).answered _ _ _ _
      · exact h.answered _ _ _ _
  | readTriggers p =>
    refine ⟨_, rfl, h.of_eq ?_ ?_ ?_ ?_ ?_⟩ <;> dsimp only <;> (repeat' split) <;> simp
  | _ =>
    -- The other commands write nothing that the law speaks of.
    refine ⟨_, rfl, h.of_eq ?_ ?_ ?_ ?_ ?_⟩ <;> (repeat' split) <;> simp

/-- Settles O13: the law holds after the front command, whatever it is, and after a tick. -/
theorem stepsKeepTheQuietLaw : Obligations.StepsKeepTheQuietLaw := by
  intro s t h hstep
  unfold step at hstep
  split at hstep
  · cases hstep
    unfold tick
    split
    · exact h
    · exact shaft_quietLaw s _ h
  · rename_i c rest _
    obtain ⟨x, hx, law⟩ := exec_keeps_quietLaw c (s := { s with pending := rest }) (h.of_eq rfl rfl rfl rfl rfl)
    rw [hx] at hstep
    cases hstep
    exact conclude_quietLaw law

end Sys2Proof.Machine

/-! # Leads and effective edges (R41 to R43) -/

namespace Sys2Proof.Machine

/-! ## Leads (R41) -/

theorem rawLead_eq {period : Nat} (h : 0 < period) (deadTime : Nat) :
    rawLead deadTime period = (4096 * deadTime + period / 2) / period := by
  rw [rawLead, Nat.max_eq_left h]

/-- The lead before clamping is the nearest pu to what the dead time takes, a half rounded up. -/
theorem rawLead_nearest {period : Nat} (h : 0 < period) (deadTime : Nat) :
    2 * 4096 * deadTime < 2 * period * rawLead deadTime period + period
      ∧ 2 * period * rawLead deadTime period ≤ 2 * 4096 * deadTime + period := by
  rw [rawLead_eq h, Nat.mul_assoc 2 period]
  have below := Nat.mul_div_le (4096 * deadTime + period / 2) period
  have above := Nat.lt_mul_div_succ (4096 * deadTime + period / 2) h
  rw [Nat.mul_add_one] at above
  generalize period * ((4096 * deadTime + period / 2) / period) = x at below above ⊢
  omega

/-- A lead is clamped from half a pu above 2048 on. -/
theorem rawLead_clamped_iff {period : Nat} (h : 0 < period) (deadTime : Nat) :
    2048 < rawLead deadTime period ↔ (2 * 2048 + 1) * period ≤ 2 * 4096 * deadTime := by
  rw [rawLead_eq h, ← Nat.add_one_le_iff, Nat.le_div_iff_mul_le h]
  omega

theorem lead_valid (period deadTime : Nat) : lead true period deadTime = min (rawLead deadTime period) 2048 := rfl

/-! ## The width of a firing (R43) -/

theorem widthClamped_iff (w : ChannelFields) (leadOn leadOff : Nat) :
    widthClamped w leadOn leadOff = true ↔ rawWidth w leadOn leadOff < 16 ∨ 3584 < rawWidth w leadOn leadOff := by
  simp [widthClamped]

theorem clampInt_range {lo hi : Int} (h : lo ≤ hi) (v : Int) : lo ≤ clampInt lo hi v ∧ clampInt lo hi v ≤ hi := by
  unfold clampInt
  split
  · omega
  · split <;> omega

/-- A width within its range is not changed. -/
theorem firingWidth_unclamped {w : ChannelFields} {leadOn leadOff : Nat} (h : widthClamped w leadOn leadOff = false) :
    firingWidth w leadOn leadOff = rawWidth w leadOn leadOff := by
  have range : ¬(rawWidth w leadOn leadOff < 16 ∨ 3584 < rawWidth w leadOn leadOff) := by
    rw [← widthClamped_iff, h]; simp
  rw [firingWidth, clampInt, if_neg (not_or.mp range).1, if_neg (not_or.mp range).2]

/-- Settles O50: the rounding of a lead, and the ranges of the effective edges from those of the width. -/
theorem leadsAndEffectiveEdges : Obligations.LeadsAndEffectiveEdges := by
  refine ⟨fun period deadTime h => ⟨rfl, Nat.min_le_right _ _, fun below => ?_, ?_, rfl, rfl⟩, ?_⟩
  · have unclamped : lead true period deadTime = rawLead deadTime period := by rw [lead_valid] at *; omega
    rw [unclamped]
    exact rawLead_nearest h deadTime
  · simpa [leadClamped] using rawLead_clamped_iff h deadTime
  · intro w shift leadOn leadOff rising last shortest longest back forth hOn hOff
    have on : effectiveOn w shift leadOn = w.onPhase + shift - leadOn := rfl
    have width := clampInt_range (show (16 : Int) ≤ 3584 by decide) (rawWidth w leadOn leadOff)
    have raw : rawWidth w leadOn leadOff = (w.offPhase : Int) - w.onPhase - (leadOff - leadOn) := rfl
    change 16 ≤ firingWidth w leadOn leadOff ∧ firingWidth w leadOn leadOff ≤ 3584 at width
    dsimp only
    refine ⟨by omega, by omega, by omega, by omega, by omega, by omega, fun unclamped => ?_,
      widthClamped_iff w leadOn leadOff⟩
    rw [firingWidth_unclamped unclamped, on, raw]
    omega

end Sys2Proof.Machine

/-! # The edges of held firings, channel by channel (R48 to R53, R72, R79 to R81, R90 to R92, R112) -/

namespace Sys2Proof.Machine

/-! ## Writes to a held firing and to a record, in the words of the rules -/

theorem updateFiring_eq (ch : Channel) (q : Seq) (g : Firing → Firing) (s : State) :
    updateFiring ch q g s = { s with firing := { s.firing with
      held := s.firing.held.set ch ((s.firing.held.get ch).map fun f => if f.anchorSeq = q then g f else f) } } := by
  simp [updateFiring, setHeld]

theorem goAhead_eq (ch : Channel) (q : Seq) (s : State) : goAhead ch q s = firingBecomes ch q .on s :=
  updateFiring_eq ch q _ s

theorem dropFiring_eq (ch : Channel) (q : Seq) (s : State) : dropFiring ch q s = firingLeaves ch q s := rfl

theorem updateRecord_eq (q : Seq) (f : Record → Record) (s : State) :
    updateRecord q f s = { s with chain := { s.chain with
      records := s.chain.records.map fun x => if x.seq = q then f x else x } } := by
  simp [updateRecord]

/-- One write to a record after another is one write. -/
theorem updateRecord_twice (q : Seq) (f g : Record → Record) (keeps : ∀ r, (f r).seq = r.seq) (s : State) :
    updateRecord q g (updateRecord q f s) = updateRecord q (fun r => g (f r)) s := by
  have write : ∀ r : Record, (fun r => if r.seq == q then g r else r) (if r.seq == q then f r else r)
      = if r.seq == q then g (f r) else r := by
    intro r
    by_cases h : r.seq = q <;> simp [h, keeps]
  simp only [updateRecord, List.map_map, Function.comp_def, write]

/-- A reason is added while the fate is UNDECIDED (R24). -/
theorem Record.addReason_eq (e : Reason) (r : Record) : r.addReason e =
    { r with reasons := if r.fate = .undecided then maskAdd r.reasons e.index else r.reasons } := by
  unfold Record.addReason
  split <;> rfl

/-- A reason added while the fate is UNDECIDED, and then another field written (R24). -/
theorem updateRecord_addReason (q : Seq) (e : Reason) (g : Record → Record) (s : State) :
    updateRecord q g (addReason q e s) = updateRecord q (fun r => g (r.addReason e)) s :=
  updateRecord_twice q _ g (fun r => by unfold Record.addReason; split <;> rfl) s

theorem inhibited_iff (s : State) (st : Station) : inhibited s st = true ↔ s.line.holders.get st ≠ 0 := by
  simp [inhibited]

theorem yes_iff (n : Nat) : yes n = true ↔ n = 1 := by
  simp [yes]

/-! ## The on edge (R48) -/

theorem onEdge_without_record {s : State} {q : Seq} (h : recordBySeq s q = none) (ch : Channel) :
    onEdge ch q s = firingLeaves ch q s := by
  rw [onEdge, h, dropFiring_eq]

section
variable {s : State} {q : Seq} {r : Record} (h : recordBySeq s q = some r)
include h

/-- FEED_CLUTCH and CUT_KNIFE go ahead for any record. -/
theorem onEdge_feed_cut {ch : Channel} (hc : ch = .feedClutch ∨ ch = .cutKnife) :
    onEdge ch q s = firingBecomes ch q .on s := by
  rw [onEdge, h]
  rcases hc with rfl | rfl <;> exact goAhead_eq _ q s

/-- R112: BATCH_KICKER goes ahead for the record of the kick mark. -/
theorem onEdge_kicker : onEdge .batchKicker q s =
    if s.batch.kickMark = some q then firingBecomes .batchKicker q .on s else firingLeaves .batchKicker q s := by
  rw [onEdge, h]
  simp only [kickerEdge, (mem_bySeq h).2, goAhead_eq, dropFiring_eq]

theorem onEdge_patch {ch : Channel} (hc : ch = .windowKnife ∨ ch = .patchGlue ∨ ch = .patchCut) :
    onEdge ch q s = patchEdge ch r s := by
  rw [onEdge, h]
  rcases hc with rfl | rfl | rfl <;> rfl

theorem onEdge_gum {ch : Channel} (hc : ch = .gumSeam ∨ ch = .gumFlap) : onEdge ch q s = gumEdge ch r s := by
  rw [onEdge, h]
  rcases hc with rfl | rfl <;> rfl

theorem onEdge_camera : onEdge .cameraTrigger q s = cameraEdge r s := by
  rw [onEdge, h]

theorem onEdge_gate : onEdge .rejectGate q s = gateEdge r s := by
  rw [onEdge, h]

end

/-! ## The camera (R49, R90 to R92) -/

/-- One event posted to all three ports (R159). -/
theorem portsPosted_one (e : Event) (ports : PerLink Port) : portsPosted [e] ports = ports.map (Port.post e) := rfl

/-- R92: the trigger log and its events, for a log of 16 entries at most. -/
theorem logTrigger_eq (t : Trigger) {s : State} (h : s.verdicts.triggerLog.length ≤ 16) :
    logTrigger t s = { s with
      verdicts := { s.verdicts with
        triggerLog := (if s.verdicts.triggerLog.length = 16 then s.verdicts.triggerLog.drop 1
          else s.verdicts.triggerLog) ++ [t]
        triggerOverflows := if s.verdicts.triggerLog.length = 16 then s.verdicts.triggerOverflows + 1
          else s.verdicts.triggerOverflows }
      ports := if s.verdicts.triggerLog = [] then portsPosted [.triggersWaiting] s.ports
        else if s.verdicts.triggerLog.length = 16 then portsPosted [.triggerOverflow] s.ports else s.ports } := by
  by_cases empty : s.verdicts.triggerLog = []
  · simp [logTrigger, empty, post, portsPosted_one]
  by_cases full : s.verdicts.triggerLog.length = 16
  · simp [logTrigger, empty, full, post, portsPosted_one]
  · simp [logTrigger, empty, full, Nat.lt_of_le_of_ne h full]

/-- Settles O52: the on edge by channel, and the camera's two cases. -/
theorem feedCutKickerAndCameraFirings : Obligations.FeedCutKickerAndCameraFirings := by
  refine ⟨fun ch q s => ⟨fun h => onEdge_without_record h ch, fun r h hc => onEdge_feed_cut h hc, ?_⟩, ?_⟩
  · rintro r h rfl
    exact onEdge_kicker h
  · intro r s h log
    have due : (yes (fieldsOf s r.bank).inspectEnable = true ∧ inhibited s .inspect = false ∧ r.verdict = .uninspected)
        ↔ ((fieldsOf s r.bank).inspectEnable = 1 ∧ s.line.holders.inspect = 0 ∧ r.verdict = .uninspected) := by
      simp [yes, inhibited, PerStation.get]
    simp only [onEdge_camera h, cameraEdge, due]
    refine ⟨fun hn => ?_, fun hd => ?_⟩
    · rw [if_neg hn, dropFiring_eq]
    · rw [if_pos hd, goAhead_eq, logTrigger_eq _ (by simpa using log), updateRecord_eq]

/-! ## The patch channels (R49, R72) -/

/-- The reasons that stop a patch firing are the first three of R24. -/
theorem misregistered_iff (r : Record) : misregistered r = false ↔ r.reasons &&& 7 = 0 := by
  have first : ∀ i, (7#11).getLsbD i = decide (i < 3) := by
    intro i
    by_cases h : i < 11
    · revert i; decide
    · rw [BitVec.getLsbD_of_ge _ _ (by omega)]; simp; omega
  simp only [misregistered, maskHas, Reason.index, Bool.or_eq_false_iff]
  constructor
  · rintro ⟨⟨mark, double⟩, tolerance⟩
    refine BitVec.eq_of_getLsbD_eq fun i _ => ?_
    match i with
    | 0 => simpa using mark
    | 1 => simpa using double
    | 2 => simpa using tolerance
    | i + 3 => simp [first]
  · intro h
    have bit : ∀ i < 3, r.reasons.getLsbD i = false := fun i hi => by
      have := congrArg (·.getLsbD i) h
      simpa [first, hi] using this
    exact ⟨⟨bit 0 (by decide), bit 1 (by decide)⟩, bit 2 (by decide)⟩

/-- Settles O53: the decisions of a patch firing in their order. -/
theorem patchFiringsAreDecided : Obligations.PatchFiringsAreDecided := by
  intro ch r s hc h
  have due : (yes (fieldsOf s r.bank).windowEnable = true ∧ r.patched = .due)
      ↔ ((fieldsOf s r.bank).windowEnable = 1 ∧ r.patched = .due) := by rw [yes_iff]
  have ready : (r.regError.isSome = true ∧ misregistered r = false) ↔ (r.regError ≠ none ∧ r.reasons &&& 7 = 0) := by
    rw [misregistered_iff, Option.isSome_iff_ne_none]
  have station : inhibited s .patch = true ↔ s.line.holders.patch ≠ 0 := inhibited_iff s .patch
  simp only [onEdge_patch h hc, patchEdge, due, ready, station]
  refine ⟨fun hn => ?_, fun hd hi => ?_, fun hd hi hr => ?_, fun hd hi hr => ?_⟩
  · rw [if_neg hn, dropFiring_eq]
  · rw [if_pos hd, if_pos hi, dropFiring_eq, setPatched, updateRecord_addReason, updateRecord_eq]
    simp only [Record.addReason_eq]
  · rw [if_pos hd, if_neg (not_not.mpr hi), if_neg hr, dropFiring_eq, setPatched, updateRecord_eq]
  · rw [if_pos hd, if_neg (not_not.mpr hi), if_pos hr, goAhead_eq, setPatched, updateRecord_eq]

/-! ## The gum channels (R49, R80, R81) -/

/-- `gummed` is written, and the record's entry leaves the gum progress list (R81). -/
theorem setGummed_eq (q : Seq) (w : Work) (s : State) : setGummed q w s = { s with
    chain := { s.chain with records := s.chain.records.map fun x => if x.seq = q then { x with gummed := w } else x }
    gumFold := { s.gumFold with progress := s.gumFold.progress.filter (·.seq != q) } } := by
  rw [setGummed, updateRecord_eq]; rfl

/-- The same with a reason added first (R24). -/
theorem setGummed_addReason_eq (q : Seq) (w : Work) (e : Reason) (s : State) :
    setGummed q w (addReason q e s) = { s with
      chain := { s.chain with records := s.chain.records.map fun x => if x.seq = q then { x with
        gummed := w
        reasons := if x.fate = .undecided then maskAdd x.reasons e.index else x.reasons } else x }
      gumFold := { s.gumFold with progress := s.gumFold.progress.filter (·.seq != q) } } := by
  rw [setGummed, updateRecord_addReason, updateRecord_eq]
  simp only [Record.addReason_eq]
  rfl

/-- R81: with one gum channel enabled, or the other one gone ahead before, the record is gummed. -/
theorem gumProgress_done {ch : Channel} {r : Record} {s : State}
    (h : bothGums (fieldsOf s r.bank) = false ∨ ∃ e ∈ s.gumFold.progress, e.seq = r.seq ∧ e.channel ≠ ch) :
    gumProgress ch r s = setGummed r.seq .done s := by
  unfold gumProgress
  split
  · rename_i both
    have other : (s.gumFold.progress.any fun e => e.seq == r.seq && e.channel != ch) = true := by
      simpa [both] using h
    rw [if_pos other]
  · rfl

/-- R81: the first of two gum channels to go ahead is noted. -/
theorem gumProgress_first {ch : Channel} {r : Record} {s : State} (both : bothGums (fieldsOf s r.bank) = true)
    (fresh : ∀ e ∈ s.gumFold.progress, e.seq ≠ r.seq) :
    gumProgress ch r s = { s with
      gumFold := { s.gumFold with progress := s.gumFold.progress ++ [⟨r.seq, ch⟩] } } := by
  have other : ¬(s.gumFold.progress.any fun e => e.seq == r.seq && e.channel != ch) = true := by
    simp only [List.any_eq_true, Bool.and_eq_true, beq_iff_eq, not_exists, not_and]
    exact fun e he hs => absurd hs (fresh e he)
  have entered : ¬(s.gumFold.progress.any fun e => e.seq == r.seq) = true := by
    simpa using fresh
  rw [gumProgress, if_pos both, if_neg other, if_neg entered]

/-- Settles O54: the decisions of a gum firing in their order. -/
theorem gumFiringsAreDecided : Obligations.GumFiringsAreDecided := by
  intro ch r s hc h
  have due : (gumEnabled (fieldsOf s r.bank) ch = true ∧ r.gummed = .due)
      ↔ ((ch = .gumSeam ∧ (fieldsOf s r.bank).gumSeamEnable = 1)
          ∨ (ch = .gumFlap ∧ (fieldsOf s r.bank).gumFlapEnable = 1)) ∧ r.gummed = .due := by
    simp [gumEnabled, yes]
  have station : inhibited s .gum = true ↔ s.line.holders.gum ≠ 0 := inhibited_iff s .gum
  have both : bothGums (fieldsOf s r.bank) = true
      ↔ (fieldsOf s r.bank).gumSeamEnable = 1 ∧ (fieldsOf s r.bank).gumFlapEnable = 1 := by
    simp [bothGums, yes]
  simp only [onEdge_gum h hc, gumEdge, due, station, yes_iff]
  refine ⟨fun hn => ?_, fun hd hi => ?_, fun hd hi hs => ?_, fun hd hi hs hg => ?_, fun hd hi hs hg => ⟨?_, ?_⟩⟩
  · rw [if_neg hn, dropFiring_eq]
  · rw [if_pos hd, if_pos hi, dropFiring_eq, setGummed_addReason_eq]
  · rw [if_pos hd, if_neg (not_not.mpr hi), if_pos hs, dropFiring_eq, setGummed_eq]
  · rw [if_pos hd, if_neg (not_not.mpr hi), if_neg hs, if_pos hg, dropFiring_eq, setGummed_addReason_eq]
  · intro ahead
    have done := ahead.imp_left fun hb => Bool.eq_false_iff.mpr (mt both.mp hb)
    rw [if_pos hd, if_neg (not_not.mpr hi), if_neg hs, if_neg (by simp [hg]), goAhead_eq, gumProgress_done done,
      setGummed_eq]
  · intro hb fresh
    rw [if_pos hd, if_neg (not_not.mpr hi), if_neg hs, if_neg (by simp [hg]), goAhead_eq,
      gumProgress_first (both.mpr hb) fresh]

/-! ## The reject gate and the off edge (R51, R53, R58) -/

section
variable {ch : Channel} {q : Seq} {s : State} {f : Firing}

theorem offEdge_none (h : firingFor s ch q = none) : offEdge ch q s = s := by
  simp [offEdge, h]

theorem offEdge_on (h : firingFor s ch q = some f) (on : f.state = .on) : offEdge ch q s = firingLeaves ch q s := by
  simp [offEdge, h, on, dropFiring_eq]

theorem offEdge_planned (h : firingFor s ch q = some f) (planned : f.state = .planned) : offEdge ch q s = s := by
  simp [offEdge, h, planned]

theorem offEdge_waiting (h : firingFor s ch q = some f) (waiting : f.state = .waiting) :
    offEdge ch q s = updateFiring ch q (fun g => { g with offPassed := true }) s := by
  simp [offEdge, h, waiting]

/-- R53: a firing that does not wait is not settled. -/
theorem settleWaiting_idle (h : firingFor s .rejectGate q = some f) (hw : f.state ≠ .waiting) (fate : Fate) :
    settleWaiting q fate s = s := by
  simp [settleWaiting, h, hw]

/-- R53: any fate but REJECT ends the wait. -/
theorem settleWaiting_passes (h : firingFor s .rejectGate q = some f) (hw : f.state = .waiting) {fate : Fate}
    (hf : fate ≠ .reject) : settleWaiting q fate s = firingLeaves .rejectGate q s := by
  simp [settleWaiting, h, hw, hf, dropFiring_eq]

/-- R53, R58: a REJECT opens the gate late, unless the off edge has passed; either is a late open. -/
theorem settleWaiting_rejects (h : firingFor s .rejectGate q = some f) (hw : f.state = .waiting) :
    settleWaiting q .reject s = if f.offPassed then countLateOpen (firingLeaves .rejectGate q s)
      else countLateOpen (firingBecomes .rejectGate q .on s) := by
  simp [settleWaiting, h, hw, dropFiring_eq, goAhead_eq]

end

/-- Settles O55: the off edge by the firing's state, the gate's on edge by the fate, and the settling of the wait. -/
theorem gateFiringsFollowTheFate : Obligations.GateFiringsFollowTheFate := by
  refine ⟨fun ch q s => ⟨offEdge_none, fun f h => ⟨offEdge_on h, offEdge_planned h, fun waiting => ?_⟩⟩, ?_⟩
  · rw [offEdge_waiting h waiting, updateFiring_eq]
  · intro r s h
    simp only [onEdge_gate h, gateEdge]
    refine ⟨fun fate => ?_, fun fate => ?_, fun fate ahead => ?_, fun fate there => ?_, fun f hf =>
      ⟨settleWaiting_idle hf, fun waiting => ⟨fun fate => settleWaiting_passes hf waiting, fun inTime => ?_,
        fun past => ?_⟩⟩⟩
    · rw [fate]; exact goAhead_eq _ _ _
    · rcases fate with fate | fate <;> rw [fate] <;> exact dropFiring_eq _ _ _
    · rw [fate]
      exact (if_pos ahead).trans (updateFiring_eq _ _ _ _)
    · rw [fate]
      exact (if_neg (by omega)).trans (dropFiring_eq _ _ _)
    · rw [settleWaiting_rejects hf waiting, inTime]; rfl
    · rw [settleWaiting_rejects hf waiting, past]; rfl

end Sys2Proof.Machine

/-! # Planning at a forward boundary (R39, R42, R43, R46, R52, R57) -/

namespace Sys2Proof.Machine

/-! ## One value for each channel -/

theorem PerChannel.ext_get {α : Type} {x y : PerChannel α} (h : ∀ ch, x.get ch = y.get ch) : x = y := by
  cases x; cases y
  simp only [PerChannel.mk.injEq]
  exact ⟨h .feedClutch, h .cutKnife, h .windowKnife, h .patchGlue, h .patchCut, h .gumSeam, h .gumFlap,
    h .cameraTrigger, h .rejectGate, h .batchKicker⟩

theorem PerChannel.get_set {α : Type} (x : PerChannel α) (k : Channel) (v : α) (ch : Channel) :
    (x.set k v).get ch = if ch = k then v else x.get ch := by
  cases k <;> cases ch <;> rfl

/-! ## What is planned for a channel -/

section
variable (s : State) (ch : Channel)

/-- The firing planned for an anchor record, in a pitch counted from the present one. -/
def plan (x : Record × Int) : Firing := plannedFiring ch x.1 x.2 s

/-- The record of a place, where its bank enables the channel (R42, R46). -/
def enabledAt (place : Option Record) : List Record := place.toList.filter (channelEnabled s ch)

/-- After a gap: the record at the anchor, unless its eff_on is below 0 (R46). -/
def presentAnchors : List (Record × Int) :=
  ((enabledAt s ch (recordAt s (anchorPosition s.geometry ch))).map fun r => (r, (0 : Int))).filter
    fun x => decide (0 ≤ (plan s ch x).effOn)

/-- The record one position below the anchor, for the next pitch (R46). -/
def nextAnchors : List (Record × Int) :=
  (enabledAt s ch (recordBefore s (anchorPosition s.geometry ch))).map fun r => (r, (1 : Int))

/-- What is planned at a boundary for a channel other than FEED_CLUTCH (R46). -/
def stationAnchors : List (Record × Int) :=
  (if s.firing.planningContinuous then [] else presentAnchors s ch) ++ nextAnchors s ch

/-- What is planned at a boundary for FEED_CLUTCH: the record just created (R52). -/
def feedAnchors : List (Record × Int) := (enabledAt s .feedClutch (recordAt s 0)).map fun r => (r, (0 : Int))

/-- How many of the firings planned have a clamped width (R43). -/
def clampedWidths (xs : List (Record × Int)) : Nat :=
  (xs.filter fun x => widthClamped (windowOf s ch x.1) (s.firing.leadOn.get ch) (s.firing.leadOff.get ch)).length

end

/-- Firings planned for a channel enter its list, the clamped widths counted (R43, R47). -/
def entered (ch : Channel) (xs : List (Record × Int)) (s : State) : State :=
  { s with firing := { s.firing with
      held := s.firing.held.set ch (s.firing.held.get ch ++ xs.map (plan s ch))
      widthClamps := s.firing.widthClamps + BitVec.ofNat 32 (clampedWidths s ch xs) } }

theorem countWidth_eq (ch : Channel) (x : Record × Int) (s : State) :
    countWidth ch x.1 s = { s with firing := { s.firing with
      widthClamps := s.firing.widthClamps + BitVec.ofNat 32 (clampedWidths s ch [x]) } } := by
  unfold countWidth clampedWidths
  split <;> rename_i clamped <;> simp [clamped]

theorem entered_nil (ch : Channel) (s : State) : entered ch [] s = s := by
  have held : s.firing.held.set ch (s.firing.held.get ch ++ []) = s.firing.held :=
    PerChannel.ext_get fun k => by rw [PerChannel.get_set]; split <;> simp_all
  simp only [entered, List.map_nil, held, clampedWidths, List.filter_nil, List.length_nil, BitVec.add_zero]

theorem entered_one (ch : Channel) (x : Record × Int) (s : State) :
    entered ch [x] s = hold ch (plan s ch x) (countWidth ch x.1 s) := by
  rw [countWidth_eq]; rfl

/-- Firings planned one after the other for one channel. -/
theorem entered_entered (ch : Channel) (xs ys : List (Record × Int)) (s : State) :
    entered ch ys (entered ch xs s) = entered ch (xs ++ ys) s := by
  have clamps : clampedWidths s ch (xs ++ ys) = clampedWidths s ch xs + clampedWidths s ch ys := by
    simp [clampedWidths]
  have held : (s.firing.held.set ch (s.firing.held.get ch ++ xs.map (plan s ch))).set ch
      ((s.firing.held.set ch (s.firing.held.get ch ++ xs.map (plan s ch))).get ch ++ ys.map (plan s ch))
      = s.firing.held.set ch (s.firing.held.get ch ++ (xs ++ ys).map (plan s ch)) :=
    PerChannel.ext_get fun k => by simp only [PerChannel.get_set]; split <;> simp
  simp only [entered, clamps, BitVec.ofNat_add, ← BitVec.add_assoc, ← held]
  rfl

theorem planNext_eq (ch : Channel) (s : State) : planNext ch s = entered ch (nextAnchors s ch) s := by
  unfold planNext nextAnchors enabledAt
  cases recordBefore s (anchorPosition s.geometry ch) with
  | none => exact (entered_nil ch s).symm
  | some r =>
    by_cases enabled : channelEnabled s ch r = true
    · simpa [enabled, plan] using (entered_one ch (r, 1) s).symm
    · simpa [enabled] using (entered_nil ch s).symm

theorem planPresent_eq (ch : Channel) (s : State) : planPresent ch s = entered ch (presentAnchors s ch) s := by
  unfold planPresent presentAnchors enabledAt
  cases recordAt s (anchorPosition s.geometry ch) with
  | none => exact (entered_nil ch s).symm
  | some r =>
    by_cases enabled : channelEnabled s ch r = true
    · by_cases ahead : 0 ≤ (plannedFiring ch r 0 s).effOn
      · simpa [enabled, plan, ahead] using (entered_one ch (r, 0) s).symm
      · simpa [enabled, plan, ahead] using (entered_nil ch s).symm
    · simpa [enabled] using (entered_nil ch s).symm

/-- R46: a channel's planning, after a gap for the present pitch first. -/
theorem planStation_eq (ch : Channel) (s : State) :
    planNext ch (if !s.firing.planningContinuous then planPresent ch s else s)
      = entered ch (stationAnchors s ch) s := by
  cases continuous : s.firing.planningContinuous with
  | true => simpa [stationAnchors, continuous] using planNext_eq ch s
  | false =>
    simp only [stationAnchors, continuous, planPresent_eq, planNext_eq, Bool.not_false, if_true, if_false,
      Bool.false_eq_true]
    exact entered_entered ch _ _ s

/-! ## Planning for all stations -/

/-- The firings of some channels planned, each from the same chain and leads. -/
def enteredAll (channels : List Channel) (s : State) : State :=
  { s with firing := { s.firing with
      held := PerChannel.ofFn fun ch => s.firing.held.get ch
        ++ if ch ∈ channels then (stationAnchors s ch).map (plan s ch) else []
      widthClamps := s.firing.widthClamps
        + BitVec.ofNat 32 (channels.map fun ch => clampedWidths s ch (stationAnchors s ch)).sum } }

theorem enteredAll_nil (s : State) : enteredAll [] s = s := by
  have held : (PerChannel.ofFn fun ch => s.firing.held.get ch) = s.firing.held :=
    PerChannel.ext_get fun k => PerChannel.get_ofFn _ k
  simp [enteredAll, held]

/-- What is planned for one channel does not change what is planned for the others. -/
theorem enteredAll_cons {ch : Channel} {channels : List Channel} (h : ch ∉ channels) (s : State) :
    enteredAll channels (entered ch (stationAnchors s ch) s) = enteredAll (ch :: channels) s := by
  have held : (enteredAll channels (entered ch (stationAnchors s ch) s)).firing.held
      = (enteredAll (ch :: channels) s).firing.held := by
    refine PerChannel.ext_get fun k => ?_
    simp only [enteredAll, PerChannel.get_ofFn, List.mem_cons]
    change ((s.firing.held.set ch _).get k) ++ (if k ∈ channels then (stationAnchors s k).map (plan s k) else []) = _
    rw [PerChannel.get_set]
    by_cases same : k = ch
    · subst same; simp [h]
    · simp [same]
  have clamps : (enteredAll channels (entered ch (stationAnchors s ch) s)).firing.widthClamps
      = (enteredAll (ch :: channels) s).firing.widthClamps := by
    simp only [enteredAll, List.map_cons, List.sum_cons, BitVec.ofNat_add, ← BitVec.add_assoc]
    rfl
  exact congrArg₂ (fun held clamps =>
    ({ s with firing := { s.firing with held := held, widthClamps := clamps } } : State)) held clamps

theorem foldl_planStation (channels : List Channel) :
    ∀ s : State, channels.Nodup →
      channels.foldl (fun x ch => planNext ch (if !s.firing.planningContinuous then planPresent ch x else x)) s
        = enteredAll channels s := by
  induction channels with
  | nil => exact fun s _ => (enteredAll_nil s).symm
  | cons ch channels ih =>
    intro s nodup
    obtain ⟨fresh, rest⟩ := List.nodup_cons.mp nodup
    rw [List.foldl_cons, planStation_eq, ← enteredAll_cons fresh]
    exact ih (entered ch (stationAnchors s ch) s) rest

/-! ## FEED_CLUTCH (R52) -/

/-- Whether a FEED_CLUTCH firing is late: its eff_on is below 0. -/
def feedLate (s : State) (x : Record × Int) : Bool := decide ((plan s .feedClutch x).effOn < 0)

/-- A FEED_CLUTCH firing as it enters the list: planned, started late, or skipped. -/
def feedStarted (s : State) (x : Record × Int) : List Firing :=
  if feedLate s x = false then [plan s .feedClutch x]
  else if 0 < (plan s .feedClutch x).effOff then [{ plan s .feedClutch x with state := .on }] else []

/-- FEED_CLUTCH firings enter its list, the clamped widths and the late opens counted. -/
def fed (xs : List (Record × Int)) (s : State) : State :=
  { s with firing := { s.firing with
      held := s.firing.held.set .feedClutch (s.firing.held.feedClutch ++ xs.flatMap (feedStarted s))
      widthClamps := s.firing.widthClamps + BitVec.ofNat 32 (clampedWidths s .feedClutch xs)
      lateOpens := s.firing.lateOpens + BitVec.ofNat 32 (xs.filter (feedLate s)).length } }

theorem fed_nil (s : State) : fed [] s = s := by
  simp [fed, clampedWidths, PerChannel.set]

theorem fed_one (x : Record × Int) (s : State) :
    fed [x] s = placeFeed (plan s .feedClutch x) (countWidth .feedClutch x.1 s) := by
  rw [countWidth_eq]
  by_cases late : (plan s .feedClutch x).effOn < 0
  · by_cases started : 0 < (plan s .feedClutch x).effOff
    · simp [fed, placeFeed, feedStarted, feedLate, late, started, hold, setHeld, countLateOpen, PerChannel.get]
    · simp [fed, placeFeed, feedStarted, feedLate, late, started, countLateOpen, PerChannel.set]
  · simp [fed, placeFeed, feedStarted, feedLate, Int.not_lt.mp late, hold, setHeld, PerChannel.get]

theorem planFeed_eq (s : State) : planFeed s = fed (feedAnchors s) s := by
  unfold planFeed feedAnchors enabledAt
  cases recordAt s 0 with
  | none => exact (fed_nil s).symm
  | some r =>
    by_cases enabled : channelEnabled s .feedClutch r = true
    · simpa [enabled, plan] using (fed_one (r, 0) s).symm
    · simpa [enabled] using (fed_nil s).symm

/-! ## All channels (R46, R57) -/

/-- What is planned at a boundary for a channel. -/
def anchors (s : State) (ch : Channel) : List (Record × Int) :=
  if ch = .feedClutch then feedAnchors s else stationAnchors s ch

theorem mem_plannedChannels (ch : Channel) : ch ∈ plannedChannels ↔ ch ≠ .feedClutch := by
  simp [plannedChannels, ch.mem_all]

theorem planFirings_eq (s : State) : planFirings s = { s with firing := { s.firing with
    held := PerChannel.ofFn fun ch => s.firing.held.get ch ++
      (if ch = .feedClutch then (anchors s ch).flatMap (feedStarted s) else (anchors s ch).map (plan s ch))
    widthClamps := s.firing.widthClamps
      + BitVec.ofNat 32 (Channel.all.map fun ch => clampedWidths s ch (anchors s ch)).sum
    lateOpens := s.firing.lateOpens
      + BitVec.ofNat 32 ((anchors s .feedClutch).filter (feedLate s)).length } } := by
  have stations : planFirings s = fed (feedAnchors s) (enteredAll plannedChannels s) := by
    have all := foldl_planStation plannedChannels s (by decide)
    unfold planFirings
    dsimp only
    rw [all, planFeed_eq]
    rfl
  have held : (planFirings s).firing.held = PerChannel.ofFn fun ch => s.firing.held.get ch ++
      (if ch = .feedClutch then (anchors s ch).flatMap (feedStarted s) else (anchors s ch).map (plan s ch)) := by
    refine PerChannel.ext_get fun k => ?_
    rw [stations, PerChannel.get_ofFn]
    change ((PerChannel.ofFn _).set .feedClutch _).get k = _
    rw [PerChannel.get_set, PerChannel.get_ofFn]
    by_cases feed : k = .feedClutch
    · subst feed
      have others : (enteredAll plannedChannels s).firing.held.feedClutch = s.firing.held.get .feedClutch := by
        simp [enteredAll, PerChannel.ofFn, mem_plannedChannels]
      simp only [if_true, anchors, others]
      rfl
    · simp [feed, mem_plannedChannels, anchors]
  have clamps : (planFirings s).firing.widthClamps = s.firing.widthClamps
      + BitVec.ofNat 32 (Channel.all.map fun ch => clampedWidths s ch (anchors s ch)).sum := by
    have others : (plannedChannels.map fun ch => clampedWidths s ch (stationAnchors s ch))
        = plannedChannels.map fun ch => clampedWidths s ch (anchors s ch) :=
      List.map_congr_left fun ch h => by rw [anchors, if_neg ((mem_plannedChannels ch).mp h)]
    have all : Channel.all = .feedClutch :: plannedChannels := by decide
    rw [stations, all, List.map_cons, List.sum_cons, ← others, Nat.add_comm, BitVec.ofNat_add, ← BitVec.add_assoc]
    rfl
  rw [← held, ← clamps, stations]
  rfl

theorem planningStep_idle {s : State} (idle : s.line.state.running = false) :
    planningStep s = { s with firing := { s.firing with planningContinuous := false } } := by
  simp [planningStep, idle]

theorem planningStep_running {s : State} (running : s.line.state.running = true) :
    planningStep s = { s with firing := { s.firing with
      held := PerChannel.ofFn fun ch => s.firing.held.get ch ++
        (if ch = .feedClutch then (anchors s ch).flatMap (feedStarted s) else (anchors s ch).map (plan s ch))
      widthClamps := s.firing.widthClamps
        + BitVec.ofNat 32 (Channel.all.map fun ch => clampedWidths s ch (anchors s ch)).sum
      lateOpens := s.firing.lateOpens
        + BitVec.ofNat 32 ((anchors s .feedClutch).filter (feedLate s)).length
      planningContinuous := true
      gateHold := false } } := by
  rw [planningStep, if_pos running, planFirings_eq]

end Sys2Proof.Machine

/-! # The Firing Unit at a forward boundary (R41, R45 to R47, R53) -/

namespace Sys2Proof.Machine

/-! ## Overdue edges (R45, R47, R51) -/

/-- An edge that fell in the pitch now closing. -/
theorem mem_fallen_iff (ch : Channel) (q : Seq) (isOn : Bool) (phase : Int) (x : OverdueEdge) :
    x ∈ (if phase < 4096 then [(⟨phase, ⟨ch, q, isOn⟩⟩ : OverdueEdge)] else [])
      ↔ ch = x.edge.channel ∧ q = x.edge.seq ∧ x.phase < 4096 ∧ x.edge.isOn = isOn ∧ x.phase = phase := by
  obtain ⟨at', channel, seq, on⟩ := x
  split
  · simp only [List.mem_singleton, OverdueEdge.mk.injEq, Edge.mk.injEq]
    constructor
    · rintro ⟨rfl, rfl, rfl, rfl⟩; exact ⟨rfl, rfl, ‹_›, rfl, rfl⟩
    · rintro ⟨rfl, rfl, -, rfl, rfl⟩; exact ⟨rfl, rfl, rfl, rfl⟩
  · simp only [List.not_mem_nil, false_iff]
    rintro ⟨-, -, fell, -, rfl⟩
    contradiction

/-- The overdue edges of a firing not yet decided: its on edge, and with it its off edge. -/
theorem overdueEdges_planned {f : Firing} (h : f.state = .planned) (ch : Channel) : f.overdueEdges ch =
    if f.onEdgeAt < 4096 then
      (if f.onEdgeAt < 4096 then [⟨f.onEdgeAt, ⟨ch, f.anchorSeq, true⟩⟩] else [])
        ++ (if f.offEdgeAt < 4096 then [⟨f.offEdgeAt, ⟨ch, f.anchorSeq, false⟩⟩] else [])
    else [] := by
  simp only [Firing.overdueEdges, h]
  split <;> rfl

/-- The overdue edges of one held firing. -/
theorem mem_firing_overdueEdges (ch : Channel) (f : Firing) (x : OverdueEdge) :
    x ∈ f.overdueEdges ch ↔ ch = x.edge.channel ∧ f.anchorSeq = x.edge.seq ∧ x.phase < 4096
      ∧ ((x.edge.isOn = true ∧ f.state = .planned ∧ x.phase = f.effOn + 4096 * f.anchorPitch)
        ∨ (x.edge.isOn = false ∧ (f.state = .on ∨ (f.state = .planned ∧ f.effOn + 4096 * f.anchorPitch < 4096))
          ∧ x.phase = f.effOff + 4096 * f.anchorPitch)) := by
  cases h : f.state with
  | planned =>
    rw [overdueEdges_planned h]
    by_cases due : f.onEdgeAt < 4096
    · rw [if_pos due, List.mem_append, mem_fallen_iff, mem_fallen_iff]
      simp only [Firing.onEdgeAt, Firing.offEdgeAt] at due ⊢
      simp only [due, true_and, and_true, reduceCtorEq, false_or]
      tauto
    · rw [if_neg due]
      simp only [Firing.onEdgeAt] at due
      simp only [List.not_mem_nil, due, and_false, reduceCtorEq, or_false, false_and, true_and, false_iff]
      rintro ⟨-, -, fell, -, at'⟩
      exact due (at' ▸ fell)
  | on =>
    simp only [Firing.overdueEdges, h]
    rw [mem_fallen_iff]
    simp [Firing.offEdgeAt]
  | waiting =>
    simp [Firing.overdueEdges, h]

theorem mem_overdueEdges (s : State) (x : OverdueEdge) :
    x ∈ overdueEdges s ↔ ∃ f ∈ s.firing.held.get x.edge.channel, f.anchorSeq = x.edge.seq ∧ x.phase < 4096
      ∧ ((x.edge.isOn = true ∧ f.state = .planned ∧ x.phase = f.effOn + 4096 * f.anchorPitch)
        ∨ (x.edge.isOn = false ∧ (f.state = .on ∨ (f.state = .planned ∧ f.effOn + 4096 * f.anchorPitch < 4096))
          ∧ x.phase = f.effOff + 4096 * f.anchorPitch)) := by
  simp only [overdueEdges, List.mem_flatMap, mem_firing_overdueEdges]
  constructor
  · rintro ⟨ch, -, f, hf, rfl, h⟩
    exact ⟨f, hf, h⟩
  · rintro ⟨f, hf, h⟩
    exact ⟨x.edge.channel, x.edge.channel.mem_all, f, hf, rfl, h⟩

/-- The place of an overdue edge in the order of R47: by phase, and at one phase on edges first. -/
def OverdueEdge.rank (x : OverdueEdge) : Int := 2 * x.phase + if x.edge.isOn then 0 else 1

theorem OverdueEdge.before_iff (x y : OverdueEdge) : x.before y = true ↔ x.rank < y.rank := by
  simp only [OverdueEdge.before, OverdueEdge.rank]
  cases x.edge.isOn <;> cases y.edge.isOn <;> simp <;> omega

theorem OverdueEdge.not_before_iff (x y : OverdueEdge) : y.before x = false ↔ x.phase < y.phase
    ∨ (x.phase = y.phase ∧ (x.edge.isOn = true ∨ y.edge.isOn = false)) := by
  rw [Bool.eq_false_iff, ne_eq, OverdueEdge.before_iff]
  simp only [OverdueEdge.rank]
  cases x.edge.isOn <;> cases y.edge.isOn <;> simp <;> omega

/-- Among overdue edges there is one that none must come before. -/
theorem overdue_minimal (tasks : List OverdueEdge) (h : tasks ≠ []) :
    ∃ t ∈ tasks, ∀ y ∈ tasks, y.before t = false := by
  obtain ⟨t, ht, least⟩ := tasks.toFinset.exists_min_image OverdueEdge.rank (List.toFinset_nonempty_iff tasks |>.mpr h)
  refine ⟨t, List.mem_toFinset.mp ht, fun y hy => ?_⟩
  rw [Bool.eq_false_iff, ne_eq, OverdueEdge.before_iff]
  exact Int.not_lt.mpr (least y (List.mem_toFinset.mpr hy))

/-- Step 1: the overdue edges in an order of R47, after which no firing is WAITING (R53). -/
theorem takeOverdue_order (s : State) :
    ∃ order : List (OverdueEdge × Nat), (order.map Prod.fst).Perm (overdueEdges s)
      ∧ (order.map Prod.fst).Pairwise (fun x y => x.phase < y.phase
          ∨ (x.phase = y.phase ∧ (x.edge.isOn = true ∨ y.edge.isOn = false)))
      ∧ takeOverdue s = dropWaiting (takenInOrder (fun x : OverdueEdge => takeEdge x.edge) order s) := by
  obtain ⟨order, perm, sorted, run⟩ := runFree_order (fun x : OverdueEdge => takeEdge x.edge) OverdueEdge.before
    overdue_minimal (overdueEdges s).length (overdueEdges s) s rfl
  exact ⟨order, perm, sorted.imp fun h => (OverdueEdge.not_before_iff _ _).mp h, congrArg dropWaiting run⟩

/-! ## The lead snapshot (R41, R58) -/

theorem takeSnapshot_eq (period : Nat) (valid : Bool) {s t : State} (geometry : t.geometry = s.geometry) :
    takeSnapshot period valid t = { t with firing := { t.firing with
      leadOn := PerChannel.ofFn fun ch => lead valid period (s.geometry.dtOn.get ch)
      leadOff := PerChannel.ofFn fun ch => lead valid period (s.geometry.dtOff.get ch)
      leadClamps := t.firing.leadClamps + BitVec.ofNat 32
        ((Channel.all.filter fun ch => leadClamped valid period (s.geometry.dtOn.get ch)).length
          + (Channel.all.filter fun ch => leadClamped valid period (s.geometry.dtOff.get ch)).length) } } := by
  rw [← geometry]; rfl

/-- Settles O51: the four steps of a boundary, the edges of the held firings, planning, and the tables of R39, R42. -/
theorem planningHoldsTheNextPitch : Obligations.PlanningHoldsTheNextPitch := by
  refine ⟨fun period valid s => ⟨?_, mem_overdueEdges s, mem_edgesAt 0 s⟩,
    fun s => ⟨planningStep_idle, planningStep_running⟩, fun g => rfl, fun ch r => by cases ch <;> rfl⟩
  obtain ⟨overdue, perm, sorted, run⟩ := takeOverdue_order s
  have geometry : (openPitch (takeOverdue s)).geometry = s.geometry := by simp
  obtain ⟨edges, edgesPerm, edgesRun⟩ := runAll_order takeEdge
    (edgesAt 0 (planningStep (takeSnapshot period valid (openPitch (takeOverdue s)))))
    (planningStep (takeSnapshot period valid (openPitch (takeOverdue s))))
  rw [← firingBoundary] at edgesRun
  rw [takeSnapshot_eq period valid geometry, run] at edgesPerm edgesRun
  exact ⟨overdue, edges, perm, sorted, edgesPerm, edgesRun⟩

end Sys2Proof.Machine

/-! # The supply and backlog causes stand while their conditions hold (R75, R83, R114) -/

namespace Sys2Proof.Machine

/-! ## The feed-inhibit set when a cause is added or removed (R145) -/

theorem addFeedCause_feedInhibit (c : FeedCause) (s : State) :
    (addFeedCause c s).line.feedInhibit = maskSet s.line.feedInhibit c true := by
  simp only [addFeedCause]; split <;> rfl

theorem setFeedCause_feedInhibit (c : FeedCause) (present : Bool) (s : State) :
    (setFeedCause c present s).line.feedInhibit = maskSet s.line.feedInhibit c present := by
  cases present
  · rfl
  · exact addFeedCause_feedInhibit c s

/-- Whether a cause stands in the feed-inhibit set. -/
def inhibits (s : State) (c : FeedCause) : Bool := maskHas s.line.feedInhibit c.index

theorem inhibits_setFeedCause (c d : FeedCause) (present : Bool) (s : State) :
    inhibits (setFeedCause c present s) d = if c = d then present else inhibits s d := by
  rw [inhibits, setFeedCause_feedInhibit, maskHas_maskSet, inhibits]

theorem inhibits_retakeSupplies (s : State) (c : FeedCause) :
    inhibits (retakeSupplies s) c
      = if c = .gumLow then gumLow s else if c = .patchSupply then patchSupplyLow s else inhibits s c := by
  have patch : patchSupplyLow (setFeedCause .gumLow (gumLow s) s) = patchSupplyLow s :=
    patchSupplyLow_congr (by simp) (by simp)
  rw [retakeSupplies, inhibits_setFeedCause, inhibits_setFeedCause, patch]
  cases c <;> rfl

/-! ## The two parts of the law -/

/-- The supply causes follow their conditions (R75, R83). -/
structure SuppliesTold (s : State) : Prop where
  gum : inhibits s .gumLow = gumLow s
  patch : inhibits s .patchSupply = patchSupplyLow s

/-- The backlog cause follows the backlog, which the length of the queue bounds (R114). -/
structure BacklogTold (s : State) : Prop where
  cause : inhibits s .packerBacklog = s.batch.backlog
  long : s.batch.backlog = true → 9 ≤ s.batch.queue.length
  short : s.batch.backlog = false → s.batch.queue.length ≤ 11

theorem supplyLaw_iff (s : State) : SupplyLaw s ↔ SuppliesTold s ∧ BacklogTold s :=
  ⟨fun ⟨gum, patch, cause, long, short⟩ => ⟨⟨gum, patch⟩, cause, long, short⟩,
    fun ⟨⟨gum, patch⟩, cause, long, short⟩ => ⟨gum, patch, cause, long, short⟩⟩

section
variable {s t : State}

/-- The conditions of the supply causes rest on the active bank's fields and the two levels (R75, R83). -/
theorem gumLow_of_active (active : activeBank t = activeBank s)
    (fields : ∀ b, activeBank s = some b → fieldsOf t b = fieldsOf s b) (level : t.sensors.gumOk = s.sensors.gumOk) :
    gumLow t = gumLow s := by
  unfold gumLow
  rw [active]
  cases h : activeBank s with
  | none => rfl
  | some b => simp only [fields b h, level]

theorem patchSupplyLow_of_active (active : activeBank t = activeBank s)
    (fields : ∀ b, activeBank s = some b → fieldsOf t b = fieldsOf s b)
    (level : t.sensors.patchWebOk = s.sensors.patchWebOk) : patchSupplyLow t = patchSupplyLow s := by
  unfold patchSupplyLow
  rw [active]
  cases h : activeBank s with
  | none => rfl
  | some b => simp only [fields b h, level]

theorem SuppliesTold.of_active (h : SuppliesTold s) (inhibit : t.line.feedInhibit = s.line.feedInhibit)
    (active : activeBank t = activeBank s) (fields : ∀ b, activeBank s = some b → fieldsOf t b = fieldsOf s b)
    (sensors : t.sensors = s.sensors) : SuppliesTold t where
  gum := by rw [inhibits, inhibit, gumLow_of_active active fields (by rw [sensors])]; exact h.gum
  patch := by rw [inhibits, inhibit, patchSupplyLow_of_active active fields (by rw [sensors])]; exact h.patch

/-- The supply causes stay told while the banks and the levels stay and only other causes come and go. -/
theorem SuppliesTold.of_causes (h : SuppliesTold s)
    (inhibit : ∀ c, c = .gumLow ∨ c = .patchSupply → inhibits t c = inhibits s c) (banks : t.banks = s.banks)
    (sensors : t.sensors = s.sensors) : SuppliesTold t where
  gum := by rw [inhibit _ (.inl rfl), gumLow_congr banks sensors]; exact h.gum
  patch := by rw [inhibit _ (.inr rfl), patchSupplyLow_congr banks sensors]; exact h.patch

theorem BacklogTold.of_cause (h : BacklogTold s) (cause : inhibits t .packerBacklog = inhibits s .packerBacklog)
    (backlog : t.batch.backlog = s.batch.backlog) (queue : t.batch.queue = s.batch.queue) : BacklogTold t where
  cause := by rw [cause, backlog]; exact h.cause
  long := by rw [backlog, queue]; exact h.long
  short := by rw [backlog, queue]; exact h.short

/-- The law speaks of the feed-inhibit set, the banks, the levels, the backlog and the queue alone. -/
theorem SupplyLaw.of_eq (h : SupplyLaw s) (inhibit : t.line.feedInhibit = s.line.feedInhibit)
    (banks : t.banks = s.banks) (sensors : t.sensors = s.sensors) (backlog : t.batch.backlog = s.batch.backlog)
    (queue : t.batch.queue = s.batch.queue) : SupplyLaw t := by
  obtain ⟨supplies, told⟩ := (supplyLaw_iff s).mp h
  have same : ∀ c, inhibits t c = inhibits s c := fun c => by rw [inhibits, inhibit, inhibits]
  exact (supplyLaw_iff t).mpr ⟨supplies.of_causes (fun c _ => same c) banks sensors, told.of_cause (same _) backlog queue⟩

/-- A unit's work that writes neither the line nor the banks nor the batch. -/
theorem SupplyLaw.of_units (h : SupplyLaw s) (line : t.line = s.line) (banks : t.banks = s.banks)
    (sensors : t.sensors = s.sensors) (batch : t.batch = s.batch) : SupplyLaw t :=
  h.of_eq (by rw [line]) banks sensors (by rw [batch]) (by rw [batch])

/-- A step of the banks that leaves the active bank and its fields. -/
theorem SupplyLaw.of_active (h : SupplyLaw s) (inhibit : t.line.feedInhibit = s.line.feedInhibit)
    (active : activeBank t = activeBank s) (fields : ∀ b, activeBank s = some b → fieldsOf t b = fieldsOf s b)
    (sensors : t.sensors = s.sensors) (batch : t.batch = s.batch) : SupplyLaw t := by
  obtain ⟨supplies, told⟩ := (supplyLaw_iff s).mp h
  exact (supplyLaw_iff t).mpr ⟨supplies.of_active inhibit active fields sensors,
    told.of_cause (by rw [inhibits, inhibit, inhibits]) (by rw [batch]) (by rw [batch])⟩

/-- A bank that is not ACTIVE put into another state that is not ACTIVE. -/
theorem setBankState_supplyLaw (h : SupplyLaw s) {b : BankId} {st : BankState} (was : bankState s b ≠ .active)
    (is : st ≠ .active) : SupplyLaw (setBankState b st s) := by
  refine h.of_active rfl (bankIn_congr fun k => ?_) (fun k _ => fieldsOf_setBankState b st s k) rfl rfl
  rw [bankState_setBankState]
  split
  · rename_i same; simp [same, was, is]
  · rfl

/-! ## The link holds (R146, R148) -/

/-- A cause that is neither a supply nor the backlog made present or absent. -/
theorem setFeedCause_supplyLaw (h : SupplyLaw s) {c : FeedCause} (gum : c ≠ .gumLow) (patch : c ≠ .patchSupply)
    (backlog : c ≠ .packerBacklog) (present : Bool) : SupplyLaw (setFeedCause c present s) := by
  obtain ⟨supplies, told⟩ := (supplyLaw_iff s).mp h
  refine (supplyLaw_iff _).mpr ⟨supplies.of_causes (fun d hd => ?_) (by simp) (by simp),
    told.of_cause ?_ (by simp) (by simp)⟩
  · rw [inhibits_setFeedCause, if_neg]
    rintro rfl
    exact hd.elim gum patch
  · rw [inhibits_setFeedCause, if_neg backlog]

theorem holdCause_supplyLaw (h : SupplyLaw s) (l : Link) (present : Bool) :
    SupplyLaw (setFeedCause (holdOf l) present s) :=
  setFeedCause_supplyLaw h (by cases l <;> decide) (by cases l <;> decide) (by cases l <;> decide) present

theorem clearHolds_supplyLaw (h : SupplyLaw s) : SupplyLaw (clearHolds s) := by
  have cleared := holdCause_supplyLaw (holdCause_supplyLaw (holdCause_supplyLaw h .line false) .inspection false)
    .packer false
  exact cleared.of_eq rfl rfl rfl rfl rfl

/-! ## The backlog (R111, R114, R116) -/

/-- Whatever the queue's length has become, checking it brings the backlog in step with it. -/
theorem checkBacklog_told (cause : inhibits s .packerBacklog = s.batch.backlog) : BacklogTold (checkBacklog s) := by
  unfold checkBacklog
  split
  · rename_i full
    refine ⟨?_, fun _ => ?_, fun none => ?_⟩
    · exact (inhibits_setFeedCause .packerBacklog .packerBacklog true _).trans (by simp)
    · simp only [addFeedCause_batch, post_batch]; omega
    · simp at none
  · rename_i notFull
    split
    · rename_i drained
      exact ⟨inhibits_setFeedCause .packerBacklog .packerBacklog false _, nofun, fun _ => Nat.le_trans drained.2 (by decide)⟩
    · rename_i notDrained
      refine ⟨cause, fun backlog => ?_, fun clear => ?_⟩
      · have := mt (And.intro backlog) notDrained; omega
      · have := mt (And.intro clear) notFull; omega

theorem checkBacklog_supplies (h : SuppliesTold s) : SuppliesTold (checkBacklog s) := by
  refine h.of_causes (fun c hc => ?_) (by simp) (by simp)
  have apart : FeedCause.packerBacklog ≠ c := by rintro rfl; simp at hc
  unfold checkBacklog
  split
  · exact (inhibits_setFeedCause .packerBacklog c true _).trans (if_neg apart)
  · split
    · exact (inhibits_setFeedCause .packerBacklog c false _).trans (if_neg apart)
    · rfl

theorem checkBacklog_supplyLaw (supplies : SuppliesTold s) (cause : inhibits s .packerBacklog = s.batch.backlog) :
    SupplyLaw (checkBacklog s) :=
  (supplyLaw_iff _).mpr ⟨checkBacklog_supplies supplies, checkBacklog_told cause⟩

theorem closeBatch_supplyLaw (h : SupplyLaw s) (cause : CloseCause) : SupplyLaw (closeBatch cause s) := by
  unfold closeBatch
  split
  · exact h
  · obtain ⟨supplies, told⟩ := (supplyLaw_iff s).mp h
    exact checkBacklog_supplyLaw (supplies.of_causes (fun _ _ => rfl) rfl rfl) told.cause

/-! ## The changeover (R130, R131) -/

/-- The supplies taken anew are told, whatever stood in the set. -/
theorem retakeSupplies_told (s : State) : SuppliesTold (retakeSupplies s) where
  gum := by
    rw [inhibits_retakeSupplies, if_pos rfl]
    exact (gumLow_congr (by simp) (by simp)).symm
  patch := by
    rw [inhibits_retakeSupplies, if_neg (by decide), if_pos rfl]
    exact (patchSupplyLow_congr (by simp) (by simp)).symm

theorem retakeSupplies_supplyLaw (told : BacklogTold s) : SupplyLaw (retakeSupplies s) :=
  (supplyLaw_iff _).mpr ⟨retakeSupplies_told s,
    told.of_cause (by rw [inhibits_retakeSupplies]; rfl) (by simp) (by simp)⟩

/-- Of the banks changing only the banks and the ports are written. -/
theorem banksChanged_written (b : BankId) (s : State) :
    banksChanged b s = { s with banks := (banksChanged b s).banks, ports := (banksChanged b s).ports } := by
  unfold banksChanged
  split
  · rfl
  · unfold retireBank
    split <;> rfl


/-- R130: the supplies are taken anew with the bank now ACTIVE; the backlog is not touched. -/
theorem takeChangeover_supplyLaw (h : SupplyLaw s) : SupplyLaw (takeChangeover s) := by
  cases armed : armedBank s with
  | none => rwa [takeChangeover_unarmed armed]
  | some b =>
    have changed : SupplyLaw s → BacklogTold (banksChanged b s) := fun h => by
      rw [banksChanged_written]
      exact ((supplyLaw_iff s).mp h).2.of_cause rfl rfl rfl
    rw [takeChangeover_armed armed]
    exact retakeSupplies_supplyLaw ((changed h).of_cause rfl rfl rfl)

theorem releaseNotices_supplyLaw (h : SupplyLaw s) (before : List Record) : SupplyLaw (releaseNotices before s) :=
  h.of_active (by simp) (bankIn_releaseNotices (by decide) (by decide) before s)
    (fun k _ => fieldsOf_releaseNotices before s k) (by simp) (by simp)

/-! ## The Batch Unit (R106 to R112, R119) -/

theorem flagSeparation_supplyLaw (h : SupplyLaw s) : SupplyLaw (flagSeparation s) := by
  unfold flagSeparation
  split
  · exact h.of_eq rfl rfl rfl rfl rfl
  · exact h

theorem changeoverCheck_supplyLaw (h : SupplyLaw s) (r : Record) : SupplyLaw (changeoverCheck r s) := by
  unfold changeoverCheck
  split
  · exact closeBatch_supplyLaw (flagSeparation_supplyLaw h) _
  · exact h

theorem openIfNone_supplyLaw (h : SupplyLaw s) (r : Record) : SupplyLaw (openIfNone r s) := by
  unfold openIfNone
  split
  · exact flagSeparation_supplyLaw (h.of_eq rfl rfl rfl rfl rfl)
  · exact h

theorem overfillBatch_supplyLaw (h : SupplyLaw s) : SupplyLaw (overfillBatch s) := by
  unfold overfillBatch
  split
  · exact h
  · split
    · exact h
    · exact h.of_eq rfl rfl rfl rfl rfl

theorem applyCheck_supplyLaw (h : SupplyLaw s) (check : CloseCheck) : SupplyLaw (applyCheck check s) := by
  cases check with
  | stays => exact h
  | overfills => exact overfillBatch_supplyLaw h
  | closes cause => exact closeBatch_supplyLaw (flagSeparation_supplyLaw h) cause

theorem batchBoundaryMade_supplyLaw (h : SupplyLaw s) (r : Record) : SupplyLaw (batchBoundaryMade r s) := by
  unfold batchBoundaryMade
  split
  · exact h.of_eq rfl rfl rfl rfl rfl
  · split
    · exact h.of_eq rfl rfl rfl rfl rfl
    · exact h

/-- The count event, step by step (R106). -/
theorem countEvent_supplyLaw (h : SupplyLaw s) (r : Record) : SupplyLaw (countEvent r s) := by
  have counted : SupplyLaw (countInto r (openIfNone r (changeoverCheck r s))) :=
    (openIfNone_supplyLaw (changeoverCheck_supplyLaw h r) r).of_eq rfl rfl rfl rfl rfl
  have checked := applyCheck_supplyLaw counted (closeCheck (countInto r (openIfNone r (changeoverCheck r s))))
  simp only [countEvent]
  split
  · exact batchBoundaryMade_supplyLaw checked r
  · exact checked

theorem countCrossing_supplyLaw (h : SupplyLaw s) (p : Nat) : SupplyLaw (countCrossing p s) := by
  unfold countCrossing
  split
  · exact h
  · exact countEvent_supplyLaw h _

theorem purgeBatch_supplyLaw (h : SupplyLaw s) : SupplyLaw (purgeBatch s) :=
  (closeBatch_supplyLaw h .purge).of_eq rfl rfl rfl rfl rfl

/-! ## Halts and drain completion (R139 to R141) -/

theorem raiseCause_feedInhibit (c : HaltCause) (l : Option Link) (s : State) :
    (raiseCause c l s).line.feedInhibit = s.line.feedInhibit := by
  unfold raiseCause
  split <;> simp

theorem raiseCause_supplyLaw (h : SupplyLaw s) (c : HaltCause) (l : Option Link) : SupplyLaw (raiseCause c l s) :=
  h.of_eq (raiseCause_feedInhibit c l s) (by simp) (by simp) (by simp) (by simp)

theorem examineLevels_supplyLaw (h : SupplyLaw s) : SupplyLaw (examineLevels s) :=
  runAll_induct SupplyLaw (fun _ => True) (fun _ _ h => h.of_eq rfl rfl rfl rfl rfl)
    (fun c _ _ h => raiseCause_supplyLaw h c none) _ s (fun _ _ => trivial) h

theorem completeDrain_supplyLaw (h : SupplyLaw s) : SupplyLaw (completeDrain s) := by
  have left : SupplyLaw (noSubjects (leaveRunning { s with line.state := .ready })) := h.of_eq rfl rfl rfl rfl rfl
  have closed : SupplyLaw (if s.line.closeFlag = some true
      then closeBatch .drain (noSubjects (leaveRunning { s with line.state := .ready }))
      else noSubjects (leaveRunning { s with line.state := .ready })) := by
    split
    · exact closeBatch_supplyLaw left .drain
    · exact left
  exact examineLevels_supplyLaw (takeChangeover_supplyLaw (closed.of_eq rfl rfl rfl rfl rfl))

theorem chainEmptyNotice_supplyLaw (h : SupplyLaw s) : SupplyLaw (chainEmptyNotice s) := by
  unfold chainEmptyNotice
  split
  · exact h
  · exact takeChangeover_supplyLaw h
  · exact h
  · exact completeDrain_supplyLaw h
  · exact h

/-! ## Phase crossings and boundaries (R6, R7) -/

theorem doCrossing_supplyLaw (h : SupplyLaw s) (level : Bool) (p : Nat) (t : CrossingTask) :
    SupplyLaw (doCrossing level p t s) := by
  cases t with
  | edge e => exact h.of_units (takeEdge_line e s) (takeEdge_banks e s) (takeEdge_sensors e s) (takeEdge_batch e s)
  | mark =>
    exact h.of_units (markCrossing_line p s) (markCrossing_banks p s) (markCrossing_sensors p s) (markCrossing_batch p s)
  | patch =>
    exact h.of_units (patchCrossing_line p s) (patchCrossing_banks p s) (patchCrossing_sensors p s)
      (patchCrossing_batch p s)
  | fold =>
    exact h.of_units (foldCrossing_line level p s) (foldCrossing_banks level p s) (foldCrossing_sensors level p s)
      (foldCrossing_batch level p s)
  | gate =>
    exact h.of_units (gateCrossing_line p s) (gateCrossing_banks p s) (gateCrossing_sensors p s) (gateCrossing_batch p s)
  | count => exact countCrossing_supplyLaw h p

theorem crossing_supplyLaw (h : SupplyLaw s) (level : Bool) (p : Nat) : SupplyLaw (crossing level s p) :=
  runAll_induct SupplyLaw (fun _ => True) (fun _ _ h => h.of_eq rfl rfl rfl rfl rfl)
    (fun t _ _ h => doCrossing_supplyLaw h level p t) _ s (fun _ _ => trivial) h

theorem crossings_supplyLaw (h : SupplyLaw s) (level : Bool) (lo hi : Nat) : SupplyLaw (crossings level lo hi s) :=
  List.foldlRecOn _ _ h fun _ hx p _ => crossing_supplyLaw hx level p

theorem chainBoundary_supplyLaw (h : SupplyLaw s) : SupplyLaw (chainBoundary s) := by
  have left : SupplyLaw (leavingStage s) :=
    h.of_active (by simp) (bankIn_leavingStage (by decide) (by decide) s)
      (fun k _ => (fieldsOf_releaseNotices _ _ k).trans (fieldsOf_of_banks rfl k)) (by simp) (by simp)
  have advanced : SupplyLaw (advanced s) := left.of_eq rfl rfl rfl rfl rfl
  rw [chainBoundary_eq, feedStage]
  split
  · exact (takeChangeover_supplyLaw advanced).of_units (by simp) (by simp) (by simp) (by simp)
  · exact advanced

theorem doBoundary_supplyLaw (h : SupplyLaw s) (n : Nat) (w level : Bool) (t : BoundaryTask) :
    SupplyLaw (doBoundary n w level t s).2 := by
  cases t with
  | cause c => exact raiseCause_supplyLaw h c none
  | chain => exact chainBoundary_supplyLaw h
  | firing =>
    exact h.of_units (firingBoundary_line n w s) (firingBoundary_banks n w s) (firingBoundary_sensors n w s)
      (firingBoundary_batch n w s)
  | registration =>
    exact h.of_units (registrationBoundary_line s) (registrationBoundary_banks s) (registrationBoundary_sensors s)
      (registrationBoundary_batch s)
  | gumFold =>
    exact h.of_units (gumFoldBoundary_line level s) (gumFoldBoundary_banks level s) (gumFoldBoundary_sensors level s)
      (gumFoldBoundary_batch level s)
  | gate =>
    exact h.of_units (gateCrossing_line 0 s) (gateCrossing_banks 0 s) (gateCrossing_sensors 0 s) (gateCrossing_batch 0 s)
  | batch =>
    have unmarked : SupplyLaw { s with batch.kickMark := none } := h.of_eq rfl rfl rfl rfl rfl
    exact countCrossing_supplyLaw unmarked 0
  | emptyNotice => exact chainEmptyNotice_supplyLaw h

theorem pitchBoundary_supplyLaw (h : SupplyLaw s) (level : Bool) : SupplyLaw (pitchBoundary level s) :=
  runFree_induct SupplyLaw (fun _ => True) (fun _ _ h => h.of_eq rfl rfl rfl rfl rfl)
    (fun t _ _ h => ⟨doBoundary_supplyLaw h _ _ level t, fun _ _ => trivial⟩) _ _ (closePitch s) (fun _ _ => trivial)
    (h.of_eq rfl rfl rfl rfl rfl)

/-! ## The requests -/

theorem beginDrain_supplyLaw (h : SupplyLaw s) (close : Bool) : SupplyLaw (beginDrain close s) := by
  simp only [beginDrain]
  split
  · exact completeDrain_supplyLaw (h.of_eq rfl rfl rfl rfl rfl)
  · exact h.of_eq rfl rfl rfl rfl rfl

theorem clearHalt_supplyLaw (h : SupplyLaw s) : SupplyLaw (clearHalt s) := by
  simp only [clearHalt]
  split
  · exact takeChangeover_supplyLaw (h.of_eq rfl rfl rfl rfl rfl)
  · exact h.of_eq rfl rfl rfl rfl rfl

theorem lineReset_supplyLaw (h : SupplyLaw s) : SupplyLaw (lineReset s) := by
  have discarded : SupplyLaw (discardRecords (purgeBatch s)) := by
    have emptied : SupplyLaw (emptied (purgeBatch s)) := (purgeBatch_supplyLaw h).of_eq rfl rfl rfl rfl rfl
    exact releaseNotices_supplyLaw emptied _
  have reset : SupplyLaw (unitsReset s) := by
    have restarted : SupplyLaw (restarted (discardRecords (purgeBatch s))) := discarded.of_eq rfl rfl rfl rfl rfl
    exact restarted
  rw [lineReset_eq]
  exact examineLevels_supplyLaw (takeChangeover_supplyLaw reset)

/-- A VALID bank armed: it was not ACTIVE, and a changeover at once takes the supplies anew (R127). -/
theorem armBank_supplyLaw (h : SupplyLaw s) {b : BankId} (valid : bankState s b = .valid) : SupplyLaw (armBank b s) := by
  have armed : SupplyLaw (setBankState b .armed s) := setBankState_supplyLaw h (by simp [valid]) (by decide)
  simp only [armBank]
  split
  · exact takeChangeover_supplyLaw armed
  · exact armed

/-- A bank not in use is not ACTIVE, so its new fields are not those the supplies look at (R123). -/
theorem stageBank_supplyLaw (h : SupplyLaw s) {b : BankId} (free : (bankState s b).inUse = false) (f : BankFields) :
    SupplyLaw (stageBank b f s) := by
  have was : bankState s b ≠ .active := by intro e; simp [e, BankState.inUse] at free
  have other : ∀ k, k ≠ b → (stageBank b f s).banks.get k = s.banks.get k := by
    intro k hk; cases b <;> cases k <;> first | rfl | exact absurd rfl hk
  refine h.of_active rfl (bankIn_congr fun k => ?_) (fun k hk => ?_) rfl rfl
  · by_cases same : k = b
    · subst same
      have staged : bankState (stageBank k f s) k = .staging := by cases k <;> rfl
      simp [staged, was]
    · rw [bankState, other k same, bankState]
  · have active := bankState_of_bankIn hk
    rw [fieldsOf, other k (by rintro rfl; exact was active), fieldsOf]

theorem SupplyLaw.answered (h : SupplyLaw s) (l : Link) (c : Command) (status : Status) (payload : List Byte) :
    SupplyLaw (answer l c status payload s) :=
  h.of_eq rfl rfl rfl rfl rfl

theorem validateStaging_supplyLaw (h : SupplyLaw s) {b : BankId} (staging : bankState s b = .staging) :
    SupplyLaw (validateStaging b s) := by
  unfold validateStaging
  split
  · exact h.answered _ _ _ _
  · exact (setBankState_supplyLaw h (by simp [staging]) (by decide)).answered _ _ _ _

/-- The head of the queue taken, and the backlog looked at anew (R114, R116). -/
theorem takeHead_supplyLaw (h : SupplyLaw s) (rest : List BatchRecord) :
    SupplyLaw (checkBacklog { s with batch.queue := rest }) := by
  obtain ⟨supplies, told⟩ := (supplyLaw_iff s).mp h
  exact checkBacklog_supplyLaw (supplies.of_causes (fun _ _ => rfl) rfl rfl) told.cause

/-! ## The supply levels (R75, R83) -/

theorem gumOkChange_supplyLaw (h : SupplyLaw s) (level : Bool) :
    SupplyLaw (setFeedCause .gumLow (gumLow { s with sensors.gumOk := level }) { s with sensors.gumOk := level }) := by
  obtain ⟨supplies, told⟩ := (supplyLaw_iff s).mp h
  refine (supplyLaw_iff _).mpr ⟨⟨?_, ?_⟩, told.of_cause ?_ (by simp) (by simp)⟩
  · rw [inhibits_setFeedCause, if_pos rfl]
    exact (gumLow_congr (by simp) (by simp)).symm
  · rw [inhibits_setFeedCause, if_neg (by decide)]
    exact supplies.patch.trans (patchSupplyLow_of_active (activeBank_congr (by simp))
      (fun b _ => fieldsOf_of_banks (by simp) b) (by simp)).symm
  · rw [inhibits_setFeedCause, if_neg (by decide)]; rfl

theorem patchWebOkChange_supplyLaw (h : SupplyLaw s) (level : Bool) :
    SupplyLaw (setFeedCause .patchSupply (patchSupplyLow { s with sensors.patchWebOk := level })
      { s with sensors.patchWebOk := level }) := by
  obtain ⟨supplies, told⟩ := (supplyLaw_iff s).mp h
  refine (supplyLaw_iff _).mpr ⟨⟨?_, ?_⟩, told.of_cause ?_ (by simp) (by simp)⟩
  · rw [inhibits_setFeedCause, if_neg (by decide)]
    exact supplies.gum.trans (gumLow_of_active (activeBank_congr (by simp))
      (fun b _ => fieldsOf_of_banks (by simp) b) (by simp)).symm
  · rw [inhibits_setFeedCause, if_pos rfl]
    exact (patchSupplyLow_congr (by simp) (by simp)).symm
  · rw [inhibits_setFeedCause, if_neg (by decide)]; rfl

end

/-! ## Every command -/

/-- At power-on the feed-inhibit set is empty (R150). -/
theorem inhibits_powerOn (a b : Bool) (sensors : Sensors) (choices : Nat) (pending : List Instr) (c : FeedCause) :
    inhibits (.powerOn a b sensors choices pending) c = false := by
  simp [inhibits, State.powerOn, maskHas]

/-- At power-on no bank is ACTIVE, so neither supply is low, and there is no backlog. -/
theorem powerOn_supplyLaw (a b : Bool) (sensors : Sensors) (choices : Nat) (pending : List Instr) :
    SupplyLaw (.powerOn a b sensors choices pending) :=
  (supplyLaw_iff _).mpr ⟨⟨inhibits_powerOn a b sensors choices pending _, inhibits_powerOn a b sensors choices pending _⟩,
    inhibits_powerOn a b sensors choices pending _, nofun, fun _ => Nat.zero_le _⟩

theorem conclude_supplyLaw {s : State} (h : SupplyLaw s) : SupplyLaw (conclude s) := by
  cases pin : s.sensors.resetPin with
  | false => rw [conclude_eq s pin]; exact h.of_eq rfl rfl rfl rfl rfl
  | true =>
    have held : underReset s = .powerOn s.shaft.pairA s.shaft.pairB s.sensors s.choices s.pending := by
      simp [underReset, pin]
    rw [conclude, held]
    exact (powerOn_supplyLaw s.shaft.pairA s.shaft.pairB s.sensors s.choices s.pending).of_eq rfl rfl rfl rfl rfl

/-- The Shaft Tracker's own writes, beside the crossings, boundaries and causes that a shaft event is made of. -/
theorem shaft_supplyLaw (s : State) (x : Shaft) (h : SupplyLaw s) : SupplyLaw { s with shaft := x } :=
  h.of_eq rfl rfl rfl rfl rfl

/-- The levels that no supply rests on (R140). -/
theorem otherLevels_supplyLaw {s : State} (h : SupplyLaw s) {x : Sensors} (gum : x.gumOk = s.sensors.gumOk)
    (web : x.patchWebOk = s.sensors.patchWebOk) : SupplyLaw { s with sensors := x } := by
  obtain ⟨supplies, told⟩ := (supplyLaw_iff s).mp h
  refine (supplyLaw_iff _).mpr ⟨⟨?_, ?_⟩, told.of_cause rfl rfl rfl⟩
  · exact supplies.gum.trans (gumLow_of_active (s := s) (t := { s with sensors := x }) rfl (fun _ _ => rfl) gum).symm
  · exact supplies.patch.trans
      (patchSupplyLow_of_active (s := s) (t := { s with sensors := x }) rfl (fun _ _ => rfl) web).symm

/-- A level change that may raise a cause. -/
theorem raiseIf_supplyLaw {s : State} (h : SupplyLaw s) (p : Prop) [Decidable p] (c : HaltCause) :
    SupplyLaw (if p then raiseCause c none s else s) := by
  split
  · exact raiseCause_supplyLaw h c none
  · exact h

@[simp] theorem changeHolders_line_feedInhibit (f : BitVec 3 → BitVec 3) (sts : List Station) (s : State) :
    (changeHolders f sts s).line.feedInhibit = s.line.feedInhibit := rfl

@[simp] theorem releaseGeometry_line_feedInhibit (s : State) :
    (releaseGeometry s).line.feedInhibit = s.line.feedInhibit := rfl

@[simp] theorem startLine_line_feedInhibit (s : State) : (startLine s).line.feedInhibit = s.line.feedInhibit := by
  simp only [startLine]; split <;> rfl

/-- Every command concludes a state that meets the law. -/
theorem exec_keeps_supplyLaw (i : Instr) {s : State} (h : SupplyLaw s) :
    ∃ x, exec i s = .next (conclude x) ∧ SupplyLaw x := by
  cases i with
  | powerOnReset asserted pair => exact ⟨_, rfl, powerOn_supplyLaw _ _ _ _ _⟩
  | forwardCountStep elapsed level =>
    exact ⟨_, rfl, forwardCount_induct SupplyLaw shaft_supplyLaw (fun v lo hi _ h => crossings_supplyLaw h v lo hi)
      (fun v _ h => pitchBoundary_supplyLaw h v) level _ (shaft_supplyLaw s _ h)⟩
  | backwardCountStep =>
    exact ⟨_, rfl, backwardCount_induct SupplyLaw (fun _ _ h => h.of_eq rfl rfl rfl rfl rfl) shaft_supplyLaw
      (fun c _ h => raiseCause_supplyLaw h c none) _ (shaft_supplyLaw s _ h)⟩
  | indexEdge elapsed level =>
    exact ⟨_, rfl, indexEdge_induct SupplyLaw shaft_supplyLaw (fun v lo hi _ h => crossings_supplyLaw h v lo hi)
      (fun v _ h => pitchBoundary_supplyLaw h v) (fun c _ h => raiseCause_supplyLaw h c none) level _
      (shaft_supplyLaw s _ h)⟩
  | patchWebOkChange level => exact ⟨_, rfl, patchWebOkChange_supplyLaw h level⟩
  | gumOkChange level => exact ⟨_, rfl, gumOkChange_supplyLaw h level⟩
  | estopChange level =>
    have levelled : SupplyLaw { s with sensors.estop := level } := otherLevels_supplyLaw h rfl rfl
    exact ⟨_, rfl, raiseIf_supplyLaw levelled _ .estop⟩
  | jamChange level =>
    have levelled : SupplyLaw { s with sensors.jam := level } := otherLevels_supplyLaw h rfl rfl
    exact ⟨_, rfl, raiseIf_supplyLaw levelled _ .jam⟩
  | feedHold l p =>
    refine ⟨_, rfl, ?_⟩
    split
    · exact h.answered _ _ _ _
    · exact (holdCause_supplyLaw h l true).answered _ _ _ _
  | feedRelease l p =>
    refine ⟨_, rfl, ?_⟩
    split
    · exact h.answered _ _ _ _
    · exact (holdCause_supplyLaw h l false).answered _ _ _ _
  | clearHolds p =>
    refine ⟨_, rfl, ?_⟩
    split
    · exact h.answered _ _ _ _
    · exact (clearHolds_supplyLaw h).answered _ _ _ _
  | halt l p =>
    refine ⟨_, rfl, ?_⟩
    split
    · exact h.answered _ _ _ _
    · split
      · exact h.answered _ _ _ _
      · exact (raiseCause_supplyLaw h .haltCommand (some l)).answered _ _ _ _
  | commitGeometry p =>
    refine ⟨_, rfl, ?_⟩
    split
    · exact h.answered _ _ _ _
    · split
      · split
        · exact h.answered _ _ _ _
        · have locked : SupplyLaw (committed s) := h.of_eq rfl rfl rfl rfl rfl
          exact (examineLevels_supplyLaw locked).answered _ _ _ _
      · exact h.answered _ _ _ _
  | drain p =>
    refine ⟨_, rfl, ?_⟩
    split
    · exact h.answered _ _ _ _
    · split
      · exact (beginDrain_supplyLaw h _).answered _ _ _ _
      · exact h.answered _ _ _ _
  | clearHalt p =>
    refine ⟨_, rfl, ?_⟩
    split
    · exact h.answered _ _ _ _
    · split
      · exact (clearHalt_supplyLaw h).answered _ _ _ _
      · exact h.answered _ _ _ _
  | lineReset p =>
    refine ⟨_, rfl, ?_⟩
    split
    · exact h.answered _ _ _ _
    · split
      · exact (lineReset_supplyLaw h).answered _ _ _ _
      · exact h.answered _ _ _ _
  | writeBank p =>
    refine ⟨_, rfl, ?_⟩
    split
    · exact h.answered _ _ _ _
    · split
      · exact h.answered _ _ _ _
      · rename_i free
        exact (stageBank_supplyLaw h (by simpa using free) _).answered _ _ _ _
  | validateBank p =>
    refine ⟨_, rfl, ?_⟩
    split
    · exact h.answered _ _ _ _
    · split
      · rename_i staging
        exact validateStaging_supplyLaw h staging
      all_goals exact h.answered _ _ _ _
  | armChangeover p =>
    refine ⟨_, rfl, ?_⟩
    split
    · exact h.answered _ _ _ _
    · split
      · rename_i ready
        exact (armBank_supplyLaw h ready.1).answered _ _ _ _
      · exact h.answered _ _ _ _
  | disarm p =>
    refine ⟨_, rfl, ?_⟩
    split
    · exact h.answered _ _ _ _
    · split
      · rename_i armed
        exact (setBankState_supplyLaw h (by simp [armed]) (by decide)).answered _ _ _ _
      · exact h.answered _ _ _ _
  | takeBatch p =>
    refine ⟨_, rfl, ?_⟩
    split
    · exact h.answered _ _ _ _
    · split
      · exact h.answered _ _ _ _
      · split
        · exact (takeHead_supplyLaw h _).answered _ _ _ _
        · exact h.answered _ _ _ _
  | readTriggers p =>
    refine ⟨_, rfl, h.of_eq ?_ ?_ ?_ ?_ ?_⟩ <;> dsimp only <;> (repeat' split) <;> simp
  | _ =>
    -- The other commands write nothing that the law speaks of.
    refine ⟨_, rfl, h.of_eq ?_ ?_ ?_ ?_ ?_⟩ <;> (repeat' split) <;> simp

/-- Settles O14: the law holds after the front command, whatever it is, and after a tick. -/
theorem stepsKeepTheSupplyLaw : Obligations.StepsKeepTheSupplyLaw := by
  intro s t h hstep
  unfold step at hstep
  split at hstep
  · cases hstep
    unfold tick
    split
    · exact h
    · exact shaft_supplyLaw s _ h
  · rename_i c rest _
    obtain ⟨x, hx, law⟩ := exec_keeps_supplyLaw c (s := { s with pending := rest }) (h.of_eq rfl rfl rfl rfl rfl)
    rw [hx] at hstep
    cases hstep
    exact conclude_supplyLaw law

end Sys2Proof.Machine

/-! # The ports, the trigger log and the drift filter stay in their bounds (R68, R92, R151, R152, R156, R157) -/

namespace Sys2Proof.Machine

/-! ## The parts of the law -/

/-- Every port meets its law. -/
def PortsSound (s : State) : Prop := ∀ l, (s.ports.get l).Law

/-- The trigger log holds 16 entries at most (R92), and the drift filter lies in its range (R68). -/
structure Bounded (s : State) : Prop where
  log : s.verdicts.triggerLog.length ≤ 16
  low : -32767 ≤ s.registration.m16
  high : s.registration.m16 ≤ 32767

theorem portLaw_iff (s : State) : PortLaw s ↔ PortsSound s ∧ Bounded s := by
  constructor
  · rintro ⟨line, inspection, packer, log, low, high⟩
    exact ⟨fun l => by cases l <;> assumption, log, low, high⟩
  · rintro ⟨sound, log, low, high⟩
    exact ⟨sound .line, sound .inspection, sound .packer, log, low, high⟩

section
variable {s t : State}

theorem Bounded.of_eq (h : Bounded s) (log : t.verdicts.triggerLog = s.verdicts.triggerLog)
    (drift : t.registration.m16 = s.registration.m16) : Bounded t :=
  ⟨by rw [log]; exact h.log, by rw [drift]; exact h.low, by rw [drift]; exact h.high⟩

/-- A unit's work that writes neither to the Registration Unit nor to the Verdict Unit. -/
theorem Bounded.of_units (h : Bounded s) (verdicts : t.verdicts = s.verdicts)
    (registration : t.registration = s.registration) : Bounded t :=
  h.of_eq (by rw [verdicts]) (by rw [registration])

/-- A drift filter zeroed lies in its range. -/
theorem bounded_zeroed (log : s.verdicts.triggerLog.length ≤ 16) (drift : s.registration.m16 = 0) : Bounded s :=
  ⟨log, by rw [drift]; decide, by rw [drift]; decide⟩

/-- The law of a port says nothing of its pending events. -/
theorem Port.Law.of_pending {p q : Port} (h : p.Law) (e : q = { p with pending := q.pending }) : q.Law := by
  rw [e]; exact h

/-- Posting events keeps the ports sound (R159). -/
theorem PortsSound.of_posts (h : PortsSound s) (posts : Posts s t) : PortsSound t :=
  fun l => (h l).of_pending (posts l).1

/-- What a block does: it posts events, and keeps the trigger log and the drift filter in their bounds. -/
theorem PortLaw.of_posts (h : PortLaw s) (posts : Posts s t) (bounded : Bounded s → Bounded t) : PortLaw t := by
  obtain ⟨sound, within⟩ := (portLaw_iff s).mp h
  exact (portLaw_iff t).mpr ⟨sound.of_posts posts, bounded within⟩

/-- The law speaks of the ports, the trigger log and the drift filter alone. -/
theorem PortLaw.of_eq (h : PortLaw s) (ports : t.ports = s.ports)
    (log : t.verdicts.triggerLog = s.verdicts.triggerLog) (drift : t.registration.m16 = s.registration.m16) :
    PortLaw t :=
  h.of_posts (.of_eq ports) fun b => b.of_eq log drift

/-! ## One port (R151 to R153, R156, R157) -/

/-- The law of a port with no exchange in progress. -/
theorem Port.law_resting {p : Port} (exchange : p.exchange = none)
    (work : (p.state = .idle ∧ p.work = none) ∨ (p.state = .working ∧ p.work.isSome = true))
    (buffer : p.buffer.length ≤ 60) : p.Law :=
  ⟨fun _ => work, by simp [exchange], buffer⟩

/-- The law of a port with an exchange in progress. -/
theorem Port.law_exchanging {p : Port} {x : Exchange} (exchange : p.exchange = some x)
    (kind : (x.busy = true ∧ p.state = .working) ∨ (x.busy = false ∧ p.state = .receiving ∧ p.work = none))
    (carried : p.shifted = (List.range x.clocked).map fun k => x.frame.getD k 0) (buffer : p.buffer.length ≤ 60) :
    p.Law :=
  ⟨by simp [exchange], fun y hy => by
    obtain rfl : x = y := by simpa [exchange] using hy
    exact ⟨kind, carried⟩, buffer⟩

theorem Port.answered_law {p : Port} (h : p.Law) (r : Response) : (p.answered r).Law := by
  obtain ⟨resting, exchanging, buffer⟩ := h
  cases hx : p.exchange with
  | none => exact Port.law_resting hx (.inl ⟨by simp [Port.answered, hx], rfl⟩) buffer
  | some x =>
    obtain ⟨kind, carried⟩ := exchanging x hx
    have state : (p.answered r).state = p.state := by simp [Port.answered, hx]
    refine Port.law_exchanging hx ?_ carried buffer
    rw [state]
    exact kind.imp id fun ⟨busy, receiving, _⟩ => ⟨busy, receiving, rfl⟩

/-- R151, R156: an exchange starts with nothing carried yet. -/
theorem Port.start_law {p : Port} (h : p.Law) : p.start.Law := by
  obtain ⟨resting, exchanging, buffer⟩ := h
  unfold Port.start
  split
  · exact ⟨resting, exchanging, buffer⟩
  · rename_i none
    split
    · rename_i idle
      have work : p.work = .none := by simpa [idle] using resting none
      exact Port.law_exchanging rfl (.inr ⟨rfl, rfl, work⟩) rfl (Nat.zero_le _)
    · rename_i working
      exact Port.law_exchanging rfl (.inl ⟨rfl, working⟩) rfl buffer
    · exact ⟨resting, exchanging, buffer⟩

/-- R152: each byte clocked in shifts one out, and the buffer stores 60 at most. -/
theorem Port.receive_law {p : Port} {x : Exchange} (h : p.Law) (hx : p.exchange = some x) (arrived : List Byte) :
    (p.receive x arrived).Law := by
  obtain ⟨-, exchanging, buffer⟩ := h
  obtain ⟨kind, carried⟩ := exchanging x hx
  refine Port.law_exchanging rfl kind ?_ ?_
  · simp only [Port.receive, Exchange.shiftOut, carried, List.range_add, List.map_append, List.map_map]
    rfl
  · simp only [Port.receive]
    split
    · exact buffer
    · exact List.length_take_le _ _

/-- R157: an exchange not busy may be abandoned. -/
theorem Port.timeout_law {p : Port} (h : p.Law) (arrived : List Byte) : (p.timeout arrived).Law := by
  unfold Port.timeout
  split
  · exact h
  · rename_i x hx
    have received := Port.receive_law h hx arrived
    dsimp only
    split
    · exact received
    · obtain ⟨-, exchanging, buffer⟩ := received
      obtain ⟨kind, carried⟩ := exchanging _ rfl
      exact Port.law_exchanging rfl kind carried buffer

/-- R153: with no exchange and no request in work the port acts on its buffer, and is IDLE or WORKING. -/
theorem Port.takeFrame_rests {p : Port} (work : p.work = none) (l : Link) :
    (p.takeFrame l).exchange = p.exchange
      ∧ (((p.takeFrame l).state = .idle ∧ (p.takeFrame l).work = none)
        ∨ ((p.takeFrame l).state = .working ∧ (p.takeFrame l).work.isSome = true)) := by
  unfold Port.takeFrame
  split
  · exact ⟨rfl, .inl ⟨rfl, work⟩⟩
  · exact ⟨rfl, .inl ⟨rfl, work⟩⟩
  · exact ⟨rfl, .inl ⟨rfl, work⟩⟩
  · exact ⟨rfl, .inr ⟨rfl, rfl⟩⟩

/-- R152, R153, R156, R157: the port after an exchange, by its kind. -/
theorem Port.finish_law {p : Port} {x : Exchange} (work : x.busy = false → p.work = none)
    (buffer : p.buffer.length ≤ 60) (l : Link) : (p.finish l x).Law := by
  unfold Port.finish
  split
  · refine Port.law_resting rfl ?_ buffer
    cases hw : p.work with
    | none => exact .inl ⟨rfl, rfl⟩
    | some r => exact .inr ⟨rfl, rfl⟩
  · rename_i notBusy
    have none := work (by simpa using notBusy)
    split
    · exact Port.law_resting rfl (.inl ⟨rfl, none⟩) (Nat.zero_le _)
    · obtain ⟨exchange, rests⟩ := Port.takeFrame_rests (p := { p with exchange := .none, held := .none }) none l
      exact Port.law_resting exchange rests (Nat.zero_le _)

/-! ## The ports together -/

theorem PerLink.get_set {α : Type} (x : PerLink α) (l : Link) (v : α) (k : Link) :
    (x.set l v).get k = if k = l then v else x.get k := by
  cases l <;> cases k <;> rfl

theorem setPort_portLaw (h : PortLaw s) {p : Port} (law : p.Law) (l : Link) : PortLaw (setPort l p s) := by
  obtain ⟨sound, bounded⟩ := (portLaw_iff s).mp h
  refine (portLaw_iff _).mpr ⟨fun k => ?_, bounded.of_eq rfl rfl⟩
  rw [setPort, PerLink.get_set]
  split
  · exact law
  · exact sound k

theorem PortLaw.port (h : PortLaw s) (l : Link) : (s.ports.get l).Law := ((portLaw_iff s).mp h).1 l

theorem PortLaw.answered (h : PortLaw s) (l : Link) (c : Command) (status : Status) (payload : List Byte) :
    PortLaw (answer l c status payload s) :=
  setPort_portLaw h (Port.answered_law (h.port l) _) l

theorem setEvents_portLaw (h : PortLaw s) (l : Link) (pending enable : BitVec 13) :
    PortLaw (setEvents l pending enable s) :=
  setPort_portLaw h (p := { s.ports.get l with pending := pending, enable := enable }) (h.port l) l

theorem endExchange_portLaw (h : PortLaw s) (l : Link) (arrived : List Byte) : PortLaw (endExchange l arrived s) := by
  simp only [endExchange]
  split
  · exact h
  · rename_i x hx
    have chosen : PortLaw (if x.reported &&& x.own = 0 then (0, s) else choose 2 s).2 := by
      split
      · exact h
      · exact h.of_eq (by simp) (by simp) (by simp)
    obtain ⟨-, exchanging, buffer⟩ := Port.receive_law (h.port l) hx arrived
    obtain ⟨kind, -⟩ := exchanging _ rfl
    refine setPort_portLaw chosen ?_ l
    refine Port.finish_law (fun notBusy => ?_) ?_ l
    · rcases kind with ⟨busy, -⟩ | ⟨-, -, work⟩
      · rw [notBusy] at busy; cases busy
      · exact work
    · exact buffer

/-! ## The Registration Unit and the drift filter (R63 to R70, R73, R74) -/

theorem settleMark_m16 (s : State) : (settleMark s).registration.m16 = s.registration.m16 := by
  unfold settleMark; (repeat' split) <;> simp

theorem settlePatch_m16 (s : State) : (settlePatch s).registration.m16 = s.registration.m16 := by
  unfold settlePatch; (repeat' split) <;> simp

theorem openMark_m16 (s : State) : (openMark s).registration.m16 = s.registration.m16 := by
  unfold openMark; split <;> rfl

theorem openPatch_m16 (s : State) : (openPatch s).registration.m16 = s.registration.m16 := by
  unfold openPatch; split <;> rfl

theorem markCrossing_m16 (p : Nat) (s : State) : (markCrossing p s).registration.m16 = s.registration.m16 := by
  unfold markCrossing; (repeat' split) <;> simp [settleMark_m16, openMark_m16]

theorem patchCrossing_m16 (p : Nat) (s : State) : (patchCrossing p s).registration.m16 = s.registration.m16 := by
  unfold patchCrossing; (repeat' split) <;> simp [settlePatch_m16, openPatch_m16]

theorem registrationBoundary_m16 (s : State) : (registrationBoundary s).registration.m16 = s.registration.m16 := by
  have mark : ∀ x, (openMarkAtZero x).registration.m16 = x.registration.m16 := fun x => by
    unfold openMarkAtZero; (repeat' split) <;> simp [openMark_m16]
  have patch : ∀ x, (openPatchAtZero x).registration.m16 = x.registration.m16 := fun x => by
    unfold openPatchAtZero; (repeat' split) <;> simp [openPatch_m16]
  rw [registrationBoundary, patch, mark]
  exact (settlePatch_m16 _).trans (settleMark_m16 s)

/-- R68: the filter is clamped. -/
theorem driftFilter_range (m e : Int) : -32767 ≤ driftFilter m e ∧ driftFilter m e ≤ 32767 :=
  clampInt_range (by decide) _

theorem checkDrift_m16 (n : Nat) (s : State) : (checkDrift n s).registration.m16 = s.registration.m16 := by
  simp only [checkDrift]; split <;> rfl

/-- A MARK edge moves the filter at an accepted measurement alone (R66, R68). -/
theorem markEdge_bounded (h : Bounded s) : Bounded (markEdge s) := by
  have measured : ∀ q, Bounded (measure q s) := by
    intro q
    simp only [measure]
    split
    · exact h
    · split
      · obtain ⟨low, high⟩ := driftFilter_range s.registration.m16 (registrationError s.shaft.phase _)
        refine ⟨by simpa [acceptMeasurement] using h.log, ?_, ?_⟩ <;> rw [acceptMeasurement, checkDrift_m16]
        · exact low
        · exact high
      · exact h.of_units (by simp) (by simp)
  unfold markEdge
  split
  · split
    · exact h.of_eq rfl rfl
    · exact (measured _).of_eq rfl rfl
    · exact h.of_eq rfl rfl
    · exact h
    · exact h
  · exact h

theorem patchPresentEdge_bounded (h : Bounded s) : Bounded (patchPresentEdge s) := by
  unfold patchPresentEdge
  (repeat' split) <;> exact h.of_eq rfl rfl

theorem takeChangeover_bounded (h : Bounded s) : Bounded (takeChangeover s) := by
  rcases takeChangeover_registration s with kept | zeroed
  · exact h.of_units (by simp) kept
  · exact bounded_zeroed (by simpa using h.log) (by rw [zeroed]; rfl)

/-! ## The Verdict Unit and the trigger log (R92, R100) -/

/-- R92: a full log drops its oldest entry. -/
theorem logTrigger_bounded (h : Bounded s) (t : Trigger) : Bounded (logTrigger t s) := by
  refine ⟨?_, by simpa using h.low, by simpa using h.high⟩
  have log := h.log
  rw [logTrigger_eq t log]
  dsimp only
  split <;> simp <;> omega

theorem onEdge_bounded (h : Bounded s) (ch : Channel) (q : Seq) : Bounded (onEdge ch q s) := by
  unfold onEdge
  split
  · exact h.of_eq rfl rfl
  · cases ch with
    | cameraTrigger =>
      dsimp only
      unfold cameraEdge
      split
      · have pending : ∀ q, Bounded (updateRecord q (fun r => { r with verdict := .pending }) s) :=
          fun q => h.of_eq rfl rfl
        exact (logTrigger_bounded (pending _) _).of_eq rfl rfl
      · exact h.of_eq rfl rfl
    | _ => exact h.of_units (by simp) (by simp)

theorem takeEdge_bounded (h : Bounded s) (e : Edge) : Bounded (takeEdge e s) := by
  unfold takeEdge
  split
  · exact onEdge_bounded h _ _
  · exact h.of_units (by simp) (by simp)

theorem gateCrossing_triggerLog (p : Nat) (s : State) :
    (gateCrossing p s).verdicts.triggerLog = s.verdicts.triggerLog := by
  have counted : ∀ fate x, (countUnverified fate x).verdicts.triggerLog = x.verdicts.triggerLog := fun fate x => by
    unfold countUnverified; split <;> rfl
  unfold gateCrossing gateDecision
  (repeat' split) <;> simp [counted]

theorem takeVerdict_triggerLog (q : Seq) (result : VerdictResult) (cause : Nat) (s : State) :
    (takeVerdict q result cause s).2.verdicts.triggerLog = s.verdicts.triggerLog := by
  unfold takeVerdict
  (repeat' split) <;> rfl

theorem chainBoundary_triggerLog (s : State) : (chainBoundary s).verdicts.triggerLog = s.verdicts.triggerLog := by
  have advanced : (advanced s).verdicts.triggerLog = s.verdicts.triggerLog := by
    simp [Machine.advanced, leavingStage]
  rw [chainBoundary_eq, feedStage]
  split <;> simp [advanced]

/-! ## Halts, drain completion, crossings and boundaries (R6, R7, R139 to R141) -/

theorem raiseCause_m16 (c : HaltCause) (l : Option Link) (s : State) :
    (raiseCause c l s).registration.m16 = s.registration.m16 := by
  have enters : (enterHalt c l s).registration.m16 = s.registration.m16 := by
    simp only [enterHalt]; split <;> rfl
  unfold raiseCause
  split <;> first | exact enters | rfl

theorem raiseCause_portLaw (h : PortLaw s) (c : HaltCause) (l : Option Link) : PortLaw (raiseCause c l s) :=
  h.of_posts (raiseCause_posts c l s) fun b => b.of_eq (by simp) (raiseCause_m16 c l s)

theorem examineLevels_portLaw (h : PortLaw s) : PortLaw (examineLevels s) :=
  runAll_induct PortLaw (fun _ => True) (fun _ _ h => h.of_eq rfl rfl rfl)
    (fun c _ _ h => raiseCause_portLaw h c none) _ s (fun _ _ => trivial) h

theorem takeChangeover_portLaw (h : PortLaw s) : PortLaw (takeChangeover s) :=
  h.of_posts (takeChangeover_posts s) takeChangeover_bounded

theorem closeBatch_portLaw (h : PortLaw s) (cause : CloseCause) : PortLaw (closeBatch cause s) :=
  h.of_posts (closeBatch_posts cause s) fun b => b.of_units (by simp) (by simp)

theorem completeDrain_portLaw (h : PortLaw s) : PortLaw (completeDrain s) := by
  have left : PortLaw (noSubjects (leaveRunning { s with line.state := .ready })) := h.of_eq rfl rfl rfl
  have closed : PortLaw (if s.line.closeFlag = some true
      then closeBatch .drain (noSubjects (leaveRunning { s with line.state := .ready }))
      else noSubjects (leaveRunning { s with line.state := .ready })) := by
    split
    · exact closeBatch_portLaw left .drain
    · exact left
  have drained : PortLaw (post .drained { (if s.line.closeFlag = some true
      then closeBatch .drain (noSubjects (leaveRunning { s with line.state := .ready }))
      else noSubjects (leaveRunning { s with line.state := .ready })) with line.closeFlag := none }) :=
    (closed.of_eq rfl rfl rfl).of_posts (post_posts .drained _) fun b => b.of_eq rfl rfl
  exact examineLevels_portLaw (takeChangeover_portLaw drained)

theorem chainEmptyNotice_portLaw (h : PortLaw s) : PortLaw (chainEmptyNotice s) := by
  unfold chainEmptyNotice
  split
  · exact h
  · exact takeChangeover_portLaw h
  · exact h
  · exact completeDrain_portLaw h
  · exact h

theorem doCrossing_portLaw (h : PortLaw s) (level : Bool) (p : Nat) (t : CrossingTask) :
    PortLaw (doCrossing level p t s) := by
  refine h.of_posts (doCrossing_posts level p t s) fun b => ?_
  cases t with
  | edge e => exact takeEdge_bounded b e
  | mark => exact b.of_eq (congrArg _ (markCrossing_verdicts p s)) (markCrossing_m16 p s)
  | patch => exact b.of_eq (congrArg _ (patchCrossing_verdicts p s)) (patchCrossing_m16 p s)
  | fold => exact b.of_units (foldCrossing_verdicts level p s) (foldCrossing_registration level p s)
  | gate => exact b.of_eq (gateCrossing_triggerLog p s) (congrArg _ (gateCrossing_registration p s))
  | count => exact b.of_units (countCrossing_verdicts p s) (countCrossing_registration p s)

theorem crossing_portLaw (h : PortLaw s) (level : Bool) (p : Nat) : PortLaw (crossing level s p) :=
  runAll_induct PortLaw (fun _ => True) (fun _ _ h => h.of_eq rfl rfl rfl)
    (fun t _ _ h => doCrossing_portLaw h level p t) _ s (fun _ _ => trivial) h

theorem crossings_portLaw (h : PortLaw s) (level : Bool) (lo hi : Nat) : PortLaw (crossings level lo hi s) :=
  List.foldlRecOn _ _ h fun _ hx p _ => crossing_portLaw hx level p

/-- The Firing Unit at a boundary: the overdue edges, then those that fall at phase 0 (R45). -/
theorem firingBoundary_bounded (h : Bounded s) (period : Nat) (valid : Bool) : Bounded (firingBoundary period valid s) := by
  have overdue : Bounded (takeOverdue s) := by
    have taken := runFree_induct (act := fun x s => ([], takeEdge x.edge s)) (able := overdueAble) Bounded
      (fun _ => True) (fun _ _ b => b.of_eq rfl rfl) (fun x _ _ b => ⟨takeEdge_bounded b x.edge, fun _ _ => trivial⟩)
      (overdueEdges s).length (overdueEdges s) s (fun _ _ => trivial) h
    exact taken.of_eq rfl rfl
  refine runAll_induct Bounded (fun _ => True) (fun _ _ b => b.of_eq rfl rfl)
    (fun e _ _ b => takeEdge_bounded b e) _ _ (fun _ _ => trivial) ?_
  exact overdue.of_units (by simp) (by simp)

theorem doBoundary_portLaw (h : PortLaw s) (n : Nat) (w level : Bool) (t : BoundaryTask) :
    PortLaw (doBoundary n w level t s).2 := by
  have posts := doBoundary_posts n w level t s
  cases t with
  | cause c => exact raiseCause_portLaw h c none
  | chain =>
    refine h.of_posts posts fun b => ?_
    rcases chainBoundary_registration s with kept | zeroed
    · exact b.of_eq (chainBoundary_triggerLog s) (congrArg _ kept)
    · exact bounded_zeroed ((chainBoundary_triggerLog s).symm ▸ b.log) (congrArg _ zeroed)
  | firing => exact h.of_posts posts fun b => firingBoundary_bounded b n w
  | registration =>
    exact h.of_posts posts fun b => b.of_eq (congrArg _ (registrationBoundary_verdicts s)) (registrationBoundary_m16 s)
  | gumFold =>
    exact h.of_posts posts fun b => b.of_units (gumFoldBoundary_verdicts level s) (gumFoldBoundary_registration level s)
  | gate =>
    exact h.of_posts posts fun b => b.of_eq (gateCrossing_triggerLog 0 s) (congrArg _ (gateCrossing_registration 0 s))
  | batch => exact h.of_posts posts fun b => b.of_units (batchBoundary_verdicts s) (batchBoundary_registration s)
  | emptyNotice => exact chainEmptyNotice_portLaw h

theorem pitchBoundary_portLaw (h : PortLaw s) (level : Bool) : PortLaw (pitchBoundary level s) :=
  runFree_induct PortLaw (fun _ => True) (fun _ _ h => h.of_eq rfl rfl rfl)
    (fun t _ _ h => ⟨doBoundary_portLaw h _ _ level t, fun _ _ => trivial⟩) _ _ (closePitch s) (fun _ _ => trivial)
    (h.of_eq rfl rfl rfl)

/-! ## The requests that name a transition (R136, R138, R139, R144, R149) -/

theorem beginDrain_portLaw (h : PortLaw s) (close : Bool) : PortLaw (beginDrain close s) := by
  simp only [beginDrain]
  split
  · exact completeDrain_portLaw (h.of_eq rfl rfl rfl)
  · exact h.of_eq rfl rfl rfl

theorem clearHalt_portLaw (h : PortLaw s) : PortLaw (clearHalt s) := by
  simp only [clearHalt]
  split
  · exact takeChangeover_portLaw (h.of_eq rfl rfl rfl)
  · exact h.of_eq rfl rfl rfl

/-- R70, R94: LINE RESET empties the trigger log and zeroes the drift filter. -/
theorem lineReset_portLaw (h : PortLaw s) : PortLaw (lineReset s) := by
  have reset : PortLaw (unitsReset s) := by
    have discarded : PortLaw (discardRecords (purgeBatch s)) := by
      have purged : PortLaw (purgeBatch s) := (closeBatch_portLaw h .purge).of_eq rfl rfl rfl
      have emptied : PortLaw (emptied (purgeBatch s)) := purged.of_eq rfl rfl rfl
      exact emptied.of_posts (releaseNotices_posts _ _) fun b =>
        b.of_units (releaseNotices_verdicts _ _) (releaseNotices_registration _ _)
    exact discarded.of_posts (.of_eq rfl) fun _ => bounded_zeroed (Nat.zero_le _) rfl
  rw [lineReset_eq]
  exact examineLevels_portLaw (takeChangeover_portLaw reset)

theorem armBank_portLaw (h : PortLaw s) (b : BankId) : PortLaw (armBank b s) := by
  have armed : PortLaw (setBankState b .armed s) := h.of_eq rfl rfl rfl
  simp only [armBank]
  split
  · exact takeChangeover_portLaw armed
  · exact armed

end

/-! ## Every command -/

theorem powerOn_portLaw (a b : Bool) (sensors : Sensors) (choices : Nat) (pending : List Instr) :
    PortLaw (.powerOn a b sensors choices pending) :=
  (portLaw_iff _).mpr ⟨fun l => Port.law_resting (by cases l <;> rfl) (.inl (by cases l <;> exact ⟨rfl, rfl⟩))
    (by cases l <;> exact Nat.zero_le _), bounded_zeroed (Nat.zero_le _) rfl⟩

theorem conclude_portLaw {s : State} (h : PortLaw s) : PortLaw (conclude s) := by
  cases pin : s.sensors.resetPin with
  | false => rw [conclude_eq s pin]; exact h.of_eq rfl rfl rfl
  | true =>
    have held : underReset s = .powerOn s.shaft.pairA s.shaft.pairB s.sensors s.choices s.pending := by
      simp [underReset, pin]
    rw [conclude, held]
    exact (powerOn_portLaw s.shaft.pairA s.shaft.pairB s.sensors s.choices s.pending).of_eq rfl rfl rfl

/-- The Shaft Tracker's own writes, beside the crossings, boundaries and causes that a shaft event is made of. -/
theorem shaft_portLaw (s : State) (x : Shaft) (h : PortLaw s) : PortLaw { s with shaft := x } :=
  h.of_eq rfl rfl rfl

/-- A level change that may raise a cause. -/
theorem raiseIf_portLaw {s : State} (h : PortLaw s) (p : Prop) [Decidable p] (c : HaltCause) :
    PortLaw (if p then raiseCause c none s else s) := by
  split
  · exact raiseCause_portLaw h c none
  · exact h

/-- A cause that follows a level or a link's hold (R75, R83, R145, R146). -/
theorem setFeedCause_portLaw {s : State} (h : PortLaw s) (c : FeedCause) (present : Bool) :
    PortLaw (setFeedCause c present s) :=
  h.of_posts (setFeedCause_posts c present s) fun b => b.of_units (by simp) (by simp)

/-- Every command concludes a state that meets the law. -/
theorem exec_keeps_portLaw (i : Instr) {s : State} (h : PortLaw s) :
    ∃ x, exec i s = .next (conclude x) ∧ PortLaw x := by
  cases i with
  | powerOnReset asserted pair => exact ⟨_, rfl, powerOn_portLaw _ _ _ _ _⟩
  | forwardCountStep elapsed level =>
    exact ⟨_, rfl, forwardCount_induct PortLaw shaft_portLaw (fun v lo hi _ h => crossings_portLaw h v lo hi)
      (fun v _ h => pitchBoundary_portLaw h v) level _ (shaft_portLaw s _ h)⟩
  | backwardCountStep =>
    exact ⟨_, rfl, backwardCount_induct PortLaw (fun _ _ h => h.of_eq rfl rfl rfl) shaft_portLaw
      (fun c _ h => raiseCause_portLaw h c none) _ (shaft_portLaw s _ h)⟩
  | indexEdge elapsed level =>
    exact ⟨_, rfl, indexEdge_induct PortLaw shaft_portLaw (fun v lo hi _ h => crossings_portLaw h v lo hi)
      (fun v _ h => pitchBoundary_portLaw h v) (fun c _ h => raiseCause_portLaw h c none) level _
      (shaft_portLaw s _ h)⟩
  | illegalTransition => exact ⟨_, rfl, shaft_portLaw s _ h⟩
  | pitchTimerHold => exact ⟨_, rfl, shaft_portLaw s _ h⟩
  | markEdge => exact ⟨_, rfl, h.of_posts (markEdge_posts s) markEdge_bounded⟩
  | patchPresentEdge => exact ⟨_, rfl, h.of_posts (.of_eq (by simp)) patchPresentEdge_bounded⟩
  | foldCheckEdge => exact ⟨_, rfl, h.of_posts (foldCheckEdge_posts s) fun b => b.of_units (by simp) (by simp)⟩
  | patchWebOkChange level =>
    have levelled : PortLaw { s with sensors.patchWebOk := level } := h.of_eq rfl rfl rfl
    exact ⟨_, rfl, setFeedCause_portLaw levelled _ _⟩
  | gumOkChange level =>
    have levelled : PortLaw { s with sensors.gumOk := level } := h.of_eq rfl rfl rfl
    exact ⟨_, rfl, setFeedCause_portLaw levelled _ _⟩
  | estopChange level =>
    have levelled : PortLaw { s with sensors.estop := level } := h.of_eq rfl rfl rfl
    exact ⟨_, rfl, raiseIf_portLaw levelled _ .estop⟩
  | jamChange level =>
    have levelled : PortLaw { s with sensors.jam := level } := h.of_eq rfl rfl rfl
    exact ⟨_, rfl, raiseIf_portLaw levelled _ .jam⟩
  | exchangeStart l => exact ⟨_, rfl, setPort_portLaw h (Port.start_law (h.port l)) l⟩
  | exchangeEnd l arrived => exact ⟨_, rfl, endExchange_portLaw h l arrived⟩
  | linkTimeout l arrived => exact ⟨_, rfl, setPort_portLaw h (Port.timeout_law (h.port l) arrived) l⟩
  | ackEvents l p =>
    refine ⟨_, rfl, ?_⟩
    split
    · exact h.answered _ _ _ _
    · exact (setEvents_portLaw h _ _ _).answered _ _ _ _
  | enableEvents l p =>
    refine ⟨_, rfl, ?_⟩
    split
    · exact h.answered _ _ _ _
    · exact (setEvents_portLaw h _ _ _).answered _ _ _ _
  | disableEvents l p =>
    refine ⟨_, rfl, ?_⟩
    split
    · exact h.answered _ _ _ _
    · exact (setEvents_portLaw h _ _ _).answered _ _ _ _
  | feedHold l p =>
    refine ⟨_, rfl, ?_⟩
    split
    · exact h.answered _ _ _ _
    · exact (setFeedCause_portLaw h (holdOf l) true).answered _ _ _ _
  | halt l p =>
    refine ⟨_, rfl, ?_⟩
    split
    · exact h.answered _ _ _ _
    · split
      · exact h.answered _ _ _ _
      · exact (raiseCause_portLaw h .haltCommand (some l)).answered _ _ _ _
  | commitGeometry p =>
    refine ⟨_, rfl, ?_⟩
    split
    · exact h.answered _ _ _ _
    · split
      · split
        · exact h.answered _ _ _ _
        · have locked : PortLaw (committed s) := h.of_eq rfl rfl rfl
          exact (examineLevels_portLaw locked).answered _ _ _ _
      · exact h.answered _ _ _ _
  | releaseGeometry p =>
    refine ⟨_, rfl, ?_⟩
    split
    · exact h.answered _ _ _ _
    · split
      · have released : PortLaw (releaseGeometry s) := h.of_eq rfl rfl rfl
        exact released.answered _ _ _ _
      · exact h.answered _ _ _ _
  | start p =>
    refine ⟨_, rfl, ?_⟩
    split
    · exact h.answered _ _ _ _
    · split
      · exact (h.of_posts (startLine_posts s) fun b => b.of_units (by simp) (by simp)).answered _ _ _ _
      · exact h.answered _ _ _ _
  | drain p =>
    refine ⟨_, rfl, ?_⟩
    split
    · exact h.answered _ _ _ _
    · split
      · exact (beginDrain_portLaw h _).answered _ _ _ _
      · exact h.answered _ _ _ _
  | clearHalt p =>
    refine ⟨_, rfl, ?_⟩
    split
    · exact h.answered _ _ _ _
    · split
      · exact (clearHalt_portLaw h).answered _ _ _ _
      · exact h.answered _ _ _ _
  | lineReset p =>
    refine ⟨_, rfl, ?_⟩
    split
    · exact h.answered _ _ _ _
    · split
      · exact (lineReset_portLaw h).answered _ _ _ _
      · exact h.answered _ _ _ _
  | validateBank p =>
    refine ⟨_, rfl, ?_⟩
    split
    · exact h.answered _ _ _ _
    · split
      · unfold validateStaging
        split
        · exact h.answered _ _ _ _
        · have valid : ∀ b, PortLaw (setBankState b .valid s) := fun b => h.of_eq rfl rfl rfl
          exact (valid _).answered _ _ _ _
      all_goals exact h.answered _ _ _ _
  | armChangeover p =>
    refine ⟨_, rfl, ?_⟩
    split
    · exact h.answered _ _ _ _
    · split
      · exact (armBank_portLaw h _).answered _ _ _ _
      · exact h.answered _ _ _ _
  | readTriggers p =>
    refine ⟨_, rfl, ?_⟩
    split
    · exact h.answered _ _ _ _
    · dsimp only
      split
      · exact h.answered _ _ _ _
      · have taken : PortLaw { s with verdicts.triggerLog := s.verdicts.triggerLog.drop 8 } :=
          h.of_posts (.of_eq rfl) fun b =>
            ⟨Nat.le_trans (by simp) b.log, b.low, b.high⟩
        exact taken.answered _ _ _ _
  | verdict p =>
    refine ⟨_, rfl, ?_⟩
    split
    · exact h.answered _ _ _ _
    · have taken : ∀ q result cause, PortLaw (takeVerdict q result cause s).2 := fun q result cause =>
        h.of_eq (by simp) (takeVerdict_triggerLog q result cause s) (by simp)
      exact (taken _ _ _).answered _ _ _ _
  | takeBatch p =>
    refine ⟨_, rfl, ?_⟩
    split
    · exact h.answered _ _ _ _
    · split
      · exact h.answered _ _ _ _
      · split
        · have taken : ∀ rest, PortLaw (checkBacklog { s with batch.queue := rest }) := fun rest =>
            h.of_posts (Posts.trans (.of_eq rfl) (checkBacklog_posts { s with batch.queue := rest })) fun b =>
              b.of_units (by simp) (by simp)
          exact (taken _).answered _ _ _ _
        · exact h.answered _ _ _ _
  | _ =>
    -- The other requests answer at their port and write nothing else that the law speaks of.
    refine ⟨_, rfl, ?_⟩
    (repeat' split) <;> refine PortLaw.answered (h.of_eq ?_ ?_ ?_) _ _ _ _ <;> simp

/-- Settles O16: the law holds after the front command, whatever it is, and after a tick. -/
theorem stepsKeepThePortLaw : Obligations.StepsKeepThePortLaw := by
  intro s t h hstep
  unfold step at hstep
  split at hstep
  · cases hstep
    unfold tick
    split
    · exact h
    · exact shaft_portLaw s _ h
  · rename_i c rest _
    obtain ⟨x, hx, law⟩ := exec_keeps_portLaw c (s := { s with pending := rest }) (h.of_eq rfl rfl rfl)
    rw [hx] at hstep
    cases hstep
    exact conclude_portLaw law

end Sys2Proof.Machine

/-! # Measured differences go the short way round (R13, R65), and the drift filter follows them (R68) -/

namespace Sys2Proof.Machine

/-- R65: the error lies in its range and differs from the distance by whole pitches. -/
theorem registrationError_spec (c x : Nat) : (-2048 ≤ registrationError c x ∧ registrationError c x ≤ 2047)
    ∧ ((c : Int) - x - registrationError c x) % 4096 = 0 := by
  unfold registrationError
  omega

/-- A distance taken modulo an even pitch, the short way round. -/
theorem shortWay_spec (v : Int) {n : Int} (pos : 0 < n) (even : n % 2 = 0) :
    (-(n / 2) ≤ (v + n / 2) % n - n / 2 ∧ (v + n / 2) % n - n / 2 ≤ n / 2 - 1)
      ∧ ((v + n / 2) % n - n / 2 - v) % n = 0 := by
  have low := Int.emod_nonneg (v + n / 2) (Int.ne_of_gt pos)
  have high := Int.emod_lt_of_pos (v + n / 2) pos
  refine ⟨by omega, ?_⟩
  have whole : (v + n / 2) % n - n / 2 - v = n * -((v + n / 2) / n) := by
    rw [Int.emod_def]; ring
  rw [whole, Int.mul_emod_right]

/-- R13: the difference of an index edge goes the short way round the pitch. -/
theorem indexDifference_spec {s : State} (pos : 0 < s.shaft.workingCpp) (even : s.shaft.workingCpp % 2 = 0) :
    (-((s.shaft.workingCpp : Int) / 2) ≤ indexDifference s
        ∧ indexDifference s ≤ (s.shaft.workingCpp : Int) / 2 - 1)
      ∧ ((s.shaft.count : Int) + indexDifference s - s.geometry.indexCount) % s.shaft.workingCpp = 0 := by
  obtain ⟨range, whole⟩ := shortWay_spec ((s.geometry.indexCount : Int) - s.shaft.count)
    (n := s.shaft.workingCpp) (by omega) (by omega)
  refine ⟨range, ?_⟩
  rw [← whole, indexDifference]
  congr 1
  ring

/-- An eighth, truncated, lies between 0 and the whole. -/
theorem tdiv_eight_between (v : Int) :
    (0 ≤ v → 0 ≤ v.tdiv 8 ∧ v.tdiv 8 ≤ v) ∧ (v ≤ 0 → v ≤ v.tdiv 8 ∧ v.tdiv 8 ≤ 0) := by
  constructor
  · intro pos
    rw [Int.tdiv_eq_ediv_of_nonneg pos]
    omega
  · intro neg
    have mirrored : v.tdiv 8 = -(-v / 8) := by
      rw [← Int.tdiv_eq_ediv_of_nonneg (by omega), Int.neg_tdiv, Int.neg_neg]
    rw [mirrored]
    omega

/-- R68: within the filter's range it moves from where it stands toward 16 × e and never past it. -/
theorem driftFilter_toward {m e : Int} (low : -32767 ≤ m) (high : m ≤ 32767) (lowE : -32767 ≤ 16 * e)
    (highE : 16 * e ≤ 32767) :
    (m ≤ 16 * e → m ≤ driftFilter m e ∧ driftFilter m e ≤ 16 * e)
      ∧ (16 * e ≤ m → 16 * e ≤ driftFilter m e ∧ driftFilter m e ≤ m) := by
  obtain ⟨up, down⟩ := tdiv_eight_between (16 * e - m)
  have unclamped : driftFilter m e = m + (16 * e - m).tdiv 8 := by
    rw [driftFilter, clampInt, if_neg, if_neg]
    all_goals
      rcases Int.le_total m (16 * e) with h | h
      · have := up (by omega); omega
      · have := down (by omega); omega
  rw [unclamped]
  constructor
  · intro h; have := up (by omega); omega
  · intro h; have := down (by omega); omega

/-- Settles O24: the two differences are distances taken the short way round; the filter goes toward the error it takes. -/
theorem measurementsGoTheShortWayRound : Obligations.MeasurementsGoTheShortWayRound := by
  refine ⟨fun c x => ?_, fun s pos even => ?_, fun m e b bound low high lowE highE => ?_⟩
  · obtain ⟨⟨low, high⟩, whole⟩ := registrationError_spec c x
    exact ⟨low, high, whole⟩
  · obtain ⟨⟨low, high⟩, whole⟩ := indexDifference_spec pos even
    exact ⟨low, high, whole⟩
  · obtain ⟨up, down⟩ := driftFilter_toward (m := m) (e := e) (by omega) (by omega) (by omega) (by omega)
    refine ⟨?_, up, down⟩
    rcases Int.le_total m (16 * e) with h | h
    · have := up h; omega
    · have := down h; omega

end Sys2Proof.Machine

/-! # PATCH_PRESENT and FOLD_CHECK edges (R73, R86, R88) -/

namespace Sys2Proof.Machine

/-! ## The PATCH_PRESENT edge (R73) -/

section
variable {s : State}

theorem running_false {x : LineState} (run : x ≠ .run) (drain : x ≠ .drain) : x.running = false := by
  cases x <;> first | rfl | contradiction

theorem patchPresentEdge_idle (idle : s.line.state.running = false) : patchPresentEdge s = s := by
  simp [patchPresentEdge, idle]

/-- A patch is seen where the window is open for a subject whose record was patched. -/
theorem patchEdgeSeen_iff : patchEdgeSeen s = true ↔ s.registration.patchOpen = true
    ∧ ∃ q r, s.registration.patchSubject = some q ∧ recordBySeq s q = some r ∧ r.patched = .done := by
  unfold patchEdgeSeen
  cases s.registration.patchSubject with
  | none => simp
  | some q => cases hr : recordBySeq s q <;> simp [hr]

theorem patchPresentEdge_seen (running : s.line.state.running = true) (seen : patchEdgeSeen s = true) :
    patchPresentEdge s = { s with registration.patchSeen := true } := by
  simp [patchPresentEdge, running, seen]

theorem patchPresentEdge_stray (running : s.line.state.running = true) (unseen : patchEdgeSeen s = false) :
    patchPresentEdge s = { s with registration.strayPatches := s.registration.strayPatches + 1 } := by
  simp [patchPresentEdge, running, unseen]

/-- With the window shut, no subject, or a subject not patched, no patch is seen. -/
theorem patchEdgeSeen_false (h : s.registration.patchOpen = false ∨ s.registration.patchSubject = none
    ∨ ∃ q, s.registration.patchSubject = some q ∧ ∀ r, recordBySeq s q = some r → r.patched ≠ .done) :
    patchEdgeSeen s = false := by
  rw [Bool.eq_false_iff, ne_eq, patchEdgeSeen_iff]
  rintro ⟨isOpen, q, r, subject, record, patched⟩
  rcases h with shut | none | ⟨q', subject', unpatched⟩
  · simp [isOpen] at shut
  · simp [subject] at none
  · obtain rfl : q = q' := Option.some.inj (subject.symm.trans subject')
    exact unpatched r record patched

/-! ## The FOLD_CHECK edge (R86, R88) -/

theorem foldReport_seen (seen : s.gumFold.foldSeen = true) : foldReport s = s := by
  simp [foldReport, seen]

/-- The first report for a record: fold seen. -/
theorem foldReport_record (unseen : s.gumFold.foldSeen = false) {q : Seq} (target : s.gumFold.foldTarget = .record q) :
    foldReport s = { s with gumFold.foldSeen := true } := by
  simp [foldReport, unseen, target]

/-- The first report where no blank should stand: a stray blank (R88). -/
theorem foldReport_empty (unseen : s.gumFold.foldSeen = false) {b : BankId} (target : s.gumFold.foldTarget = .empty b) :
    foldReport s = { s with
      gumFold := { s.gumFold with foldSeen := true, strayBlanks := s.gumFold.strayBlanks + 1 }
      ports := portsPosted [.stray] s.ports } := by
  simp only [foldReport, unseen, target]
  rfl

/-- R86: an edge is ignored outside RUN and DRAIN, with the window SHUT, with no target, and once the fold was seen. -/
theorem foldCheckEdge_ignored (h : (s.line.state ≠ .run ∧ s.line.state ≠ .drain) ∨ s.gumFold.foldOpen = false
    ∨ s.gumFold.foldSeen = true ∨ s.gumFold.foldTarget = .absent) : foldCheckEdge s = s := by
  unfold foldCheckEdge
  split
  · rename_i taken
    obtain ⟨running, isOpen, target⟩ := taken
    rcases h with ⟨run, drain⟩ | shut | seen | absent
    · rw [running_false run drain] at running; cases running
    · rw [shut] at isOpen; cases isOpen
    · exact foldReport_seen seen
    · exact absurd absent target
  · rfl

theorem foldCheckEdge_taken (running : s.line.state.running = true) (isOpen : s.gumFold.foldOpen = true)
    (target : s.gumFold.foldTarget ≠ .absent) : foldCheckEdge s = foldReport s :=
  if_pos ⟨running, isOpen, target⟩

end

/-- Settles O25: the patch edge by whether it is seen, the fold edge by its window and target. -/
theorem patchAndFoldEdgesAreSeenOrStray : Obligations.PatchAndFoldEdgesAreSeenOrStray := by
  have patch : ∀ s, exec .patchPresentEdge s = .next (conclude (patchPresentEdge s)) := fun _ => rfl
  have fold : ∀ s, exec .foldCheckEdge s = .next (conclude (foldCheckEdge s)) := fun _ => rfl
  refine ⟨fun s => ⟨fun run drain => ?_, fun running => ⟨fun q r isOpen subject record patched => ?_, fun h => ?_⟩⟩,
    fun s => ⟨fun h => ?_, fun running isOpen unseen => ⟨fun q target => ?_, fun b target => ?_⟩⟩⟩
  · rw [patch, patchPresentEdge_idle (running_false run drain)]
  · rw [patch, patchPresentEdge_seen ((running_iff _).mpr running)
      (patchEdgeSeen_iff.mpr ⟨isOpen, q, r, subject, record, patched⟩)]
  · rw [patch, patchPresentEdge_stray ((running_iff _).mpr running) (patchEdgeSeen_false h)]
  · rw [fold, foldCheckEdge_ignored h]
  · rw [fold, foldCheckEdge_taken ((running_iff _).mpr running) isOpen (by simp [target]),
      foldReport_record unseen target]
  · rw [fold, foldCheckEdge_taken ((running_iff _).mpr running) isOpen (by simp [target]),
      foldReport_empty unseen target]

end Sys2Proof.Machine

/-! # MARK edges (R64 to R66, R68, R69) -/

namespace Sys2Proof.Machine

/-! ## Clamping in the words of the rules -/

theorem clampInt_eq_max_min {lo hi : Int} (h : lo ≤ hi) (v : Int) : clampInt lo hi v = max lo (min hi v) := by
  unfold clampInt
  (repeat' split) <;> omega

/-- R24: a reason is added to the record bearing a seq, while its fate is UNDECIDED. -/
theorem addReason_eq (q : Seq) (e : Reason) (s : State) : addReason q e s = { s with
    chain := { s.chain with records := s.chain.records.map fun x =>
      if x.seq = q ∧ x.fate = .undecided then { x with reasons := maskAdd x.reasons e.index } else x } } := by
  have write : ∀ x : Record, (if x.seq = q then x.addReason e else x)
      = if x.seq = q ∧ x.fate = .undecided then { x with reasons := maskAdd x.reasons e.index } else x := by
    intro x
    by_cases named : x.seq = q <;> simp [named, Record.addReason]
  simp only [addReason, updateRecord_eq, write]

section
variable {s : State} {q : Seq} {r : Record}

/-! ## The edge by the line state and the window (R64) -/

theorem markEdge_idle (idle : s.line.state.running = false) : markEdge s = s := by
  simp [markEdge, idle]

theorem markEdge_shut (running : s.line.state.running = true) (shut : s.registration.markWindow = .shut) :
    markEdge s = { s with registration := { s.registration with strayMarks := s.registration.strayMarks + 1 } } := by
  simp [markEdge, running, shut]

theorem markEdge_second (running : s.line.state.running = true) (captured : s.registration.markWindow = .captured)
    (subject : s.registration.markSubject = some q) : markEdge s = addReason q .doubleMark s := by
  simp [markEdge, running, captured, subject]

theorem markEdge_capture (running : s.line.state.running = true) (opened : s.registration.markWindow = .opened)
    (subject : s.registration.markSubject = some q) : markEdge s = capture q s := by
  simp [markEdge, running, opened, subject]

/-! ## The capture judged by its tolerance (R65, R66) -/

/-- The error of a mark captured at the present phase for a record (R65). -/
def markError (r : Record) (s : State) : Int := registrationError s.shaft.phase (fieldsOf s r.bank).markExpected

theorem measure_accepts (record : recordBySeq s q = some r) (within : |markError r s| ≤ (fieldsOf s r.bank).tol) :
    measure q s = acceptMeasurement q (fieldsOf s r.bank) (markError r s) s := by
  unfold measure
  rw [record]
  exact if_pos within

theorem measure_refuses (record : recordBySeq s q = some r) (beyond : (fieldsOf s r.bank).tol < |markError r s|) :
    measure q s = refuseMeasurement q (markError r s) s := by
  unfold measure
  rw [record]
  exact if_neg (not_le.mpr beyond)

/-- R69: the alert follows its threshold, and is told as it becomes active. -/
theorem checkDrift_eq (threshold : Nat) (s : State) : checkDrift threshold s = { s with
    registration := { s.registration with driftAlert := decide (16 * (threshold : Int) < |s.registration.m16|) }
    ports := if decide (16 * (threshold : Int) < |s.registration.m16|) = true ∧ s.registration.driftAlert = false then
      portsPosted [.driftAlert] s.ports else s.ports } := by
  simp only [checkDrift]
  split <;> rfl

/-- R66, R68, R69: a measurement within tolerance, written out. -/
theorem acceptMeasurement_eq (q : Seq) (f : BankFields) (e : Int) (s : State) : acceptMeasurement q f e s = { s with
    chain := { s.chain with records := s.chain.records.map fun x =>
      if x.seq = q then { x with regError := some e, shift := some (shiftOf f.shiftMax e) } else x }
    registration := { s.registration with
      m16 := driftFilter s.registration.m16 e
      driftAlert := decide (16 * (f.driftAlert : Int) < |driftFilter s.registration.m16 e|)
      accepted := s.registration.accepted + 1 }
    ports := if decide (16 * (f.driftAlert : Int) < |driftFilter s.registration.m16 e|) = true
        ∧ s.registration.driftAlert = false then portsPosted [.driftAlert] s.ports else s.ports } := by
  rw [acceptMeasurement, checkDrift_eq, updateRecord_eq]

/-- R65, R66: a measurement out of tolerance, written out. -/
theorem refuseMeasurement_eq (q : Seq) (e : Int) (s : State) : refuseMeasurement q e s = { s with
    chain := { s.chain with records := s.chain.records.map fun x =>
      if x.seq = q then { x with
        regError := some e
        reasons := if x.fate = .undecided then maskAdd x.reasons Reason.regOutOfTol.index else x.reasons } else x } } := by
  rw [refuseMeasurement, addReason, updateRecord_twice, updateRecord_eq]
  · simp only [Record.addReason_eq]
  · exact fun _ => rfl

end

/-- Settles O23: the edge by the line state and the window, and the capture by its tolerance. -/
theorem markEdgeCapturesOrCounts : Obligations.MarkEdgeCapturesOrCounts := by
  have edge : ∀ s, exec .markEdge s = .next (conclude (markEdge s)) := fun _ => rfl
  intro s
  refine ⟨fun run drain => ?_, fun h => ⟨fun shut => ?_, fun q captured subject => ?_, fun q r opened subject record => ?_⟩⟩
  · rw [edge, markEdge_idle (running_false run drain)]
  · rw [edge, markEdge_shut ((running_iff _).mpr h) shut]
  · rw [edge, markEdge_second ((running_iff _).mpr h) captured subject, addReason_eq]
  · have taken := markEdge_capture ((running_iff _).mpr h) opened subject
    refine ⟨fun within => ?_, fun beyond => ?_⟩
    · rw [edge, taken, capture, measure_accepts record (by rw [abs_eq_max_neg]; exact within), acceptMeasurement_eq]
      simp only [driftFilter, clampInt_eq_max_min (lo := -32767) (hi := 32767) (by decide), abs_eq_max_neg]
      rfl
    · rw [edge, taken, capture, measure_refuses record (by rw [abs_eq_max_neg]; exact beyond), refuseMeasurement_eq]
      rfl

end Sys2Proof.Machine

/-! # A changeover taking effect (R70, R107, R130) -/

namespace Sys2Proof.Machine

section
variable {s : State} {b : BankId}

/-- With bank `b` ARMED the other is the active one exactly if it is ACTIVE. -/
theorem activeBank_eq_other (armed : bankState s b = .armed) :
    activeBank s = some b.other ↔ bankState s b.other = .active :=
  ⟨bankState_of_bankIn, fun active => bankIn_eq_some active (by cases b <;> simp_all [BankId.other])⟩

/-- R130: the bank that was ACTIVE is retired; a bank in another state stays in it. -/
theorem bankState_other_takeChangeover (h : armedBank s = some b) :
    bankState (takeChangeover s) b.other = if bankState s b.other = .active then
      (if bankNamed s b.other then .draining else .valid) else bankState s b.other := by
  rw [bankState_takeChangeover h, if_neg b.other_ne]
  exact if_congr (activeBank_eq_other (bankState_of_bankIn h)) rfl rfl

/-- The state in which the supplies are taken anew at a changeover to bank `b` (R130). -/
def changedOver (b : BankId) (s : State) : State := supersede b (zeroDrift (post .changeoverTaken (banksChanged b s)))

theorem takeChangeover_eq (h : armedBank s = some b) : takeChangeover s = retakeSupplies (changedOver b s) :=
  takeChangeover_armed h

/-- R107: an open batch of the bank now ACTIVE is superseded, and stays so. -/
theorem supersede_eq (b : BankId) (s : State) : supersede b s = { s with
    batch := { s.batch with openBatch := s.batch.openBatch.map fun o =>
      { o with superseded := o.superseded || o.bank == b } } } := by
  have marked : (fun o : OpenBatch => if o.bank = b then { o with superseded := true } else o)
      = fun o => { o with superseded := o.superseded || o.bank == b } := by
    funext o
    by_cases h : o.bank = b
    · simp [h]
    · have other : (o.bank == b) = false := by simpa using h
      simp [h, other]
  rw [supersede, marked]

/-- R70, R107, R130: what a changeover writes in the units, beside the banks, the ports and the supply causes. -/
theorem changedOver_written (b : BankId) (s : State) : changedOver b s = { s with
    banks := (changedOver b s).banks
    ports := (changedOver b s).ports
    registration := { s.registration with m16 := 0, driftAlert := false, accepted := 0 }
    batch := { s.batch with openBatch := s.batch.openBatch.map fun o =>
      { o with superseded := o.superseded || o.bank == b } } } := by
  rw [changedOver, supersede_eq, banksChanged_written]
  rfl

/-- R130, R159: the retired bank is told as released where no record names it. -/
theorem banksChanged_told (armed : bankState s b = .armed) (old : bankState s b.other = .active)
    (unnamed : bankNamed s b.other = false) (l : Link) :
    maskHas ((banksChanged b s).ports.get l).pending Event.bankReleased.index = true := by
  have unnamed' : bankNamed (setBankState b .active s) b.other = false := unnamed
  rw [banksChanged, (activeBank_eq_other armed).mpr old]
  simp only [retireBank, unnamed']
  exact post_told _ _ l

end

/-- A changeover writes nothing else of the Line Sequencer than the supply causes (R130). -/
theorem takeChangeover_line (s : State) :
    (takeChangeover s).line = { s.line with feedInhibit := (takeChangeover s).line.feedInhibit } :=
  LineSequencer.eq_of_apart (by simp [LineSequencer.apart])

/-- Settles O47: the banks, the units written, the events told, and the supply causes taken anew. -/
theorem changeoverTakesEffect : Obligations.ChangeoverTakesEffect := by
  intro b s h _
  have armed := bankState_of_bankIn h
  have taken := takeChangeover_eq h
  have written := changedOver_written b s
  have posts : Posts (post .changeoverTaken (banksChanged b s)) (takeChangeover s) := by
    rw [taken]
    exact Posts.trans (.of_eq rfl) (retakeSupplies_posts (changedOver b s))
  refine ⟨by simp [bankState_takeChangeover h], bankState_other_takeChangeover h, fieldsOf_takeChangeover s, by simp,
    by simp, by simp, by simp, by simp, takeChangeover_line s, ?_, ?_, fun l => posts.keeps (post_told _ _ l),
    fun old unnamed l => ?_, ?_, ?_⟩
  · rw [taken, retakeSupplies_registration, written]
  · rw [taken, retakeSupplies_batch, written]
  · exact posts.keeps ((post_posts _ _).keeps (banksChanged_told armed old unnamed l))
  · rw [taken]
    exact (retakeSupplies_told (changedOver b s)).gum
  · rw [taken]
    exact (retakeSupplies_told (changedOver b s)).patch

end Sys2Proof.Machine

/-! # Settlement, and the crossings of the windows' phases (R63, R67, R74, R85, R87) -/

namespace Sys2Proof.Machine

/-! ## The missing reason (R67, R74, R87) -/

/-- The records after a reason was added, where it was missing, to the one that bears a seq (R24). -/
def flagged (q : Seq) (missing : Bool) (e : Reason) (s : State) : List Record := s.chain.records.map fun x =>
  if missing = true ∧ x.seq = q ∧ x.fate = .undecided then { x with reasons := maskAdd x.reasons e.index } else x

theorem addReason_if_eq (q : Seq) (missing : Bool) (e : Reason) (s : State) :
    (if missing then addReason q e s else s) = { s with chain := { s.chain with records := flagged q missing e s } } := by
  cases missing
  · simp [flagged]
  · simp [flagged, addReason_eq]

section
variable {s : State} {q : Seq} {r : Record}

theorem noteMissingMark_eq (record : recordBySeq s q = some r) : noteMissingMark q s = { s with
    chain := { s.chain with records := flagged q (r.regError == none) .markMissing s } } := by
  have unmeasured : (r.regError == none) = r.regError.isNone := by cases r.regError <;> rfl
  rw [← addReason_if_eq, noteMissingMark, record, unmeasured]

theorem noteMissingPatch_eq (record : recordBySeq s q = some r) : noteMissingPatch q s = { s with
    chain := { s.chain with
      records := flagged q (r.patched == .done && !s.registration.patchSeen) .patchMissing s } } := by
  rw [← addReason_if_eq, noteMissingPatch, record]
  simp

theorem noteMissingFold_eq (q : Seq) (s : State) : noteMissingFold q s = { s with
    chain := { s.chain with records := flagged q (!s.gumFold.foldSeen) .foldFault s } } := by
  rw [← addReason_if_eq, noteMissingFold]
  cases s.gumFold.foldSeen <;> rfl

/-! ## Settling a subject (R67, R74, R87) -/

theorem settle_config (config : s.line.state = .config) :
    settleMark s = s ∧ settlePatch s = s ∧ settleFold s = s := by
  simp [settleMark, settlePatch, settleFold, config]

theorem settleMark_settled (settled : s.registration.markSettled = true) : settleMark s = s := by
  unfold settleMark
  (repeat' split) <;> rfl

theorem settlePatch_settled (settled : s.registration.patchSettled = true) : settlePatch s = s := by
  unfold settlePatch
  (repeat' split) <;> rfl

theorem settleFold_settled (settled : s.gumFold.foldSettled = true) : settleFold s = s := by
  unfold settleFold
  (repeat' split) <;> rfl

/-- An EMPTY target is not settled. -/
theorem settleFold_empty {b : BankId} (target : s.gumFold.foldTarget = .empty b) : settleFold s = s := by
  simp [settleFold, target]

theorem settleMark_eq (line : s.line.state ≠ .config) (subject : s.registration.markSubject = some q)
    (unsettled : s.registration.markSettled = false) (record : recordBySeq s q = some r) : settleMark s = { s with
      chain := { s.chain with records := flagged q (r.regError == none) .markMissing s }
      registration := { s.registration with markWindow := .shut, markSettled := true } } := by
  simp only [settleMark, line, subject, unsettled, noteMissingMark_eq record]
  rfl

theorem settlePatch_eq (line : s.line.state ≠ .config) (subject : s.registration.patchSubject = some q)
    (unsettled : s.registration.patchSettled = false) (record : recordBySeq s q = some r) : settlePatch s = { s with
      chain := { s.chain with
        records := flagged q (r.patched == .done && !s.registration.patchSeen) .patchMissing s }
      registration := { s.registration with patchOpen := false, patchSettled := true } } := by
  simp only [settlePatch, line, subject, unsettled, noteMissingPatch_eq record]
  rfl

theorem settleFold_eq (line : s.line.state ≠ .config) (target : s.gumFold.foldTarget = .record q)
    (unsettled : s.gumFold.foldSettled = false) : settleFold s = { s with
      chain := { s.chain with records := flagged q (!s.gumFold.foldSeen) .foldFault s }
      gumFold := { s.gumFold with foldOpen := false, foldSettled := true } } := by
  simp only [settleFold, line, target, unsettled, noteMissingFold_eq]
  rfl

/-! ## The crossings of the opening and the closing phase (R63, R67, R74, R85, R87) -/

/-- At one crossing: the opening phase opens, then the closing phase settles. -/
def atCrossing (opening closing p : Nat) (openIt settleIt : State → State) (s : State) : State :=
  if closing = p then settleIt (if opening = p then openIt s else s) else if opening = p then openIt s else s

/-- A crossing of neither phase does nothing; one of the opening phase alone opens, one of the closing phase alone
settles. -/
theorem atCrossing_cases (opening closing p : Nat) (openIt settleIt : State → State) (s : State) :
    (opening ≠ p → closing ≠ p → atCrossing opening closing p openIt settleIt s = s)
      ∧ (opening = p → closing ≠ p → atCrossing opening closing p openIt settleIt s = openIt s)
      ∧ (opening ≠ p → closing = p → atCrossing opening closing p openIt settleIt s = settleIt s) := by
  refine ⟨fun ho hc => ?_, fun ho hc => ?_, fun ho hc => ?_⟩ <;> simp [atCrossing, ho, hc]

theorem subjectFields_of_record {subject : Option Seq} (named : subject = some q) (record : recordBySeq s q = some r) :
    subjectFields s subject = some (fieldsOf s r.bank) := by
  simp [subjectFields, named, record]

theorem markCrossing_eq (subject : s.registration.markSubject = some q) (record : recordBySeq s q = some r) (p : Nat) :
    markCrossing p s
      = atCrossing (fieldsOf s r.bank).markOpen (fieldsOf s r.bank).markClose p openMark settleMark s := by
  simp only [markCrossing, subjectFields_of_record subject record]
  rfl

theorem patchCrossing_eq (subject : s.registration.patchSubject = some q) (record : recordBySeq s q = some r) (p : Nat) :
    patchCrossing p s = atCrossing (fieldsOf s r.bank).patchCheckOpen (fieldsOf s r.bank).patchCheckClose p
      openPatch settlePatch s := by
  simp only [patchCrossing, subjectFields_of_record subject record]
  rfl

theorem foldCrossing_eq {b : BankId} (bank : foldBank s = some b) (level : Bool) (p : Nat) :
    foldCrossing level p s
      = atCrossing (fieldsOf s b).foldOpen (fieldsOf s b).foldClose p (openFold level) closeFold s := by
  simp only [foldCrossing, foldFields, bank, Option.map_some]
  rfl

theorem foldBank_record (target : s.gumFold.foldTarget = .record q) (record : recordBySeq s q = some r) :
    foldBank s = some r.bank := by
  simp [foldBank, target, record]

theorem foldBank_empty {b : BankId} (target : s.gumFold.foldTarget = .empty b) : foldBank s = some b := by
  simp [foldBank, target]

end

/-- Settles O56: each subject settled, each crossing by the phases it meets, and the EMPTY target. -/
theorem settlementAddsTheMissingReason : Obligations.SettlementAddsTheMissingReason := by
  refine ⟨fun q r s line record => ⟨fun subject => ?_, fun subject => ?_, fun target => ?_, fun level p => ?_⟩,
    fun s config => settle_config config, fun level p b s target => ?_⟩
  · exact ⟨settleMark_settled, fun unsettled => settleMark_eq line subject unsettled record⟩
  · exact ⟨settlePatch_settled, fun unsettled => settlePatch_eq line subject unsettled record⟩
  · exact ⟨settleFold_settled, fun unsettled => settleFold_eq line target unsettled⟩
  · refine ⟨fun subject => ?_, fun subject => ?_, fun target => ?_⟩
    · rw [markCrossing_eq subject record]
      exact atCrossing_cases _ _ _ _ _ _
    · rw [patchCrossing_eq subject record]
      exact atCrossing_cases _ _ _ _ _ _
    · rw [foldCrossing_eq (foldBank_record target record)]
      exact atCrossing_cases _ _ _ _ closeFold _
  · obtain ⟨neither, opens, closes⟩ :=
      atCrossing_cases (fieldsOf s b).foldOpen (fieldsOf s b).foldClose p (openFold level) closeFold s
    rw [← foldCrossing_eq (foldBank_empty target)] at neither opens closes
    refine ⟨settleFold_empty target, neither, opens, fun ho hc => ?_⟩
    rw [closes ho hc, closeFold, settleFold_empty target]

end Sys2Proof.Machine

/-! # The windows of a pitch, its subjects and its fold target (R62, R63, R82, R84, R85, R88, R89) -/

namespace Sys2Proof.Machine

/-! ## Opening a window (R63, R85, R88, R89) -/

theorem openMark_eq (s : State) : openMark s =
    if (s.line.state = .run ∨ s.line.state = .drain) ∧ s.registration.markSubject ≠ none
        ∧ s.registration.markSettled = false ∧ s.registration.markWindow = .shut then
      { s with registration := { s.registration with markWindow := .opened } } else s := by
  simp only [openMark, running_iff, Option.isSome_iff_ne_none]

theorem openPatch_eq (s : State) : openPatch s =
    if (s.line.state = .run ∨ s.line.state = .drain) ∧ s.registration.patchSubject ≠ none
        ∧ s.registration.patchSettled = false ∧ s.registration.patchOpen = false then
      { s with registration := { s.registration with patchOpen := true, patchSeen := false } } else s := by
  simp only [openPatch, running_iff, Option.isSome_iff_ne_none]

/-- Whether an active FOLD_CHECK level at a target is a stray blank: none should stand there (R88). -/
def FoldTarget.strays (level : Bool) (target : FoldTarget) : Bool :=
  level && (match target with | .empty _ => true | .absent => false | .record _ => false)

/-- The fold window open, with the level reported (R85, R86, R88). -/
def foldOpened (level : Bool) (s : State) : State := { s with
  gumFold := { s.gumFold with
    foldOpen := true, foldSeen := level
    strayBlanks := if s.gumFold.foldTarget.strays level then s.gumFold.strayBlanks + 1 else s.gumFold.strayBlanks }
  ports := if s.gumFold.foldTarget.strays level then portsPosted [.stray] s.ports else s.ports }

theorem openFold_eq (level : Bool) (s : State) : openFold level s =
    if (s.line.state = .run ∨ s.line.state = .drain) ∧ s.gumFold.foldTarget ≠ .absent ∧ s.gumFold.foldSettled = false
        ∧ s.gumFold.foldOpen = false ∧ s.gumFold.foldBarred = false then foldOpened level s else s := by
  have opened : (if level then foldReport { s with gumFold := { s.gumFold with foldOpen := true, foldSeen := false } }
      else { s with gumFold := { s.gumFold with foldOpen := true, foldSeen := false } }) = foldOpened level s := by
    cases level with
    | false => rfl
    | true =>
      simp only [foldReport, foldOpened]
      cases s.gumFold.foldTarget <;> rfl
  simp only [openFold, running_iff, opened]

/-! ## Records looked up by their places (R32) -/

section
variable {s t : State}

theorem map_place_eq {x y : Option Record} (h : x.map Record.place = y.map Record.place) :
    (x = none ∧ y = none) ∨ ∃ r r', x = some r ∧ y = some r'
      ∧ r.seq = r'.seq ∧ r.bank = r'.bank ∧ r.position = r'.position := by
  cases x <;> cases y <;> simp_all [Record.place]

theorem find_place (records : List Record) (p : Seq × BankId × Nat → Bool) :
    (records.find? fun r => p r.place).map Record.place = (records.map Record.place).find? p := by
  rw [List.find?_map]; rfl

/-- The record bearing a seq keeps its place. -/
theorem recordBySeq_place (h : t.chain.places = s.chain.places) (q : Seq) :
    (recordBySeq t q).map Record.place = (recordBySeq s q).map Record.place := by
  have records : t.chain.records.map Record.place = s.chain.records.map Record.place := congrArg Prod.fst h
  refine (find_place t.chain.records fun x => x.1 == q).trans ?_
  rw [records]
  exact (find_place s.chain.records fun x => x.1 == q).symm

/-- The record at a position keeps its place. -/
theorem recordAt_place (h : t.chain.places = s.chain.places) (geometry : t.geometry = s.geometry) (p : Nat) :
    (recordAt t p).map Record.place = (recordAt s p).map Record.place := by
  have records : t.chain.records.map Record.place = s.chain.records.map Record.place := congrArg Prod.fst h
  unfold recordAt
  rw [geometry]
  split
  · refine (find_place t.chain.records fun x => x.2.2 == p).trans ?_
    rw [records]
    exact (find_place s.chain.records fun x => x.2.2 == p).symm
  · rfl

/-- Whether the record of a subject asks for its window to open at phase 0 (R62, R84). -/
def opensAtZero (s : State) (subject : Option Seq) (opening : BankFields → Nat) : Bool :=
  (subject.bind (recordBySeq s)).any fun r => opening (fieldsOf s r.bank) == 0

theorem opensAtZero_of_places (h : t.chain.places = s.chain.places) (banks : t.banks = s.banks)
    (subject : Option Seq) (opening : BankFields → Nat) : opensAtZero t subject opening = opensAtZero s subject opening := by
  cases subject with
  | none => rfl
  | some q =>
    rcases map_place_eq (recordBySeq_place h q) with ⟨ht, hs⟩ | ⟨r, r', ht, hs, -, bank, -⟩
    · simp [opensAtZero, ht, hs]
    · simp [opensAtZero, ht, hs, bank, fieldsOf_of_banks banks]

theorem subjectAt_of_places (h : t.chain.places = s.chain.places) (geometry : t.geometry = s.geometry)
    (banks : t.banks = s.banks) (station : Nat) : subjectAt t station = subjectAt s station := by
  unfold subjectAt
  rcases map_place_eq (recordAt_place h geometry station) with ⟨ht, hs⟩ | ⟨r, r', ht, hs, seq, bank, -⟩
  · simp only [ht, hs]
  · simp only [ht, hs, bank, seq, fieldsOf_of_banks banks]

theorem chooseFoldTarget_of_places (h : t.chain.places = s.chain.places) (geometry : t.geometry = s.geometry)
    (banks : t.banks = s.banks) : chooseFoldTarget t = chooseFoldTarget s := by
  unfold chooseFoldTarget
  rw [activeBank_congr banks, geometry]
  rcases map_place_eq (recordAt_place h geometry s.geometry.posFold) with ⟨ht, hs⟩ | ⟨r, r', ht, hs, seq, bank, -⟩
  · simp only [ht, hs, fieldsOf_of_banks banks]
  · simp only [ht, hs, bank, seq, fieldsOf_of_banks banks]

theorem keepsEntry_of_places (h : t.chain.places = s.chain.places) (geometry : t.geometry = s.geometry) :
    keepsEntry t = keepsEntry s := by
  funext e
  unfold keepsEntry
  rcases map_place_eq (recordBySeq_place h e.seq) with ⟨ht, hs⟩ | ⟨r, r', ht, hs, -, -, position⟩
  · simp only [ht, hs]
  · simp only [ht, hs, position, geometry]

end

/-! ## The Registration Unit at a boundary (R62) -/

/-- R67: settling the mark subject writes to its record, and shuts its window. -/
theorem settleMark_written (s : State) : settleMark s = { s with
    chain := (settleMark s).chain
    registration := { s.registration with
      markWindow := (settleMark s).registration.markWindow, markSettled := (settleMark s).registration.markSettled } } := by
  have noted : ∀ q, noteMissingMark q s = { s with chain := (noteMissingMark q s).chain } := fun q => by
    unfold noteMissingMark; (repeat' split) <;> rfl
  unfold settleMark
  (repeat' split) <;> first | rfl | (dsimp only; rw [noted])

/-- R74: settling the patch subject writes to its record, and shuts its window. -/
theorem settlePatch_written (s : State) : settlePatch s = { s with
    chain := (settlePatch s).chain
    registration := { s.registration with
      patchOpen := (settlePatch s).registration.patchOpen
      patchSettled := (settlePatch s).registration.patchSettled } } := by
  have noted : ∀ q, noteMissingPatch q s = { s with chain := (noteMissingPatch q s).chain } := fun q => by
    unfold noteMissingPatch; (repeat' split) <;> rfl
  unfold settlePatch
  (repeat' split) <;> first | rfl | (dsimp only; rw [noted])

/-- The Registration Unit with the subjects of the pitch that opens, every window SHUT (R62 steps 2 and 3). -/
def subjectsTaken (s : State) : Registration := { s.registration with
  markWindow := .shut, patchOpen := false, patchSeen := false
  markSubject := subjectAt s s.geometry.posMark, markSettled := false
  patchSubject := subjectAt s s.geometry.posPatch, patchSettled := false }

/-- R62 steps 1 to 3. -/
theorem takeSubjects_settled (s : State) : takeSubjects (settlePatch (settleMark s)) = { s with
    chain := (settlePatch (settleMark s)).chain, registration := subjectsTaken s } := by
  have subject : ∀ p, subjectAt (settlePatch (settleMark s)) p = subjectAt s p :=
    subjectAt_of_places (by simp) (by simp) (by simp)
  have written : settlePatch (settleMark s) = { s with
      chain := (settlePatch (settleMark s)).chain
      registration := { s.registration with
        markWindow := (settleMark s).registration.markWindow
        markSettled := (settleMark s).registration.markSettled
        patchOpen := (settlePatch (settleMark s)).registration.patchOpen
        patchSettled := (settlePatch (settleMark s)).registration.patchSettled } } := by
    refine (settlePatch_written (settleMark s)).trans ?_
    rw [settleMark_written s]
  simp only [takeSubjects, subject, settlePatch_geometry, settleMark_geometry]
  rw [written]
  rfl

/-- Whether a window opens at phase 0 is told by the fields of its subject's bank. -/
theorem opensAtZero_eq (s : State) (subject : Option Seq) (opening : BankFields → Nat) :
    opensAtZero s subject opening = (subjectFields s subject).any fun f => opening f == 0 := by
  rw [opensAtZero, subjectFields, Option.any_map]

theorem subject_of_fields {s : State} {subject : Option Seq} {f : BankFields} (h : subjectFields s subject = some f) :
    subject ≠ none := by
  rintro rfl
  simp [subjectFields] at h

section
variable {s : State}

/-- R62 step 4 for a mark window that is SHUT and a subject not settled. -/
theorem openMarkAtZero_eq (unsettled : s.registration.markSettled = false)
    (shut : s.registration.markWindow = .shut) : openMarkAtZero s = { s with registration := { s.registration with
      markWindow := if s.line.state.running = true ∧ opensAtZero s s.registration.markSubject BankFields.markOpen
        then .opened else .shut } } := by
  have same : s = { s with registration := { s.registration with markWindow := .shut } } := by rw [← shut]
  unfold openMarkAtZero
  rw [opensAtZero_eq]
  cases fields : subjectFields s s.registration.markSubject with
  | none => simpa using same
  | some f =>
    by_cases opens : s.line.state.running = true ∧ f.markOpen = 0
    · simp [openMark_eq, (running_iff _).mp opens.1, opens, subject_of_fields fields, unsettled, shut]
    · have kept : (if f.markOpen = 0 then openMark s else s) = s := by
        split
        · rename_i zero; exact openMark_idle (by simpa [zero] using opens)
        · rfl
      simpa [kept, opens] using same

/-- R62 step 4 for a patch window that is SHUT and a subject not settled, nothing seen yet. -/
theorem openPatchAtZero_eq (unsettled : s.registration.patchSettled = false)
    (shut : s.registration.patchOpen = false) (unseen : s.registration.patchSeen = false) :
    openPatchAtZero s = { s with registration := { s.registration with
      patchOpen := decide (s.line.state.running = true
        ∧ opensAtZero s s.registration.patchSubject BankFields.patchCheckOpen) } } := by
  have same : s = { s with registration := { s.registration with patchOpen := false } } := by rw [← shut]
  unfold openPatchAtZero
  rw [opensAtZero_eq]
  cases fields : subjectFields s s.registration.patchSubject with
  | none => simpa using same
  | some f =>
    by_cases opens : s.line.state.running = true ∧ f.patchCheckOpen = 0
    · simp [openPatch_eq, (running_iff _).mp opens.1, opens, subject_of_fields fields, unsettled, shut, ← unseen]
    · have kept : (if f.patchCheckOpen = 0 then openPatch s else s) = s := by
        split
        · rename_i zero; exact openPatch_idle (by simpa [zero] using opens)
        · rfl
      simpa [kept, opens] using same

end

/-- R62: the Registration Unit's handling of a boundary, written out. -/
theorem registrationBoundary_eq (s : State) : registrationBoundary s = { s with
    chain := (settlePatch (settleMark s)).chain
    registration := { subjectsTaken s with
      markWindow := if s.line.state.running = true
          ∧ opensAtZero s (subjectAt s s.geometry.posMark) BankFields.markOpen then .opened else .shut
      patchOpen := decide (s.line.state.running = true
        ∧ opensAtZero s (subjectAt s s.geometry.posPatch) BankFields.patchCheckOpen) } } := by
  have places : (settlePatch (settleMark s)).chain.places = s.chain.places := by simp
  have opens : ∀ r : Registration, opensAtZero
      { s with chain := (settlePatch (settleMark s)).chain, registration := r } = opensAtZero s := fun r => by
    funext subject opening
    exact opensAtZero_of_places (t := { s with chain := (settlePatch (settleMark s)).chain, registration := r }) places
      rfl subject opening
  rw [registrationBoundary, takeSubjects_settled, openMarkAtZero_eq rfl rfl, openPatchAtZero_eq rfl rfl rfl, opens, opens]
  rfl

/-- The subject a station gives, in the words of R62. -/
theorem subjectAt_eq (s : State) (station : Nat) : subjectAt s station =
    (recordAt s station).bind fun r => if (fieldsOf s r.bank).windowEnable = 1 then some r.seq else none := by
  unfold subjectAt
  cases recordAt s station with
  | none => rfl
  | some r => simp [yes]

/-! ## The Gum and Fold Unit at a boundary (R82, R84) -/

/-- R87: settling the fold target writes to its record, and shuts its window. -/
theorem settleFold_written (s : State) : settleFold s = { s with
    chain := (settleFold s).chain
    gumFold := { s.gumFold with
      foldOpen := (settleFold s).gumFold.foldOpen, foldSettled := (settleFold s).gumFold.foldSettled } } := by
  have noted : ∀ q, noteMissingFold q s = { s with chain := (noteMissingFold q s).chain } := fun q => by
    unfold noteMissingFold; split <;> rfl
  unfold settleFold
  (repeat' split) <;> first | rfl | (dsimp only; rw [noted])

/-- The Gum and Fold Unit with the fold target of the pitch that opens, its window SHUT, and the gum progress list
cleaned (R82, R84 steps 2 to 4). -/
def foldTaken (s : State) : GumFold := { s.gumFold with
  progress := s.gumFold.progress.filter (keepsEntry s)
  foldOpen := false, foldSeen := false, foldTarget := chooseFoldTarget s, foldSettled := false, foldBarred := false }

/-- R84 steps 1 to 4. -/
theorem takeFoldTarget_settled (s : State) : cleanProgress (takeFoldTarget (settleFold s)) = { s with
    chain := (settleFold s).chain, gumFold := foldTaken s } := by
  have target : chooseFoldTarget (settleFold s) = chooseFoldTarget s :=
    chooseFoldTarget_of_places (by simp) (by simp) (by simp)
  have keeps : keepsEntry (takeFoldTarget (settleFold s)) = keepsEntry s := keepsEntry_of_places (by simp) (by simp)
  rw [cleanProgress, keeps]
  simp only [takeFoldTarget, target]
  rw [settleFold_written s]
  rfl

/-- Whether the bank of a fold target asks for its window to open at phase 0 (R84). -/
def FoldTarget.opensAtZero (s : State) : FoldTarget → Bool
  | .absent => false
  | .record q => Machine.opensAtZero s (some q) BankFields.foldOpen
  | .empty b => (fieldsOf s b).foldOpen == 0

theorem FoldTarget.opensAtZero_of_places {s t : State} (h : t.chain.places = s.chain.places) (banks : t.banks = s.banks)
    (target : FoldTarget) : target.opensAtZero t = target.opensAtZero s := by
  cases target with
  | absent => rfl
  | record q => exact Machine.opensAtZero_of_places h banks (some q) BankFields.foldOpen
  | empty b => simp only [FoldTarget.opensAtZero, fieldsOf_of_banks banks]

theorem foldFields_any (s : State) :
    ((foldFields s).any fun f => f.foldOpen == 0) = s.gumFold.foldTarget.opensAtZero s := by
  unfold foldFields foldBank
  cases s.gumFold.foldTarget with
  | absent => rfl
  | record q =>
    simp only [FoldTarget.opensAtZero, Machine.opensAtZero, Option.map_map, Option.any_map, Option.bind_some]
    rfl
  | empty b => rfl

theorem foldTarget_of_fields {s : State} {f : BankFields} (h : foldFields s = some f) :
    s.gumFold.foldTarget ≠ .absent := by
  intro absent
  simp [foldFields, foldBank, absent] at h

/-- R84 step 5 for a window that is SHUT and not barred and a target not settled: it is opened, or left. -/
theorem openFoldAtZero_eq (level : Bool) {s : State} (unsettled : s.gumFold.foldSettled = false)
    (shut : s.gumFold.foldOpen = false) (free : s.gumFold.foldBarred = false) : openFoldAtZero level s =
      if s.line.state.running && s.gumFold.foldTarget.opensAtZero s then foldOpened level s else s := by
  unfold openFoldAtZero
  rw [← foldFields_any]
  cases fields : foldFields s with
  | none => simp
  | some f =>
    have present := foldTarget_of_fields fields
    by_cases zero : f.foldOpen = 0
    · simp [openFold_eq, ← running_iff, zero, present, unsettled, shut, free]
    · simp [zero]

/-- Whether the fold window of the pitch that opens is open at once (R84 step 5). -/
def foldOpensAtOnce (s : State) : Bool := s.line.state.running && (chooseFoldTarget s).opensAtZero s

/-- Whether a stray blank is reported as that window opens (R88). -/
def straysAtOnce (level : Bool) (s : State) : Bool := foldOpensAtOnce s && (chooseFoldTarget s).strays level

/-- R84: the Gum and Fold Unit's handling of a boundary, written out. -/
theorem gumFoldBoundary_eq (level : Bool) (s : State) : gumFoldBoundary level s = { s with
    chain := (settleFold s).chain
    gumFold := { foldTaken s with
      foldOpen := foldOpensAtOnce s, foldSeen := foldOpensAtOnce s && level
      strayBlanks := if straysAtOnce level s then s.gumFold.strayBlanks + 1 else s.gumFold.strayBlanks }
    ports := if straysAtOnce level s then portsPosted [.stray] s.ports else s.ports } := by
  have places : (settleFold s).chain.places = s.chain.places := by simp
  have opens : (foldTaken s).foldTarget.opensAtZero { s with chain := (settleFold s).chain, gumFold := foldTaken s }
      = (chooseFoldTarget s).opensAtZero s :=
    FoldTarget.opensAtZero_of_places (t := { s with chain := (settleFold s).chain, gumFold := foldTaken s }) places rfl _
  rw [gumFoldBoundary, takeFoldTarget_settled, openFoldAtZero_eq level rfl rfl rfl, opens]
  cases once : foldOpensAtOnce s with
  | false =>
    refine (if_neg (Bool.eq_false_iff.mp once)).trans ?_
    simp only [straysAtOnce, once, Bool.false_and]
    rfl
  | true =>
    refine (if_pos once).trans ?_
    simp only [straysAtOnce, once, Bool.true_and]
    rfl

/-- The fold target of the pitch that opens, in the words of R84. -/
theorem chooseFoldTarget_eq (s : State) : chooseFoldTarget s = (match recordAt s s.geometry.posFold with
    | some r => if (fieldsOf s r.bank).foldCheckEnable = 1 then .record r.seq else .absent
    | none => (match activeBank s with
      | none => .absent
      | some b => if (fieldsOf s b).foldCheckEnable = 1 then .empty b else .absent)) := by
  unfold chooseFoldTarget
  cases recordAt s s.geometry.posFold with
  | some r => simp only [yes_iff]
  | none => cases activeBank s <;> simp only [yes_iff]

/-- R82: an entry stays while its record stands in the chain below pos_GUM + 2. -/
theorem keepsEntry_eq (s : State) (e : GumEntry) : keepsEntry s e =
    (recordBySeq s e.seq).any fun r => decide (r.position < s.geometry.posGum + 2) := by
  unfold keepsEntry
  cases recordBySeq s e.seq <;> rfl

theorem foldOpensAtOnce_eq (s : State) : foldOpensAtOnce s = (s.line.state.running && (match chooseFoldTarget s with
    | .absent => false
    | .record q => opensAtZero s (some q) BankFields.foldOpen
    | .empty b => (fieldsOf s b).foldOpen == 0)) := by
  unfold foldOpensAtOnce
  cases chooseFoldTarget s <;> rfl

theorem straysAtOnce_eq (level : Bool) (s : State) : (foldOpensAtOnce s && level && (match chooseFoldTarget s with
    | .empty _ => true
    | _ => false)) = straysAtOnce level s := by
  rw [straysAtOnce, Bool.and_assoc]
  cases chooseFoldTarget s <;> rfl

/-- Settles O57: the openings, then the two units at a boundary by what they write. -/
theorem windowsAndSubjects : Obligations.WindowsAndSubjects := by
  refine ⟨fun level s => ⟨openMark_eq s, openPatch_eq s, ?_⟩, fun level s => ?_, fun level s => ?_⟩
  · rw [openFold_eq, foldOpened]
    cases s.gumFold.foldTarget <;> rfl
  · rw [registrationBoundary_eq, gumFoldBoundary_eq]
    exact ⟨subjectAt_eq s _, subjectAt_eq s _, rfl, rfl, rfl, rfl, rfl, chooseFoldTarget_eq s, rfl, rfl,
      foldOpensAtOnce_eq s, rfl, congrArg (s.gumFold.progress.filter ·) (funext (keepsEntry_eq s))⟩
  · have stray := straysAtOnce_eq level s
    rw [registrationBoundary_eq, gumFoldBoundary_eq]
    exact ⟨rfl, rfl, by rw [← stray]; rfl, by rw [← stray]; rfl⟩

end Sys2Proof.Machine

/-! # The supply levels and their feed-inhibit causes (R75, R83, R145) -/

namespace Sys2Proof.Machine

/-! ## A cause made present or absent in the set (R145) -/

/-- R145: a cause made present or absent, written out: FEED_INHIBITED is posted as the set leaves empty in RUN. -/
theorem setFeedCause_eq (c : FeedCause) (present : Bool) (s : State) : setFeedCause c present s = { s with
    line := { s.line with feedInhibit := maskSet s.line.feedInhibit c present }
    ports := if present = true ∧ s.line.feedInhibit = 0 ∧ s.line.state = .run then portsPosted [.feedInhibited] s.ports
      else s.ports } := by
  cases present with
  | false => simp [setFeedCause, removeFeedCause, maskSet]
  | true =>
    simp only [setFeedCause, addFeedCause, maskSet, if_true, true_and]
    split <;> rfl

/-- GUM_LOW is the bit of value 2 in the table of R145. -/
theorem maskSet_gumLow (m : BitVec 6) (present : Bool) :
    maskSet m .gumLow present = if present then m ||| 2 else m &&& ~~~2 := rfl

/-- PATCH_SUPPLY is the bit of value 4 in the table of R145. -/
theorem maskSet_patchSupply (m : BitVec 6) (present : Bool) :
    maskSet m .patchSupply present = if present then m ||| 4 else m &&& ~~~4 := rfl

section
variable (level : Bool) (s : State)

/-! ## The conditions of the two causes at a level (R75, R83) -/

/-- R83: at a level of GUM_OK, gum is low if the level is inactive and the active bank gums the seam or the flap. -/
theorem gumLow_at_level : gumLow { s with sensors.gumOk := level } =
    (!level && match activeBank s with
      | none => false
      | some b => (fieldsOf s b).gumSeamEnable == 1 || (fieldsOf s b).gumFlapEnable == 1) := by
  have active : activeBank { s with sensors.gumOk := level } = activeBank s := rfl
  rw [gumLow, active]
  cases activeBank s with
  | none => exact (Bool.and_false _).symm
  | some b => rfl

/-- R75: at a level of PATCH_WEB_OK, the web is low if the level is inactive and the active bank takes a window. -/
theorem patchSupplyLow_at_level : patchSupplyLow { s with sensors.patchWebOk := level } =
    (!level && match activeBank s with
      | none => false
      | some b => (fieldsOf s b).windowEnable == 1) := by
  have active : activeBank { s with sensors.patchWebOk := level } = activeBank s := rfl
  rw [patchSupplyLow, active]
  cases activeBank s with
  | none => exact (Bool.and_false _).symm
  | some b => rfl

/-! ## The commands, by their condition at the new level -/

variable {level s} {low : Bool}

/-- R83: GUM_OK_CHANGE writes the level, and GUM_LOW is present exactly while its condition holds at it. -/
theorem exec_gumOkChange (condition : gumLow { s with sensors.gumOk := level } = low) :
    exec (.gumOkChange level) s = .next (conclude { s with
      sensors := { s.sensors with gumOk := level }
      line := { s.line with feedInhibit := if low then s.line.feedInhibit ||| 2 else s.line.feedInhibit &&& ~~~2 }
      ports := if low = true ∧ s.line.feedInhibit = 0 ∧ s.line.state = .run then portsPosted [.feedInhibited] s.ports
        else s.ports }) := by
  change Host.Outcome.next (conclude (setFeedCause .gumLow (gumLow { s with sensors.gumOk := level }) _)) = _
  rw [condition, setFeedCause_eq, maskSet_gumLow]

/-- R75: PATCH_WEB_OK_CHANGE writes the level, and PATCH_SUPPLY is present exactly while its condition holds at it. -/
theorem exec_patchWebOkChange (condition : patchSupplyLow { s with sensors.patchWebOk := level } = low) :
    exec (.patchWebOkChange level) s = .next (conclude { s with
      sensors := { s.sensors with patchWebOk := level }
      line := { s.line with feedInhibit := if low then s.line.feedInhibit ||| 4 else s.line.feedInhibit &&& ~~~4 }
      ports := if low = true ∧ s.line.feedInhibit = 0 ∧ s.line.state = .run then portsPosted [.feedInhibited] s.ports
        else s.ports }) := by
  change Host.Outcome.next (conclude
    (setFeedCause .patchSupply (patchSupplyLow { s with sensors.patchWebOk := level }) _)) = _
  rw [condition, setFeedCause_eq, maskSet_patchSupply]

end

/-- Settles O26: each command by its condition at the new level, which the active bank decides. -/
theorem supplyLevelsSetTheirCauses : Obligations.SupplyLevelsSetTheirCauses := fun level s =>
  ⟨exec_gumOkChange (gumLow_at_level level s), exec_patchWebOkChange (patchSupplyLow_at_level level s)⟩

end Sys2Proof.Machine

/-! # The inspection link and the gate decision (R24, R93, R95 to R97, R99 to R101) -/

namespace Sys2Proof.Machine

/-! ## A write to the one record that bears a seq (R20, R23) -/

theorem uniqueSeqs_iff (s : State) : UniqueSeqs s ↔ s.chain.records.Pairwise (fun x y => x.seq ≠ y.seq) :=
  List.pairwise_map

/-- Two writes that agree on the one record that bears the seq are the same write. -/
theorem updateRecord_congr {s : State} {r : Record} {f g : Record → Record} (unique : UniqueSeqs s)
    (stands : r ∈ s.chain.records) (agree : f r = g r) : updateRecord r.seq f s = updateRecord r.seq g s := by
  rw [updateRecord_eq, updateRecord_eq]
  have same : s.chain.records.map (fun x => if x.seq = r.seq then f x else x)
      = s.chain.records.map (fun x => if x.seq = r.seq then g x else x) := by
    refine List.map_congr_left fun x mem => ?_
    split
    · next seq => rw [unique.eq mem stands seq, agree]
    · rfl
  rw [same]

/-! ## READ TRIGGERS (R93, R169) -/

theorem acceptedOn_inspection_iff {c : Command} (h : c = .readTriggers ∨ c = .verdict) (l : Link) :
    c.acceptedOn l = true ↔ l = .inspection := by
  rcases h with rfl | rfl <;> exact beq_iff_eq

theorem triggerBytes_eq (t : Trigger) : triggerBytes t =
    [t.seq.setWidth 8, (t.seq >>> 8).setWidth 8, (t.seq >>> 16).setWidth 8, BitVec.ofNat 8 t.bank.code] := by
  rw [triggerBytes, leBytes_three_toNat, leBytes_one]
  rfl

/-- R169: the number taken, the entries, and the number left, when the oldest eight are taken from a log. -/
theorem triggersBytes_eq (log : List Trigger) : triggersBytes (log.take 8) (log.drop 8) =
    [BitVec.ofNat 8 (min 8 log.length)]
      ++ ((log.take 8).flatMap fun t : Trigger =>
        [t.seq.setWidth 8, (t.seq >>> 8).setWidth 8, (t.seq >>> 16).setWidth 8, BitVec.ofNat 8 t.bank.code])
      ++ [BitVec.ofNat 8 (log.length - 8)] := by
  rw [triggersBytes, leBytes_one, leBytes_one, List.length_take, List.length_drop, funext triggerBytes_eq]

theorem exec_readTriggers_empty {s : State} (h : s.verdicts.triggerLog = []) :
    exec (.readTriggers []) s = .next (s.answered .inspection .readTriggers .empty []) := by
  simp only [exec, execReadTriggers, noArguments, if_true, if_pos h, conclude_answer]

theorem exec_readTriggers {s : State} (h : s.verdicts.triggerLog ≠ []) :
    exec (.readTriggers []) s = .next (State.answered
      { s with verdicts := { s.verdicts with triggerLog := s.verdicts.triggerLog.drop 8 } }
      .inspection .readTriggers .ok (triggersBytes (s.verdicts.triggerLog.take 8) (s.verdicts.triggerLog.drop 8))) := by
  simp only [exec, execReadTriggers, noArguments, if_true, if_neg h, conclude_answer]

/-! ## The arguments of VERDICT (R95, R166) -/

/-- The result a byte of 0 or 1 carries (R95). -/
def resultOf (result : Byte) : VerdictResult := if result = 0 then .good else .bad

theorem verdictArgument_eq (q : Seq) {result cause : Byte} (hr : result.toNat ≤ 1) (hc : cause.toNat ≤ 15) :
    verdictArgument [q.setWidth 8, (q >>> 8).setWidth 8, (q >>> 16).setWidth 8, result, cause]
      = some (q, resultOf result, cause.toNat) := by
  have seq : tripleAt [q.setWidth 8, (q >>> 8).setWidth 8, (q >>> 16).setWidth 8, result, cause] 0 = q.toNat :=
    tripleAt_seq q 0
  have fits : [q.setWidth 8, (q >>> 8).setWidth 8, (q >>> 16).setWidth 8, result, cause].length = 5
      ∧ byteAt [q.setWidth 8, (q >>> 8).setWidth 8, (q >>> 16).setWidth 8, result, cause] 4 ≤ 15 := ⟨rfl, hc⟩
  rw [verdictArgument, if_pos fits, seq, BitVec.ofNat_toNat, BitVec.setWidth_eq]
  have code : result = 0#8 ∨ result = 1#8 := by bv_omega
  rcases code with rfl | rfl <;> rfl

/-- VERDICT with valid arguments: the answer and the state are those of the checks (R96). -/
theorem exec_verdict (q : Seq) {result cause : Byte} (hr : result.toNat ≤ 1) (hc : cause.toNat ≤ 15) (s : State) :
    exec (.verdict [q.setWidth 8, (q >>> 8).setWidth 8, (q >>> 16).setWidth 8, result, cause]) s
      = .next ((takeVerdict q (resultOf result) cause.toNat s).2.answered .inspection .verdict
          (takeVerdict q (resultOf result) cause.toNat s).1 []) := by
  simp only [exec, execVerdict, verdictArgument_eq q hr hc, conclude_answer]

/-! ## The checks of VERDICT in their order (R96), and what it writes (R97) -/

section
variable {q : Seq} {result : VerdictResult} {cause : Nat} {s : State} {r : Record}

theorem takeVerdict_unknown (h : recordBySeq s q = none) :
    takeVerdict q result cause s = (.unknownSeq, refuseVerdict s) := by
  rw [takeVerdict, h]

theorem takeVerdict_notExpected (h : recordBySeq s q = some r) (hv : r.verdict = .notRequired ∨ r.verdict = .uninspected) :
    takeVerdict q result cause s = (.notExpected, refuseVerdict s) := by
  simp only [takeVerdict, h, if_pos hv]

theorem takeVerdict_tooLate (h : recordBySeq s q = some r)
    (hv : r.verdict = .pending ∨ r.verdict = .good ∨ r.verdict = .bad)
    (late : r.fate ≠ .undecided ∨ r.position = s.geometry.posGate) :
    takeVerdict q result cause s = (.tooLate, { s with verdicts := { s.verdicts with
      verdictsRefused := s.verdicts.verdictsRefused + 1, lateVerdicts := s.verdicts.lateVerdicts + 1 } }) := by
  have expected : ¬(r.verdict = .notRequired ∨ r.verdict = .uninspected) := by
    rcases hv with e | e | e <;> simp [e]
  simp only [takeVerdict, h, if_neg expected, if_pos late, refuseVerdict]

theorem takeVerdict_duplicate (h : recordBySeq s q = some r) (hv : r.verdict = .good ∨ r.verdict = .bad)
    (undecided : r.fate = .undecided) (below : r.position ≠ s.geometry.posGate) :
    takeVerdict q result cause s = (.duplicate, refuseVerdict s) := by
  have expected : ¬(r.verdict = .notRequired ∨ r.verdict = .uninspected) := by
    rcases hv with e | e <;> simp [e]
  have timely : ¬(r.fate ≠ .undecided ∨ r.position = s.geometry.posGate) := by simp [undecided, below]
  simp only [takeVerdict, h, if_neg expected, if_neg timely, if_pos hv]

theorem takeVerdict_accepted (h : recordBySeq s q = some r) (hv : r.verdict = .pending)
    (undecided : r.fate = .undecided) (below : r.position ≠ s.geometry.posGate) :
    takeVerdict q result cause s = (.ok, updateRecord q (applyVerdict result cause) s) := by
  have timely : ¬(r.fate ≠ .undecided ∨ r.position = s.geometry.posGate) := by simp [undecided, below]
  simp [takeVerdict, h, hv, if_neg timely]

end

/-- What an accepted verdict writes to a record whose reasons are not closed (R97). -/
def judgedBy (result : Byte) (cause : Nat) (r : Record) : Record :=
  if result = 0 then { r with verdict := .good }
  else { r with
    verdict := .bad, verdictCause := some cause, reasons := maskAdd r.reasons Reason.verdictBad.index }

theorem applyVerdict_resultOf {r : Record} (undecided : r.fate = .undecided) (result : Byte) (cause : Nat) :
    applyVerdict (resultOf result) cause r = judgedBy result cause r := by
  unfold resultOf judgedBy
  split
  · rfl
  · simp only [applyVerdict, Record.addReason_eq, if_pos undecided]

/-- Settles O48: READ TRIGGERS by whether the log is empty, VERDICT by the first check that fails. -/
theorem inspectionLinkRequests : Obligations.InspectionLinkRequests := by
  refine ⟨fun l => ⟨acceptedOn_inspection_iff (.inl rfl) l, acceptedOn_inspection_iff (.inr rfl) l⟩,
    fun s => ⟨exec_readTriggers_empty, fun log => ?_⟩, ?_⟩
  · rw [exec_readTriggers log, triggersBytes_eq]
  · intro q result cause s hr hc
    simp only [exec_verdict q hr hc]
    refine ⟨fun unknown => ?_, fun r found => ⟨fun unexpected => ?_, fun expected => ⟨fun late => ?_,
      fun undecided below => ⟨fun judged => ?_, fun pending distinct => ?_⟩⟩⟩⟩
    · rw [takeVerdict_unknown unknown]; rfl
    · rw [takeVerdict_notExpected found unexpected]; rfl
    · rw [takeVerdict_tooLate found expected late]
    · rw [takeVerdict_duplicate found (expected.resolve_left judged) undecided below]; rfl
    · obtain ⟨stands, rfl⟩ := mem_bySeq found
      rw [takeVerdict_accepted found pending undecided below,
        updateRecord_congr ((uniqueSeqs_iff s).mpr distinct) stands (applyVerdict_resultOf undecided result cause.toNat),
        updateRecord_eq]
      rfl

/-! ## The gate decision of a record (R24, R100) -/

theorem jogging_iff (x : LineState) : x.jogging = true ↔ x = .ready ∨ x = .halt := by
  cases x <;> simp [LineState.jogging]

section
variable {state : LineState} {pass : Bool} {r : Record}

/-- R100: a blank moved by jogging is rejected, with the reason JOGGED while its reasons are not closed. -/
theorem decideRecord_jogging (h : state.jogging = true) (undecided : r.fate = .undecided) :
    decideRecord state pass r = { r with fate := .reject, reasons := maskAdd r.reasons Reason.jogged.index } := by
  simp only [decideRecord, if_pos h, Record.addReason_eq, if_pos undecided]

theorem decideRecord_reasons (h : ¬state.jogging = true) (reasons : r.reasons ≠ 0) :
    decideRecord state pass r = { r with fate := .reject } := by
  rw [decideRecord, if_neg h, if_pos reasons]

theorem decideRecord_passes (h : ¬state.jogging = true) (reasons : r.reasons = 0)
    (verdict : r.verdict = .good ∨ r.verdict = .notRequired) :
    decideRecord state pass r = { r with fate := .pass } := by
  rw [decideRecord, if_neg h, if_neg (not_not.mpr reasons)]
  rcases verdict with e | e <;> rw [e]

/-- R100: without a verdict the bank's no_verdict_fate decides. -/
theorem decideRecord_unseen (h : ¬state.jogging = true) (reasons : r.reasons = 0)
    (verdict : r.verdict = .pending ∨ r.verdict = .uninspected) (undecided : r.fate = .undecided) :
    decideRecord state pass r = if pass then { r with fate := .passUnverified }
      else { r with fate := .reject, reasons := maskAdd 0 Reason.verdictMissing.index } := by
  rw [decideRecord, if_neg h, if_neg (not_not.mpr reasons), Record.addReason_eq, if_pos undecided, reasons]
  rcases verdict with e | e <;> rw [e]

end

/-! ## The gate decision at a crossing (R53, R99) -/

/-- The record as its gate decision leaves it, in the line state and under its bank (R100). -/
def decidedAtGate (r : Record) (s : State) : Record :=
  decideRecord s.line.state (yes (fieldsOf s r.bank).noVerdictFate) r

/-- The state with the decision of a record written and an unverified pass counted, before it is handed on (R99, R100). -/
def gateDecided (r : Record) (s : State) : State := { s with
  chain := { s.chain with records := s.chain.records.map fun x => if x.seq = r.seq then decidedAtGate r s else x }
  verdicts := { s.verdicts with
    unverifiedPasses := if (decidedAtGate r s).fate = .passUnverified then s.verdicts.unverifiedPasses + 1
      else s.verdicts.unverifiedPasses } }

theorem countUnverified_eq (fate : Fate) (s : State) : countUnverified fate s = { s with
    verdicts := { s.verdicts with
      unverifiedPasses := if fate = .passUnverified then s.verdicts.unverifiedPasses + 1
        else s.verdicts.unverifiedPasses } } := by
  unfold countUnverified
  split <;> rfl

section
variable {p : Nat} {r : Record} {s : State}

theorem gateDecision_eq (unique : UniqueSeqs s) (stands : r ∈ s.chain.records) : gateDecision r s =
    if s.line.state.running then settleWaiting r.seq (decidedAtGate r s).fate (gateDecided r s)
    else gateDecided r s := by
  have written : countUnverified (decidedAtGate r s).fate (updateRecord r.seq
      (decideRecord s.line.state (yes (fieldsOf s r.bank).noVerdictFate)) s) = gateDecided r s := by
    rw [updateRecord_congr unique stands (g := fun _ => decidedAtGate r s) rfl, updateRecord_eq, countUnverified_eq]
    rfl
  rw [← written]
  rfl

theorem gateSubject_eq (h : s.line.state ≠ .config) (before : recordBefore s s.geometry.posGate = some r)
    (undecided : r.fate = .undecided) :
    gateSubject p s = if (fieldsOf s r.bank).gateDecide = p then some r else none := by
  simp only [gateSubject, if_neg h, before, undecided, true_and]

theorem gateCrossing_other_phase (h : s.line.state ≠ .config) (before : recordBefore s s.geometry.posGate = some r)
    (undecided : r.fate = .undecided) (phase : (fieldsOf s r.bank).gateDecide ≠ p) : gateCrossing p s = s := by
  rw [gateCrossing, gateSubject_eq h before undecided, if_neg phase]

theorem gateCrossing_decides (h : s.line.state ≠ .config) (before : recordBefore s s.geometry.posGate = some r)
    (undecided : r.fate = .undecided) (phase : (fieldsOf s r.bank).gateDecide = p) :
    gateCrossing p s = gateDecision r s := by
  rw [gateCrossing, gateSubject_eq h before undecided, if_pos phase]

/-- R99: no decision is due in CONFIG, without a record below the gate, or for one that is decided. -/
theorem gateCrossing_nothing_due (h : s.line.state = .config ∨ recordBefore s s.geometry.posGate = none
    ∨ ∃ r, recordBefore s s.geometry.posGate = some r ∧ r.fate ≠ .undecided) : gateCrossing p s = s := by
  have none_due : gateSubject p s = none := by
    rw [← Option.not_isSome_iff_eq_none, gateSubject_isSome]
    rintro ⟨line, r, before, undecided, -⟩
    rcases h with config | empty | ⟨x, found, decided⟩
    · exact line config
    · exact nomatch empty.symm.trans before
    · exact decided (Option.some.inj (found.symm.trans before) ▸ undecided)
  rw [gateCrossing, none_due]

/-- R53: handing a decision to a waiting firing changes neither the chain nor the Verdict Unit. -/
theorem gateDecision_written (unique : UniqueSeqs s) (stands : r ∈ s.chain.records) :
    (gateDecision r s).chain = (gateDecided r s).chain
      ∧ (gateDecision r s).verdicts = (gateDecided r s).verdicts := by
  rw [gateDecision_eq unique stands]
  split <;> simp

end

/-- Settles O58: the decision by its first case that applies, and the crossing by the record it meets below the gate. -/
theorem VerdictUnit.gateDecision : Obligations.GateDecision := by
  refine ⟨fun state pass r undecided => ?_, fun p r s line before undecided =>
    ⟨gateCrossing_other_phase line before undecided, fun phase distinct => ?_⟩, fun p s => gateCrossing_nothing_due⟩
  · simp only [← jogging_iff]
    refine ⟨fun jogs => decideRecord_jogging jogs undecided, decideRecord_reasons, decideRecord_passes,
      fun runs clear unseen fails => ?_, fun runs clear unseen passes => ?_⟩
    · rw [decideRecord_unseen runs clear unseen undecided, fails]; rfl
    · rw [decideRecord_unseen runs clear unseen undecided, passes]; rfl
  · have unique := (uniqueSeqs_iff s).mpr distinct
    have stands := (mem_before before).1
    obtain ⟨chain, verdicts⟩ := gateDecision_written unique stands
    simp only [gateCrossing_decides line before undecided phase, chain, verdicts]
    refine ⟨rfl, rfl, fun idle => ?_, fun running => ?_⟩
    · rw [gateDecision_eq unique stands, if_neg (by rcases idle with e | e <;> simp [e, LineState.running])]
      rfl
    · rw [gateDecision_eq unique stands, if_pos ((running_iff _).mpr running)]
      rfl

end Sys2Proof.Machine

/-! # A closed batch joins the queue, and the backlog follows the queue (R111, R114) -/

namespace Sys2Proof.Machine

/-! ## Which events are pending after posts (R159) -/

theorem maskHas_posted (events : List Event) (m : BitVec 13) (k : Nat) :
    maskHas (events.foldl (fun m e => maskAdd m e.index) m) k
      = (maskHas m k || events.any fun e => decide (e.index = k)) := by
  induction events generalizing m with
  | nil => simp
  | cons e events ih =>
    have here : maskHas (maskAdd m e.index) k = (maskHas m k || decide (e.index = k)) := by
      rw [maskHas_maskAdd_eq m (by cases e <;> decide), Bool.or_comm]
    rw [List.foldl_cons, ih, here, List.any_cons, Bool.or_assoc]

/-- Of the events posted only the set counts: a pending set has no order and holds each event once (R159). -/
theorem portsPosted_congr {xs ys : List Event} (h : ∀ e, e ∈ xs ↔ e ∈ ys) (ports : PerLink Port) :
    portsPosted xs ports = portsPosted ys ports := by
  refine PerLink.ext_get fun l => ?_
  have same : ∀ k, (xs.any fun e => decide (e.index = k)) = ys.any fun e => decide (e.index = k) := fun k =>
    Bool.eq_iff_iff.mpr (by simp [h])
  simp only [portsPosted, PerLink.get_ofFn, Port.mk.injEq, true_and, and_true]
  exact BitVec.eq_of_getLsbD_eq fun k _ =>
    (maskHas_posted xs _ k).trans ((congrArg _ (same k)).trans (maskHas_posted ys _ k).symm)

theorem portsPosted_comm (xs ys : List Event) (ports : PerLink Port) :
    portsPosted xs (portsPosted ys ports) = portsPosted ys (portsPosted xs ports) := by
  rw [← portsPosted_append, ← portsPosted_append]
  exact portsPosted_congr (fun e => by simp [or_comm]) ports

section
variable (starts ends : Bool) (records : List BatchRecord) (s : State)

/-! ## The backlog checked (R114) -/

/-- What is posted as the backlog becomes active, its cause joining the feed-inhibit set (R114, R145). -/
def backlogEvents : List Event :=
  (if starts then [.backlog] else [])
    ++ (if starts = true ∧ s.line.feedInhibit = 0 ∧ s.line.state = .run then [.feedInhibited] else [])

/-- The feed-inhibit set as the backlog becomes active or ends: its cause is the bit of value 1 (R145). -/
def backlogInhibit : BitVec 6 :=
  if starts then s.line.feedInhibit ||| 1 else if ends then s.line.feedInhibit &&& ~~~1 else s.line.feedInhibit

/-- The backlog become active, ended, or left as it was. -/
def backlogMoved : State := { s with
  batch.backlog := (s.batch.backlog || starts) && !ends
  line.feedInhibit := backlogInhibit starts ends s
  ports := portsPosted (backlogEvents starts s) s.ports }

theorem backlogMoved_not : backlogMoved false false s = s := by
  simp [backlogMoved, backlogInhibit, backlogEvents]

/-- The backlog become active: its cause joins the set, and FEED_INHIBITED is posted after BACKLOG (R114, R145). -/
theorem backlogBegun_eq : addFeedCause .packerBacklog (post .backlog { s with batch.backlog := true })
    = backlogMoved true false s := by
  have told : portsPosted (backlogEvents true s) s.ports
      = if true = true ∧ s.line.feedInhibit = 0 ∧ s.line.state = .run
        then portsPosted [.feedInhibited] (portsPosted [.backlog] s.ports) else portsPosted [.backlog] s.ports := by
    rw [backlogEvents, portsPosted_append]; split <;> rfl
  refine (setFeedCause_eq .packerBacklog true _).trans ?_
  rw [backlogMoved, told, Bool.or_true]
  rfl

/-- The backlog ended: its cause leaves the set, and nothing is posted (R114, R145). -/
theorem backlogEnded_eq : removeFeedCause .packerBacklog { s with batch.backlog := false }
    = backlogMoved false true s := by
  have quiet : backlogEvents false s = [] := by simp [backlogEvents]
  rw [backlogMoved, quiet, portsPosted_nil, Bool.not_true, Bool.and_false]
  rfl

theorem backlogMoved_begins : backlogMoved starts false s = { s with
    batch.backlog := s.batch.backlog || starts
    line.feedInhibit := if starts then s.line.feedInhibit ||| 1 else s.line.feedInhibit
    ports := portsPosted (backlogEvents starts s) s.ports } := by
  simp [backlogMoved, backlogInhibit]

/-- R114: a queue of twelve or more makes a backlog, one of eight or less ends it. -/
theorem checkBacklog_eq : checkBacklog s = backlogMoved (!s.batch.backlog && decide (12 ≤ s.batch.queue.length))
    (s.batch.backlog && decide (s.batch.queue.length ≤ 8)) s := by
  unfold checkBacklog
  cases backlog : s.batch.backlog with
  | false =>
    by_cases full : 12 ≤ s.batch.queue.length
    · rw [if_pos ⟨rfl, full⟩, decide_eq_true full]
      exact backlogBegun_eq s
    · simp [full, backlogMoved_not]
  | true =>
    by_cases short : s.batch.queue.length ≤ 8
    · rw [if_neg (by simp), if_pos ⟨rfl, short⟩, decide_eq_true short]
      exact backlogEnded_eq s
    · simp [short, backlogMoved_not]

/-! ## Closed batches join the queue (R111) -/

/-- Whether the backlog becomes active as batches join the queue one by one. -/
def joinStarts : Bool :=
  !s.batch.backlog && decide (0 < records.length ∧ 12 ≤ s.batch.queue.length + records.length)

/-- Whether the backlog ends as batches join the queue one by one: the shortest queue is the first one. -/
def joinEnds : Bool := s.batch.backlog && decide (0 < records.length ∧ s.batch.queue.length + 1 ≤ 8)

/-- Batches at the tail of the queue, with BATCH_CLOSED posted if there are any (R111). -/
def queueJoined : State := { s with
  batch.queue := s.batch.queue ++ records
  ports := portsPosted (if 0 < records.length then [.batchClosed] else []) s.ports }

/-- Closed batches have joined the queue one by one, and the backlog was checked after each (R111, R114). -/
def joined : State := backlogMoved (joinStarts records s) (joinEnds records s) (queueJoined records s)

theorem joined_nil : joined [] s = s := by
  simp [joined, joinStarts, joinEnds, queueJoined, backlogMoved_not]

theorem joined_one (b : BatchRecord) :
    joined [b] s = checkBacklog (post .batchClosed { s with batch.queue := s.batch.queue ++ [b] }) := by
  have starts : joinStarts [b] s = (!s.batch.backlog && decide (12 ≤ (s.batch.queue ++ [b]).length)) := by
    simp [joinStarts]
  have ends : joinEnds [b] s = (s.batch.backlog && decide ((s.batch.queue ++ [b]).length ≤ 8)) := by simp [joinEnds]
  rw [checkBacklog_eq, joined, starts, ends]
  rfl

theorem joined_ports : (joined records s).ports = portsPosted ((if 0 < records.length then [.batchClosed] else [])
    ++ backlogEvents (joinStarts records s) s) s.ports := by
  rw [portsPosted_append]; rfl

/-- R111: the open batch closed. -/
theorem closeBatch_eq {o : OpenBatch} (opened : s.batch.openBatch = some o) (cause : CloseCause) :
    closeBatch cause s = joined [o.closed cause]
      { s with batch := { s.batch with openBatch := none, closeRequest := false } } := by
  rw [closeBatch, opened, joined_one]

theorem closeBatch_none (unopened : s.batch.openBatch = none) (cause : CloseCause) : closeBatch cause s = s := by
  rw [closeBatch, unopened]

/-- Whether batches that join the queue move the backlog. -/
def joinMoves : Bool × Bool := (joinStarts records s, joinEnds records s)

/-- Batches that join in two parts move the backlog in one of them at most: between its end, with eight in the queue,
and its next start, with twelve, four more must join. -/
theorem joinMoves_append (xs ys : List BatchRecord) (few : xs.length + ys.length ≤ 4) :
    (joinMoves xs s = (false, false) ∧ joinMoves ys (joined xs s) = joinMoves (xs ++ ys) s)
      ∨ (joinMoves ys (joined xs s) = (false, false) ∧ joinMoves xs s = joinMoves (xs ++ ys) s) := by
  cases backlog : s.batch.backlog with
  | false =>
    by_cases starts : 0 < xs.length ∧ 12 ≤ s.batch.queue.length + xs.length
    · right
      simp [joinMoves, joined, queueJoined, backlogMoved, joinStarts, joinEnds, backlog, starts, -Bool.decide_and]
      omega
    · left
      simp [joinMoves, joined, queueJoined, backlogMoved, joinStarts, joinEnds, backlog, starts, -Bool.decide_and]
      omega
  | true =>
    by_cases ends : 0 < xs.length ∧ s.batch.queue.length < 8
    · right
      simp [joinMoves, joined, queueJoined, backlogMoved, joinStarts, joinEnds, backlog, ends, -Bool.decide_and]
      omega
    · left
      simp [joinMoves, joined, queueJoined, backlogMoved, joinStarts, joinEnds, backlog, ends, -Bool.decide_and]
      omega

theorem queueJoined_append (xs ys : List BatchRecord) :
    queueJoined ys (queueJoined xs s) = queueJoined (xs ++ ys) s := by
  have told : ∀ e : Event, e ∈ (if 0 < xs.length then [Event.batchClosed] else [])
      ++ (if 0 < ys.length then [Event.batchClosed] else [])
        ↔ e ∈ if 0 < (xs ++ ys).length then [Event.batchClosed] else [] := by
    intro e; cases xs <;> cases ys <;> simp
  simp only [queueJoined, ← portsPosted_append, portsPosted_congr told, List.append_assoc]

theorem queueJoined_backlogMoved :
    queueJoined records (backlogMoved starts ends s) = backlogMoved starts ends (queueJoined records s) := by
  simp only [queueJoined, backlogMoved, portsPosted_comm (backlogEvents _ _)]
  rfl

theorem joined_append (xs ys : List BatchRecord) (few : xs.length + ys.length ≤ 4) :
    joined ys (joined xs s) = joined (xs ++ ys) s := by
  have all : joined (xs ++ ys) s = backlogMoved (joinMoves (xs ++ ys) s).1 (joinMoves (xs ++ ys) s).2
      (queueJoined ys (queueJoined xs s)) := by rw [queueJoined_append]; rfl
  rcases joinMoves_append s xs ys few with ⟨still, moves⟩ | ⟨still, moves⟩
  · have first : joined xs s = queueJoined xs s := by
      obtain ⟨starts, ends⟩ := Prod.mk.inj still
      rw [joined, starts, ends, backlogMoved_not]
    rw [all, ← moves, first]; rfl
  · have second : joined ys (joined xs s) = queueJoined ys (joined xs s) := by
      obtain ⟨starts, ends⟩ := Prod.mk.inj still
      rw [joined, starts, ends, backlogMoved_not]
    rw [all, ← moves, second, joined, queueJoined_backlogMoved]; rfl

end

/-- Settles O59: the close of an open batch, with the backlog's end ruled out by the length of the queue. -/
theorem closedBatchJoinsTheQueue : Obligations.ClosedBatchJoinsTheQueue := by
  intro cause o s opened long
  have starts : joinStarts [o.closed cause] s = (!s.batch.backlog && decide (11 ≤ s.batch.queue.length)) := by
    simp [joinStarts]
  have ends : joinEnds [o.closed cause] s = false := by
    cases backlog : s.batch.backlog with
    | false => simp [joinEnds, backlog]
    | true => have := long backlog; simp [joinEnds]; omega
  dsimp only
  have closed : closeBatch cause s = backlogMoved (joinStarts [o.closed cause] s) false (queueJoined [o.closed cause]
      { s with batch := { s.batch with openBatch := none, closeRequest := false } }) := by
    rw [closeBatch_eq s opened, ← ends]; rfl
  rw [closed, backlogMoved_begins, ← starts, List.append_assoc, portsPosted_append]
  rfl

end Sys2Proof.Machine

/-! # The Batch Unit keeps its counts, sizes and numbers (R108 to R111, R117) -/

namespace Sys2Proof.Machine

/-! ## The law by the Batch Unit's parts -/

/-- R109, R111: a batch that is closed has counted, and no more than its size unless it carries OVERFILL. -/
def BatchRecord.Counted (b : BatchRecord) : Prop := 1 ≤ b.count ∧ (b.count ≤ b.size ∨ b.overfill = true)

/-- R109: a batch may be closed when it has counted, and no more than its size unless it carries OVERFILL. -/
def OpenBatch.Closable (o : OpenBatch) : Prop := 1 ≤ o.count ∧ (o.count ≤ o.size ∨ o.overfill = true)

/-- R110: between count events the open batch has counted and is below its size unless it carries OVERFILL. -/
def OpenBatch.Filling (o : OpenBatch) : Prop := 1 ≤ o.count ∧ (o.count < o.size ∨ o.overfill = true)

/-- R108, R111, R117: the closed batches, the next size and the next number; the open batch is left out. -/
structure BatchUnit.InRange (u : BatchUnit) : Prop where
  queue : ∀ b ∈ u.queue, b.Counted
  nextSize : 1 ≤ u.nextSize ∧ u.nextSize ≤ 2000
  nextNumber : 1 ≤ u.nextNumber ∧ u.nextNumber ≤ 65535

/-- The law, which speaks of the Batch Unit alone. -/
structure BatchUnit.Sound (u : BatchUnit) : Prop extends u.InRange where
  filling : ∀ o ∈ u.openBatch, o.Filling

theorem batchLaw_iff (s : State) : BatchLaw s ↔ s.batch.Sound :=
  ⟨fun ⟨queue, filling, nextSize, nextNumber⟩ => ⟨⟨queue, nextSize, nextNumber⟩, filling⟩,
    fun ⟨⟨queue, nextSize, nextNumber⟩, filling⟩ => ⟨queue, filling, nextSize, nextNumber⟩⟩

theorem OpenBatch.Filling.closable {o : OpenBatch} (h : o.Filling) : o.Closable := ⟨h.1, h.2.imp Nat.le_of_lt id⟩

theorem OpenBatch.Closable.counted {o : OpenBatch} (h : o.Closable) (cause : CloseCause) : (o.closed cause).Counted := h

section
variable {s t : State}

theorem BatchUnit.InRange.of_eq {u v : BatchUnit} (h : u.InRange) (queue : v.queue = u.queue)
    (size : v.nextSize = u.nextSize) (number : v.nextNumber = u.nextNumber) : v.InRange :=
  ⟨queue ▸ h.queue, size ▸ h.nextSize, number ▸ h.nextNumber⟩

/-- The backlog, the kick mark, the close request and the missed separations are not in the law. -/
theorem BatchUnit.Sound.of_eq {u v : BatchUnit} (h : u.Sound) (opened : v.openBatch = u.openBatch)
    (queue : v.queue = u.queue) (size : v.nextSize = u.nextSize) (number : v.nextNumber = u.nextNumber) : v.Sound :=
  ⟨h.toInRange.of_eq queue size number, opened ▸ h.filling⟩

theorem BatchUnit.Sound.of_batch (h : s.batch.Sound) (batch : t.batch = s.batch) : t.batch.Sound := batch ▸ h

theorem BatchUnit.InRange.empty {u : BatchUnit} (h : u.InRange) (unopened : u.openBatch = none) : u.Sound :=
  ⟨h, by simp [unopened]⟩

/-- The open batch changed in what the law does not speak of. -/
theorem BatchUnit.Sound.map {u v : BatchUnit} (h : u.Sound) {f : OpenBatch → OpenBatch}
    (keeps : ∀ o : OpenBatch, o.Filling → (f o).Filling) (opened : v.openBatch = u.openBatch.map f)
    (queue : v.queue = u.queue) (size : v.nextSize = u.nextSize) (number : v.nextNumber = u.nextNumber) : v.Sound where
  toInRange := h.toInRange.of_eq queue size number
  filling o ho := by
    rw [opened] at ho
    obtain ⟨o', ho', rfl⟩ := Option.mem_map.mp ho
    exact keeps o' (h.filling o' ho')

/-! ## Closing a batch (R111) -/

theorem joined_inRange (h : s.batch.InRange) {records : List BatchRecord} (counted : ∀ b ∈ records, b.Counted) :
    (joined records s).batch.InRange where
  queue b hb := (List.mem_append.mp hb).elim (h.queue b) (counted b)
  nextSize := h.nextSize
  nextNumber := h.nextNumber

/-- The open batch closed: it has counted as its record must have (R109, R111). -/
theorem closeBatch_sound (h : s.batch.InRange) (closable : ∀ o ∈ s.batch.openBatch, o.Closable)
    (cause : CloseCause) : (closeBatch cause s).batch.Sound := by
  cases opened : s.batch.openBatch with
  | none => rw [closeBatch_none s opened]; exact h.empty opened
  | some o =>
    have taken : BatchUnit.InRange { s.batch with openBatch := none, closeRequest := false } := h.of_eq rfl rfl rfl
    rw [closeBatch_eq s opened]
    exact BatchUnit.InRange.empty (joined_inRange taken (by simpa using (closable o opened).counted cause)) rfl

theorem closeBatch_keeps_sound (h : s.batch.Sound) (cause : CloseCause) : (closeBatch cause s).batch.Sound :=
  closeBatch_sound h.toInRange (fun o ho => (h.filling o ho).closable) cause

theorem purgeBatch_sound (h : s.batch.Sound) : (purgeBatch s).batch.Sound :=
  (closeBatch_keeps_sound h .purge).of_eq rfl rfl rfl rfl

/-- The head of the queue taken (R116). -/
theorem takeHead_sound {b : BatchRecord} {rest : List BatchRecord} (h : s.batch.Sound)
    (queue : s.batch.queue = b :: rest) : (checkBacklog { s with batch.queue := rest }).batch.Sound := by
  rw [checkBacklog_eq]
  have left : ∀ r ∈ rest, r.Counted := fun r hr => h.queue r (by rw [queue]; exact List.mem_cons_of_mem b hr)
  exact ⟨⟨left, h.nextSize, h.nextNumber⟩, h.filling⟩

/-! ## The count event (R106 to R110) -/

/-- A batch marked with SEPARATION_MISSED, if the separation is missed (R112). -/
def OpenBatch.separated (missed : Bool) (o : OpenBatch) : OpenBatch :=
  { o with separationMissed := o.separationMissed || missed }

/-- A batch with OVERFILL set (R110). -/
def OpenBatch.overfilled (o : OpenBatch) : OpenBatch := { o with overfill := true }

/-- R112: in READY and HALT the open batch is marked. -/
theorem flagSeparation_eq (s : State) : flagSeparation s = { s with
    batch.openBatch := s.batch.openBatch.map (OpenBatch.separated s.line.state.jogging) } := by
  have kept : OpenBatch.separated false = id := funext fun o => by simp [OpenBatch.separated]
  have marked : OpenBatch.separated true = fun o => { o with separationMissed := true } :=
    funext fun o => by simp [OpenBatch.separated]
  unfold flagSeparation
  cases s.line.state.jogging
  · simp [kept]
  · rw [marked]; rfl

/-- R110: OVERFILL is set, and posted where it was not set before. -/
theorem overfillBatch_eq (s : State) : overfillBatch s = { s with
    batch.openBatch := s.batch.openBatch.map OpenBatch.overfilled
    ports := portsPosted (if s.batch.openBatch.any fun o => !o.overfill then [.overfill] else []) s.ports } := by
  unfold overfillBatch
  split
  · rename_i unopened
    simp only [unopened, Option.map_none, Option.any_none, Bool.false_eq_true, if_false, portsPosted_nil]
    rw [← unopened]
  · rename_i o opened
    split
    · rename_i marked
      have same : o.overfilled = o := by rw [OpenBatch.overfilled, ← marked]
      simp only [opened, Option.map_some, same, Option.any_some, marked, Bool.not_true, Bool.false_eq_true, if_false,
        portsPosted_nil]
      rw [← opened]
    · rename_i unmarked
      simp only [opened, Option.any_some, unmarked, Bool.not_false, if_true]
      rfl

theorem flagSeparation_sound (h : s.batch.Sound) : (flagSeparation s).batch.Sound := by
  rw [flagSeparation_eq]
  exact h.map (f := OpenBatch.separated _) (fun _ ho => ho) rfl rfl rfl rfl

theorem changeoverCheck_sound (h : s.batch.Sound) (r : Record) : (changeoverCheck r s).batch.Sound := by
  unfold changeoverCheck
  split
  · exact closeBatch_keeps_sound (flagSeparation_sound h) _
  · exact h

/-- R108: from 65 535 the numbers go on with 1. -/
theorem numberAfter_range {n : Nat} (h : 1 ≤ n ∧ n ≤ 65535) : 1 ≤ numberAfter n ∧ numberAfter n ≤ 65535 := by
  unfold numberAfter
  split <;> omega

/-- A batch that is open as a record comes to be counted has room for it, or carries OVERFILL (R108, R110). -/
def OpenBatch.HasRoom (o : OpenBatch) : Prop := o.count < o.size ∨ o.overfill = true

/-- R108: the batch open after the opening has room for the record. -/
theorem openIfNone_hasRoom (h : s.batch.Sound) (r : Record) :
    (openIfNone r s).batch.InRange ∧ ∀ o ∈ (openIfNone r s).batch.openBatch, o.HasRoom := by
  unfold openIfNone
  split
  · rw [flagSeparation_eq]
    refine ⟨⟨h.queue, h.nextSize, numberAfter_range h.nextNumber⟩, ?_⟩
    rintro _ ⟨⟩
    exact .inl h.nextSize.1
  · exact ⟨h.toInRange, fun o ho => (h.filling o ho).2⟩

/-- R109: the record counted into a batch that had room for it. -/
theorem countInto_closable (h : s.batch.InRange ∧ ∀ o ∈ s.batch.openBatch, o.HasRoom) (r : Record) :
    (countInto r s).batch.InRange ∧ ∀ o ∈ (countInto r s).batch.openBatch, o.Closable := by
  refine ⟨h.1.of_eq rfl rfl rfl, fun o ho => ?_⟩
  obtain ⟨o', ho', rfl⟩ := Option.mem_map.mp (show o ∈ s.batch.openBatch.map _ from ho)
  exact ⟨Nat.le_add_left 1 o'.count, (h.2 o' ho').imp_left id⟩

theorem closeCheck_some {o : OpenBatch} (opened : s.batch.openBatch = some o) : closeCheck s =
    if o.size ≤ o.count then if s.batch.queue.length < 16 then .closes .full else .overfills
    else if s.batch.closeRequest = true ∧ s.batch.queue.length < 16 then .closes .command else .stays := by
  rw [closeCheck, opened]

/-- R110: a batch that has reached its size is closed or overfilled, and one that has not goes on filling. -/
theorem applyCheck_sound (h : s.batch.InRange) (closable : ∀ o ∈ s.batch.openBatch, o.Closable) :
    (applyCheck (closeCheck s) s).batch.Sound := by
  have flagged : (flagSeparation s).batch.InRange ∧ ∀ o ∈ (flagSeparation s).batch.openBatch, o.Closable := by
    rw [flagSeparation_eq]
    refine ⟨h.of_eq rfl rfl rfl, fun o ho => ?_⟩
    obtain ⟨o', ho', rfl⟩ := Option.mem_map.mp ho
    exact closable o' ho'
  cases opened : s.batch.openBatch with
  | none => simpa only [closeCheck, opened, applyCheck] using h.empty opened
  | some o =>
    have counted := closable o opened
    rw [closeCheck_some opened]
    by_cases full : o.size ≤ o.count
    · rw [if_pos full]
      split
      · exact closeBatch_sound flagged.1 flagged.2 .full
      · rw [applyCheck, overfillBatch_eq, opened]
        refine ⟨h.of_eq rfl rfl rfl, ?_⟩
        rintro _ ⟨⟩
        exact ⟨counted.1, .inr rfl⟩
    · rw [if_neg full]
      split
      · exact closeBatch_sound flagged.1 flagged.2 .command
      · refine ⟨h, ?_⟩
        rw [applyCheck, opened]
        rintro _ ⟨⟩
        exact ⟨counted.1, .inl (Nat.lt_of_not_le full)⟩

theorem batchBoundaryMade_sound (h : s.batch.Sound) (r : Record) : (batchBoundaryMade r s).batch.Sound := by
  unfold batchBoundaryMade
  split
  · exact h.of_eq rfl rfl rfl rfl
  · split
    · exact h.of_eq rfl rfl rfl rfl
    · exact h

theorem countEvent_sound (h : s.batch.Sound) (r : Record) : (countEvent r s).batch.Sound := by
  have opened := openIfNone_hasRoom (changeoverCheck_sound h r) r
  obtain ⟨inRange, closable⟩ := countInto_closable opened r
  have checked := applyCheck_sound inRange closable
  simp only [countEvent]
  split
  · exact batchBoundaryMade_sound checked r
  · exact checked

theorem countCrossing_sound (h : s.batch.Sound) (p : Nat) : (countCrossing p s).batch.Sound := by
  unfold countCrossing
  split
  · exact h
  · exact countEvent_sound h _

/-! ## Changeovers, halts and drain completion (R107, R130, R139) -/

/-- The changeover marks the open batch of the bank now ACTIVE, which the law does not speak of (R107). -/
theorem takeChangeover_sound (h : s.batch.Sound) : (takeChangeover s).batch.Sound := by
  cases armed : armedBank s with
  | none => rwa [takeChangeover_unarmed armed]
  | some b =>
    have changed : (banksChanged b s).batch.Sound := h.of_batch (by rw [banksChanged_written])
    rw [takeChangeover_eq armed, retakeSupplies_batch]
    refine changed.map (f := fun o => if o.bank = b then { o with superseded := true } else o) (fun o ho => ?_)
      rfl rfl rfl rfl
    split <;> exact ho

theorem completeDrain_sound (h : s.batch.Sound) : (completeDrain s).batch.Sound := by
  have left : (noSubjects (leaveRunning { s with line.state := .ready })).batch.Sound := h
  have closed : (if s.line.closeFlag = some true
      then closeBatch .drain (noSubjects (leaveRunning { s with line.state := .ready }))
      else noSubjects (leaveRunning { s with line.state := .ready })).batch.Sound := by
    split
    · exact closeBatch_keeps_sound left .drain
    · exact left
  have taken : (drainDone s).batch.Sound := takeChangeover_sound (closed.of_eq rfl rfl rfl rfl)
  exact taken.of_batch (examineLevels_batch (drainDone s))

theorem chainEmptyNotice_sound (h : s.batch.Sound) : (chainEmptyNotice s).batch.Sound := by
  unfold chainEmptyNotice
  split
  · exact h
  · exact takeChangeover_sound h
  · exact h
  · exact completeDrain_sound h
  · exact h

/-! ## Phase crossings and boundaries (R6, R7) -/

theorem doCrossing_sound (h : s.batch.Sound) (level : Bool) (p : Nat) (t : CrossingTask) :
    (doCrossing level p t s).batch.Sound := by
  cases t with
  | edge e => exact h.of_batch (takeEdge_batch e s)
  | mark => exact h.of_batch (markCrossing_batch p s)
  | patch => exact h.of_batch (patchCrossing_batch p s)
  | fold => exact h.of_batch (foldCrossing_batch level p s)
  | gate => exact h.of_batch (gateCrossing_batch p s)
  | count => exact countCrossing_sound h p

theorem crossing_sound (h : s.batch.Sound) (level : Bool) (p : Nat) : (crossing level s p).batch.Sound :=
  runAll_induct (fun x : State => x.batch.Sound) (fun _ => True) (fun _ _ h => h)
    (fun t _ _ h => doCrossing_sound h level p t) _ s (fun _ _ => trivial) h

theorem crossings_sound (h : s.batch.Sound) (level : Bool) (lo hi : Nat) : (crossings level lo hi s).batch.Sound :=
  List.foldlRecOn (motive := fun x : State => x.batch.Sound) _ _ h fun _ hx p _ => crossing_sound hx level p

theorem chainBoundary_sound (h : s.batch.Sound) : (chainBoundary s).batch.Sound := by
  have advanced : (advanced s).batch.Sound := h.of_batch ((advanceStage_batch _).trans (leavingStage_batch s))
  rw [chainBoundary_eq, feedStage]
  split
  · exact (takeChangeover_sound advanced).of_batch (createRecord_batch _)
  · exact advanced

theorem doBoundary_sound (h : s.batch.Sound) (n : Nat) (w level : Bool) (t : BoundaryTask) :
    (doBoundary n w level t s).2.batch.Sound := by
  cases t with
  | cause c => exact h.of_batch (raiseCause_batch c none s)
  | chain => exact chainBoundary_sound h
  | firing => exact h.of_batch (firingBoundary_batch n w s)
  | registration => exact h.of_batch (registrationBoundary_batch s)
  | gumFold => exact h.of_batch (gumFoldBoundary_batch level s)
  | gate => exact h.of_batch (gateCrossing_batch 0 s)
  | batch =>
    have unmarked : BatchUnit.Sound { s.batch with kickMark := none } := h.of_eq rfl rfl rfl rfl
    exact countCrossing_sound (s := { s with batch.kickMark := none }) unmarked 0
  | emptyNotice => exact chainEmptyNotice_sound h

theorem pitchBoundary_sound (h : s.batch.Sound) (level : Bool) : (pitchBoundary level s).batch.Sound :=
  runFree_induct (fun x => x.batch.Sound) (fun _ => True) (fun _ _ h => h)
    (fun t _ _ h => ⟨doBoundary_sound h _ _ level t, fun _ _ => trivial⟩) _ _ (closePitch s) (fun _ _ => trivial) h

/-! ## The requests -/

theorem beginDrain_sound (h : s.batch.Sound) (close : Bool) : (beginDrain close s).batch.Sound := by
  simp only [beginDrain]
  split
  · exact completeDrain_sound (s := { s with line := _ }) h
  · exact h

theorem clearHalt_sound (h : s.batch.Sound) : (clearHalt s).batch.Sound := by
  simp only [clearHalt]
  split
  · exact takeChangeover_sound (s := { s with line := _ }) h
  · exact h

theorem lineReset_sound (h : s.batch.Sound) : (lineReset s).batch.Sound := by
  have discarded : (discardRecords (purgeBatch s)).batch.Sound := (purgeBatch_sound h).of_batch (discardRecords_batch _)
  have taken : (takeChangeover (unitsReset s)).batch.Sound := takeChangeover_sound discarded
  rw [lineReset_eq]
  exact taken.of_batch (examineLevels_batch _)

theorem armBank_sound (h : s.batch.Sound) (b : BankId) : (armBank b s).batch.Sound := by
  simp only [armBank]
  split
  · exact takeChangeover_sound (s := setBankState b .armed s) h
  · exact h

/-- R117: the size sent is 1 to 2000. -/
theorem sizeArgument_range {p : List Byte} {n : Nat} (h : sizeArgument p = some n) : 1 ≤ n ∧ n ≤ 2000 := by
  unfold sizeArgument at h
  split at h
  · rename_i fits
    cases h
    exact fits.2
  · cases h

end

/-! ## Every command -/

theorem powerOn_sound (a b : Bool) (sensors : Sensors) (choices : Nat) (pending : List Instr) :
    (State.powerOn a b sensors choices pending).batch.Sound where
  queue := nofun
  nextSize := (by decide : 1 ≤ 100 ∧ 100 ≤ 2000)
  nextNumber := (by decide : 1 ≤ 1 ∧ 1 ≤ 65535)
  filling := nofun

theorem conclude_sound {s : State} (h : s.batch.Sound) : (conclude s).batch.Sound := by
  cases pin : s.sensors.resetPin with
  | false => rw [conclude_eq s pin]; exact h
  | true =>
    have held : underReset s = .powerOn s.shaft.pairA s.shaft.pairB s.sensors s.choices s.pending := by
      simp [underReset, pin]
    rw [conclude, held]
    exact powerOn_sound s.shaft.pairA s.shaft.pairB s.sensors s.choices s.pending

/-- Every command concludes a state that meets the law. -/
theorem exec_keeps_sound (i : Instr) {s : State} (h : s.batch.Sound) :
    ∃ x, exec i s = .next (conclude x) ∧ x.batch.Sound := by
  cases i with
  | powerOnReset asserted pair => exact ⟨_, rfl, powerOn_sound _ _ _ _ _⟩
  | forwardCountStep elapsed level =>
    exact ⟨_, rfl, forwardCount_induct (fun x => x.batch.Sound) (fun _ _ h => h)
      (fun v lo hi _ h => crossings_sound h v lo hi) (fun v _ h => pitchBoundary_sound h v) level _ h⟩
  | backwardCountStep =>
    exact ⟨_, rfl, backwardCount_induct (fun x => x.batch.Sound) (fun _ _ h => h) (fun _ _ h => h)
      (fun c x h => h.of_batch (raiseCause_batch c none x)) _ h⟩
  | indexEdge elapsed level =>
    exact ⟨_, rfl, indexEdge_induct (fun x => x.batch.Sound) (fun _ _ h => h)
      (fun v lo hi _ h => crossings_sound h v lo hi) (fun v _ h => pitchBoundary_sound h v)
      (fun c x h => h.of_batch (raiseCause_batch c none x)) level _ h⟩
  | drain p =>
    refine ⟨_, rfl, ?_⟩
    split
    · exact h
    · split
      · exact beginDrain_sound h _
      · exact h
  | clearHalt p =>
    refine ⟨_, rfl, ?_⟩
    split
    · exact h
    · split
      · exact clearHalt_sound h
      · exact h
  | lineReset p =>
    refine ⟨_, rfl, ?_⟩
    split
    · exact h
    · split
      · exact lineReset_sound h
      · exact h
  | armChangeover p =>
    refine ⟨_, rfl, ?_⟩
    split
    · exact h
    · split
      · exact armBank_sound h _
      · exact h
  | setBatchSize p =>
    refine ⟨_, rfl, ?_⟩
    split
    · exact h
    · rename_i n size
      exact ⟨⟨h.queue, sizeArgument_range size, h.nextNumber⟩, h.filling⟩
  | closeBatch p =>
    refine ⟨_, rfl, ?_⟩
    split
    · exact h
    · split
      · exact h
      · exact h.of_eq rfl rfl rfl rfl
  | takeBatch p =>
    refine ⟨_, rfl, ?_⟩
    split
    · exact h
    · split
      · exact h
      · split
        · exact takeHead_sound h ‹_›
        · exact h
  | readTriggers p =>
    refine ⟨_, rfl, h.of_batch ?_⟩
    dsimp only
    (repeat' split) <;> simp
  | _ =>
    -- The other commands do not write the Batch Unit.
    refine ⟨_, rfl, h.of_batch ?_⟩
    (repeat' split) <;> simp

/-- Settles O15: the law holds after the front command, whatever it is, and after a tick. -/
theorem stepsKeepTheBatchLaw : Obligations.StepsKeepTheBatchLaw := by
  intro s t law hstep
  have h := (batchLaw_iff s).mp law
  refine (batchLaw_iff t).mpr ?_
  unfold step at hstep
  split at hstep
  · cases hstep
    unfold tick
    split
    · exact h
    · exact h
  · rename_i c rest _
    obtain ⟨x, hx, kept⟩ := exec_keeps_sound c (s := { s with pending := rest }) h
    rw [hx] at hstep
    cases hstep
    exact conclude_sound kept

end Sys2Proof.Machine

/-! # The packer link's requests (R114, R116, R117) -/

namespace Sys2Proof.Machine

/-! ## The arguments -/

/-- A number in its two bytes (R164). -/
theorem wordAt_bytes {n : Nat} (h : n ≤ 65535) : wordAt [BitVec.ofNat 8 n, BitVec.ofNat 8 (n / 256)] 0 = n := by
  simp [wordAt, byteAt]
  omega

theorem sizeArgument_bytes {n : Nat} (pos : 1 ≤ n) (most : n ≤ 2000) :
    sizeArgument [BitVec.ofNat 8 n, BitVec.ofNat 8 (n / 256)] = some n := by
  rw [sizeArgument, wordAt_bytes (Nat.le_trans most (by decide)), if_pos ⟨rfl, pos, most⟩]

theorem batchNumberArgument_bytes {n : Nat} (pos : 1 ≤ n) (most : n ≤ 65535) :
    batchNumberArgument [BitVec.ofNat 8 n, BitVec.ofNat 8 (n / 256)] = some n := by
  rw [batchNumberArgument, wordAt_bytes most, if_pos ⟨rfl, pos⟩]

section
variable {n : Nat} {s : State}

/-! ## SET BATCH SIZE and CLOSE BATCH (R117) -/

theorem exec_setBatchSize (pos : 1 ≤ n) (most : n ≤ 2000) :
    exec (.setBatchSize [BitVec.ofNat 8 n, BitVec.ofNat 8 (n / 256)]) s
      = .next (State.answered { s with batch := { s.batch with nextSize := n } } .packer .setBatchSize .ok []) := by
  simp only [exec, execSetBatchSize, sizeArgument_bytes pos most, conclude_answer]

theorem exec_closeBatch_pending (request : s.batch.closeRequest = true) :
    exec (.closeBatch []) s = .next (s.answered .packer .closeBatch .alreadyPending []) := by
  simp only [exec, execCloseBatch, noArguments, if_true, request, conclude_answer]

theorem exec_closeBatch (request : s.batch.closeRequest = false) : exec (.closeBatch []) s
    = .next (State.answered { s with batch := { s.batch with closeRequest := true } } .packer .closeBatch .ok []) := by
  simp only [exec, execCloseBatch, noArguments, if_true, request]
  rfl

/-! ## TAKE BATCH (R114, R116) -/

theorem exec_takeBatch_empty (pos : 1 ≤ n) (most : n ≤ 65535) (empty : s.batch.queue = []) :
    exec (.takeBatch [BitVec.ofNat 8 n, BitVec.ofNat 8 (n / 256)]) s
      = .next (s.answered .packer .takeBatch .empty []) := by
  simp only [exec, execTakeBatch, batchNumberArgument_bytes pos most, empty, conclude_answer]

theorem exec_takeBatch_mismatch (pos : 1 ≤ n) (most : n ≤ 65535) {b : BatchRecord} {rest : List BatchRecord}
    (queue : s.batch.queue = b :: rest) (other : b.number ≠ n) :
    exec (.takeBatch [BitVec.ofNat 8 n, BitVec.ofNat 8 (n / 256)]) s
      = .next (s.answered .packer .takeBatch .mismatch []) := by
  simp only [exec, execTakeBatch, batchNumberArgument_bytes pos most, queue, if_neg other, conclude_answer]

theorem exec_takeBatch_head (pos : 1 ≤ n) (most : n ≤ 65535) {b : BatchRecord} {rest : List BatchRecord}
    (queue : s.batch.queue = b :: rest) (number : b.number = n) :
    exec (.takeBatch [BitVec.ofNat 8 n, BitVec.ofNat 8 (n / 256)]) s
      = .next ((checkBacklog { s with batch.queue := rest }).answered .packer .takeBatch .ok
          [BitVec.ofNat 8 n, BitVec.ofNat 8 (n / 256), BitVec.ofNat 8 rest.length]) := by
  simp only [exec, execTakeBatch, batchNumberArgument_bytes pos most, queue, if_pos number, conclude_answer]
  rfl

/-- R114: taking a batch starts no backlog; it ends one with eight records or fewer left. -/
theorem checkBacklog_taken {rest : List BatchRecord} (short : s.batch.backlog = false → rest.length ≤ 11) :
    checkBacklog { s with batch.queue := rest }
      = (let ended := s.batch.backlog && decide (rest.length ≤ 8)
         { s with
           batch := { s.batch with queue := rest, backlog := s.batch.backlog && !ended }
           line := { s.line with
             feedInhibit := if ended then s.line.feedInhibit &&& ~~~1 else s.line.feedInhibit } }) := by
  have starts : (!s.batch.backlog && decide (12 ≤ rest.length)) = false := by
    cases backlog : s.batch.backlog with
    | false => have := short backlog; simp; omega
    | true => rfl
  rw [checkBacklog_eq]
  dsimp only
  rw [starts]
  simp [backlogMoved, backlogInhibit, backlogEvents]

end

/-- Settles O49: each request by its argument and the state of the queue. -/
theorem packerLinkRequests : Obligations.PackerLinkRequests := by
  refine ⟨fun n s pos most => ⟨exec_setBatchSize pos most, exec_closeBatch_pending, exec_closeBatch⟩,
    fun n s pos most => ⟨exec_takeBatch_empty pos most, fun b rest queue =>
      ⟨exec_takeBatch_mismatch pos most queue, fun number short => ?_⟩⟩⟩
  dsimp only
  rw [exec_takeBatch_head pos most queue number, checkBacklog_taken short]

end Sys2Proof.Machine

/-! # The count event fills the batch (R106 to R112) -/

namespace Sys2Proof.Machine

section
variable (r : Record) (s : State)

/-! ## The changeover check (R107) -/

/-- Whether separations are missed: READY or HALT, where blanks move by jogging (R112). -/
def missesSeparation : Bool := s.line.state == .ready || s.line.state == .halt

theorem jogging_eq_missesSeparation : s.line.state.jogging = missesSeparation s := by
  unfold missesSeparation
  cases s.line.state <;> rfl

/-- The open batch, if a record of another bank or a superseding changeover closes it (R107). -/
def changedOut : List OpenBatch := s.batch.openBatch.toList.filter fun o => o.bank != r.bank || o.superseded

/-- The batch record that the changeover check makes (R107, R112). -/
def changedRecords : List BatchRecord :=
  (changedOut r s).map fun o => (o.separated (missesSeparation s)).closed .changeover

/-- A close request that the changeover check leaves (R111). -/
def requestKept : Bool := s.batch.closeRequest && (changedOut r s).isEmpty

/-- The open batch and the close request as the changeover check leaves them. -/
def changeoverLeft : State := { s with batch := { s.batch with
  openBatch := s.batch.openBatch.filter fun _ => (changedOut r s).isEmpty, closeRequest := requestKept r s } }

theorem changedOut_cases : (changedOut r s = [] ∧ mustClose r s = false)
    ∨ ∃ o, s.batch.openBatch = some o ∧ changedOut r s = [o] ∧ mustClose r s = true := by
  cases opened : s.batch.openBatch with
  | none => exact .inl ⟨by simp [changedOut, opened], by simp [mustClose, opened]⟩
  | some o =>
    cases changed : (o.bank != r.bank || o.superseded) with
    | false => exact .inl ⟨by simp [changedOut, opened, changed], by simp [mustClose, opened, changed]⟩
    | true => exact .inr ⟨o, rfl, by simp [changedOut, opened, changed], by simp [mustClose, opened, changed]⟩

theorem mustClose_eq : mustClose r s = !(changedOut r s).isEmpty := by
  rcases changedOut_cases r s with ⟨nothing, stays⟩ | ⟨o, _, one, closes⟩
  · simp [nothing, stays]
  · simp [one, closes]

/-- R107: the changeover check, with the close that it may make. -/
theorem changeoverCheck_eq : changeoverCheck r s = joined (changedRecords r s) (changeoverLeft r s) := by
  rcases changedOut_cases r s with ⟨nothing, stays⟩ | ⟨o, opened, one, closes⟩
  · have kept : s.batch.openBatch.filter (fun _ => true) = s.batch.openBatch := by cases s.batch.openBatch <;> rfl
    have left : changeoverLeft r s = s := by simp [changeoverLeft, requestKept, nothing, kept]
    rw [changeoverCheck, stays, left, changedRecords, nothing, List.map_nil, joined_nil]
    rfl
  · have flagged : (flagSeparation s).batch.openBatch = some (o.separated (missesSeparation s)) := by
      rw [flagSeparation_eq, opened, jogging_eq_missesSeparation]; rfl
    rw [changeoverCheck, if_pos closes, closeBatch_eq _ flagged, flagSeparation_eq]
    simp [changedRecords, changeoverLeft, requestKept, one]

/-! ## The batch of the record, and the record counted into it (R108, R109) -/

/-- Whether the count event opens a batch (R108). -/
def opensBatch : Bool := s.batch.openBatch.isNone || !(changedOut r s).isEmpty

/-- The batch that the record is counted into: the open one, or a new one (R107, R108). -/
def batchOf : OpenBatch := (s.batch.openBatch.filter fun _ => (changedOut r s).isEmpty).getD
  ((newBatch r s).separated (missesSeparation s))

/-- A batch with one record more (R109). -/
def OpenBatch.counting (o : OpenBatch) : OpenBatch := { o with
  count := o.count + 1
  lastSeq := r.seq
  unverified := if r.fate = .passUnverified then o.unverified + 1 else o.unverified }

/-- The batch with the record counted into it. -/
def batchCounted : OpenBatch := (batchOf r s).counting r

/-- The chain, the open batch, the close request and the next number once the record is counted. -/
def recordCounted : State := { s with
  chain.records := s.chain.records.map fun x => if x.seq = r.seq then { x with counted := true } else x
  batch := { s.batch with
    openBatch := some (batchCounted r s), closeRequest := requestKept r s
    nextNumber := if opensBatch r s then numberAfter s.batch.nextNumber else s.batch.nextNumber } }

theorem changeoverLeft_isNone : (changeoverLeft r s).batch.openBatch.isNone = opensBatch r s := by
  unfold changeoverLeft opensBatch
  cases s.batch.openBatch <;> cases (changedOut r s).isEmpty <;> rfl

theorem openIfNone_eq : openIfNone r s = { s with batch := { s.batch with
    openBatch := some (s.batch.openBatch.getD ((newBatch r s).separated (missesSeparation s)))
    nextNumber := if s.batch.openBatch.isNone then numberAfter s.batch.nextNumber else s.batch.nextNumber } } := by
  rw [openIfNone, flagSeparation_eq, jogging_eq_missesSeparation]
  cases opened : s.batch.openBatch with
  | none => rfl
  | some o =>
    simp only [Option.isNone_some, Bool.false_eq_true, if_false, Option.getD_some]
    rw [← opened]

theorem countInto_eq : countInto r s = { s with
    chain.records := s.chain.records.map fun x => if x.seq = r.seq then { x with counted := true } else x
    batch.openBatch := s.batch.openBatch.map (OpenBatch.counting r) } := by
  rw [countInto, updateRecord_eq]; rfl

/-- R107 to R109: the first three steps of the count event. -/
theorem countInto_openIfNone_eq : countInto r (openIfNone r (changeoverCheck r s))
    = joined (changedRecords r s) (recordCounted r s) := by
  rw [changeoverCheck_eq, openIfNone_eq, countInto_eq, recordCounted, ← changeoverLeft_isNone]
  rfl

/-! ## The close check (R110) -/

/-- Whether the queue has room for the batch, after the changeover check (R110). -/
def queueHasRoom : Bool := decide ((s.batch.queue ++ changedRecords r s).length < 16)

/-- Whether the batch has reached its size. -/
def batchFull : Bool := decide ((batchCounted r s).size ≤ (batchCounted r s).count)

/-- Whether a close request would close the batch. -/
def closeCommanded : Bool := !batchFull r s && requestKept r s

/-- Whether the close check closes the batch. -/
def countCloses : Bool := (batchFull r s || closeCommanded r s) && queueHasRoom r s

/-- The batch record that the close check makes (R110, R111, R112). -/
def closedRecords : List BatchRecord := if countCloses r s then
    [((batchCounted r s).separated (missesSeparation s)).closed (if batchFull r s then .full else .command)] else []

/-- What a batch filled beyond its size for the first time posts (R110). -/
def overfillEvents : List Event :=
  if batchFull r s && !queueHasRoom r s && !(batchCounted r s).overfill then [.overfill] else []

/-- The open batch as the close check leaves it. -/
def batchLeft : Option OpenBatch :=
  if countCloses r s then none
  else some (if batchFull r s then (batchCounted r s).overfilled else batchCounted r s)

/-- The open batch, the close request and the OVERFILL event after the close check. -/
def recordChecked : State := { recordCounted r s with
  batch := { (recordCounted r s).batch with
    openBatch := batchLeft r s, closeRequest := requestKept r s && !countCloses r s }
  ports := portsPosted (overfillEvents r s) s.ports }

theorem closeCheck_eq : closeCheck (joined (changedRecords r s) (recordCounted r s)) =
    if countCloses r s then .closes (if batchFull r s then .full else .command)
    else if batchFull r s then .overfills else .stays := by
  have opened : (joined (changedRecords r s) (recordCounted r s)).batch.openBatch = some (batchCounted r s) := rfl
  have size : (batchCounted r s).size ≤ (batchCounted r s).count ↔ batchFull r s = true := decide_eq_true_iff.symm
  have room : (joined (changedRecords r s) (recordCounted r s)).batch.queue.length < 16 ↔ queueHasRoom r s = true :=
    decide_eq_true_iff.symm
  have request : (joined (changedRecords r s) (recordCounted r s)).batch.closeRequest = requestKept r s := rfl
  simp only [closeCheck_some opened, size, room, request, countCloses, closeCommanded]
  by_cases full : batchFull r s = true <;> by_cases free : queueHasRoom r s = true <;>
    by_cases kept : requestKept r s = true <;> simp [full, free, kept]

theorem joined_portsPosted (records : List BatchRecord) (events : List Event) :
    joined records { s with ports := portsPosted events s.ports }
      = { joined records s with ports := portsPosted events (joined records s).ports } := by
  simp only [joined, backlogMoved, queueJoined, portsPosted_comm events]
  rfl

theorem changedRecords_length : (changedRecords r s).length ≤ 1 := by
  rcases changedOut_cases r s with ⟨nothing, _⟩ | ⟨o, _, one, _⟩
  · simp [changedRecords, nothing]
  · simp [changedRecords, one]

/-- R110: a close that the close check makes, after the one that the changeover check may have made. -/
theorem closeBatch_counted (cause : CloseCause) :
    closeBatch cause (flagSeparation (joined (changedRecords r s) (recordCounted r s)))
      = joined (changedRecords r s ++ [((batchCounted r s).separated (missesSeparation s)).closed cause])
          { recordCounted r s with
            batch := { (recordCounted r s).batch with openBatch := none, closeRequest := false } } := by
  have flagged : (flagSeparation (joined (changedRecords r s) (recordCounted r s))).batch.openBatch
      = some ((batchCounted r s).separated (missesSeparation s)) := by
    rw [flagSeparation_eq, jogging_eq_missesSeparation]; rfl
  have few : (changedRecords r s).length + 1 ≤ 4 := by have := changedRecords_length r s; omega
  rw [closeBatch_eq _ flagged, ← joined_append _ _ _ few, flagSeparation_eq]
  rfl

/-- R110: the last step of the count event. -/
theorem applyCheck_eq : applyCheck (closeCheck (joined (changedRecords r s) (recordCounted r s)))
    (joined (changedRecords r s) (recordCounted r s))
      = joined (changedRecords r s ++ closedRecords r s) (recordChecked r s) := by
  rw [closeCheck_eq]
  cases closes : countCloses r s with
  | true =>
    have room : queueHasRoom r s = true := (Bool.and_eq_true_iff.mp closes).2
    have quiet : overfillEvents r s = [] := by simp [overfillEvents, room]
    rw [if_pos rfl, applyCheck, closeBatch_counted, closedRecords, if_pos closes, recordChecked, quiet, batchLeft,
      if_pos closes, closes, Bool.not_true, Bool.and_false]
    rfl
  | false =>
    have nothing : closedRecords r s = [] := by simp [closedRecords, closes]
    rw [nothing, List.append_nil]
    cases full : batchFull r s with
    | true =>
      have noRoom : queueHasRoom r s = false := by simpa [countCloses, full] using closes
      have left : batchLeft r s = some (batchCounted r s).overfilled := by simp [batchLeft, closes, full]
      have told : overfillEvents r s = if !(batchCounted r s).overfill then [.overfill] else [] := by
        simp [overfillEvents, full, noRoom]
      have checked := joined_portsPosted (s := { recordCounted r s with batch := { (recordCounted r s).batch with
        openBatch := batchLeft r s, closeRequest := requestKept r s && !countCloses r s } }) (changedRecords r s)
        (overfillEvents r s)
      simp only [Bool.false_eq_true, if_false, if_true, applyCheck]
      rw [overfillBatch_eq]
      refine Eq.trans ?_ checked.symm
      rw [left, told, closes, Bool.not_false, Bool.and_true]
      rfl
    | false =>
      have quiet : overfillEvents r s = [] := by simp [overfillEvents, full]
      rw [recordChecked, quiet, batchLeft, closes, full, Bool.not_false, Bool.and_true]
      rfl

/-! ## The batch boundary (R112) -/

/-- Whether the count event makes a batch boundary: a batch is opened or closed (R112). -/
def makesBoundary : Bool := opensBatch r s || countCloses r s

/-- R112: the kick mark in RUN and DRAIN, a missed separation in READY and HALT. -/
theorem batchBoundaryMade_eq : batchBoundaryMade r s = { s with batch := { s.batch with
    kickMark := if s.line.state == .run || s.line.state == .drain then some r.seq else s.batch.kickMark
    separationMissed :=
      if missesSeparation s then s.batch.separationMissed + 1 else s.batch.separationMissed } } := by
  unfold batchBoundaryMade missesSeparation
  cases s.line.state <;> rfl

/-- What the count event leaves beside the queue, the backlog and the events of the closes (R106 to R112). -/
def countLeft : State := { recordChecked r s with batch := { (recordChecked r s).batch with
  kickMark := if makesBoundary r s && (s.line.state == .run || s.line.state == .drain) then some r.seq
    else s.batch.kickMark
  separationMissed := if makesBoundary r s && missesSeparation s then s.batch.separationMissed + 1
    else s.batch.separationMissed } }

/-- The count event in one: the batches it closes join the queue of what it leaves (R106). -/
theorem countEvent_eq : countEvent r s = joined (changedRecords r s ++ closedRecords r s) (countLeft r s) := by
  have made : (mustClose r s || (changeoverCheck r s).batch.openBatch.isNone
      || (closeCheck (joined (changedRecords r s) (recordCounted r s))).isClose) = makesBoundary r s := by
    have isNone : (changeoverCheck r s).batch.openBatch.isNone = opensBatch r s := by
      rw [changeoverCheck_eq]; exact changeoverLeft_isNone r s
    have isClose : (closeCheck (joined (changedRecords r s) (recordCounted r s))).isClose = countCloses r s := by
      rw [closeCheck_eq]
      cases countCloses r s <;> cases batchFull r s <;> rfl
    have opens : (mustClose r s || opensBatch r s) = opensBatch r s := by
      rw [mustClose_eq, opensBatch, Bool.or_left_comm, Bool.or_self]
    rw [isNone, isClose, opens, makesBoundary]
  simp only [countEvent]
  rw [countInto_openIfNone_eq, made, applyCheck_eq]
  cases boundary : makesBoundary r s with
  | true =>
    rw [if_pos rfl, batchBoundaryMade_eq, countLeft, boundary, Bool.true_and, Bool.true_and]
    rfl
  | false =>
    rw [countLeft, boundary]
    rfl

/-! ## What the count event leaves, case by case (R109 to R114) -/

/-- The batches that the count event closes, in their order. -/
def countedOut : List BatchRecord := changedRecords r s ++ closedRecords r s

theorem countedOut_length :
    (countedOut r s).length = (changedOut r s).length + if countCloses r s then 1 else 0 := by
  rw [countedOut, List.length_append, changedRecords, List.length_map, closedRecords]
  split <;> rfl

theorem countEvent_ports : (countEvent r s).ports = portsPosted
    ((if 0 < (countedOut r s).length then [.batchClosed] else []) ++ backlogEvents (joinStarts (countedOut r s) s) s ++ overfillEvents r s) s.ports := by
  rw [countEvent_eq, joined_ports, portsPosted_append _ (overfillEvents r s), portsPosted_comm (overfillEvents r s)]
  rfl

section
variable {r : Record} {s : State}

/-- R110, R111: the batch is closed with the cause of the close check. -/
theorem countEvent_closes (closes : countCloses r s = true) {cause : CloseCause}
    (why : (if batchFull r s then CloseCause.full else .command) = cause) :
    (countEvent r s).batch.openBatch = none
      ∧ (countEvent r s).batch.queue = s.batch.queue ++ changedRecords r s
          ++ [((batchCounted r s).separated (missesSeparation s)).closed cause]
      ∧ (countEvent r s).batch.closeRequest = false := by
  have out : closedRecords r s = [((batchCounted r s).separated (missesSeparation s)).closed cause] := by
    rw [closedRecords, if_pos closes, why]
  rw [countEvent_eq, out, List.append_assoc]
  refine ⟨?_, rfl, ?_⟩
  · exact if_pos closes
  · change (requestKept r s && !countCloses r s) = false
    rw [closes, Bool.not_true, Bool.and_false]

/-- R110: the batch stays open, overfilled if it is full. -/
theorem countEvent_stays (stays : countCloses r s = false) :
    (countEvent r s).batch.openBatch
        = some (if batchFull r s then (batchCounted r s).overfilled else batchCounted r s)
      ∧ (countEvent r s).batch.queue = s.batch.queue ++ changedRecords r s
      ∧ (countEvent r s).batch.closeRequest = requestKept r s := by
  have out : closedRecords r s = [] := by rw [closedRecords, stays]; rfl
  rw [countEvent_eq, out, List.append_nil]
  refine ⟨?_, rfl, ?_⟩
  · change batchLeft r s = _
    rw [batchLeft, stays]; rfl
  · change (requestKept r s && !countCloses r s) = requestKept r s
    rw [stays, Bool.not_false, Bool.and_true]

/-- R110: OVERFILL is pending at every port when it is set for the first time. -/
theorem countEvent_overfills (full : batchFull r s = true) (noRoom : queueHasRoom r s = false)
    (first : (batchCounted r s).overfill = false) (l : Link) :
    maskHas ((countEvent r s).ports.get l).pending Event.overfill.index = true := by
  have told : overfillEvents r s = [.overfill] := by simp [overfillEvents, full, noRoom, first]
  rw [countEvent_ports, portsPosted, PerLink.get_ofFn]
  refine (maskHas_posted _ _ _).trans ?_
  simp [told]

/-! ## The crossing of count_phase (R106) -/

theorem countCrossing_none (p : Nat) (vacant : recordAt s s.geometry.posCount = none) : countCrossing p s = s := by
  simp only [countCrossing, countSubject, vacant]

theorem countCrossing_some (p : Nat) (stands : recordAt s s.geometry.posCount = some r) : countCrossing p s
    = if r.counted = false ∧ (fieldsOf s r.bank).countPhase = p then countEvent r s else s := by
  simp only [countCrossing, countSubject, stands]
  by_cases due : r.counted = false ∧ (fieldsOf s r.bank).countPhase = p
  · simp only [if_pos due]
  · simp only [if_neg due]

end

end

/-- Settles O60: the crossing that takes the event, and its four steps by whether the batch closes. -/
theorem countEventFillsTheBatch : Obligations.CountEventFillsTheBatch := by
  refine ⟨fun p s => ⟨countCrossing_none p, fun r => countCrossing_some p, rfl⟩, fun r s => ?_⟩
  intro running jogging flagged changes queue opens request before o room full command boundary t
  have event : t = joined (countedOut r s) (countLeft r s) := countEvent_eq r s
  refine ⟨?_, ?_, ?_, fun (isFull : batchFull r s = true) (hasRoom : queueHasRoom r s = true) => ?_,
    fun (commanded : closeCommanded r s = true) (hasRoom : queueHasRoom r s = true) => ?_,
    fun (isFull : batchFull r s = true) (noRoom : queueHasRoom r s = false) => ?_,
    fun (notFull : batchFull r s = false) (noClose : (closeCommanded r s && queueHasRoom r s) = false) => ?_,
    ?_, ?_, ?_⟩
  · rw [event]; rfl
  · rw [event]; rfl
  · rw [event]; rfl
  · exact countEvent_closes (by simp [countCloses, isFull, hasRoom]) (by rw [isFull]; rfl)
  · have notFull : batchFull r s = false := by simpa using (Bool.and_eq_true_iff.mp commanded).1
    exact countEvent_closes (by simp [countCloses, commanded, hasRoom]) (by rw [notFull]; rfl)
  · have stays : countCloses r s = false := by simp [countCloses, noRoom]
    obtain ⟨left, joins, request'⟩ := countEvent_stays stays
    refine ⟨?_, joins, request', fun first => countEvent_overfills isFull noRoom first⟩
    rw [isFull] at left
    exact left
  · have stays : countCloses r s = false := by simpa [countCloses, notFull] using noClose
    obtain ⟨left, joins, request'⟩ := countEvent_stays stays
    rw [notFull] at left
    exact ⟨left, joins, request'⟩
  · rw [event]; rfl
  · rw [event]; rfl
  · intro closes starts ends
    have length : (countedOut r s).length = closes := countedOut_length r s
    have begins : joinStarts (countedOut r s) s = starts := by rw [joinStarts, length]
    have finishes : joinEnds (countedOut r s) s = ends := by rw [joinEnds, length]
    refine ⟨?_, ?_, ?_⟩
    · rw [event, ← begins, ← finishes]; rfl
    · rw [event, ← begins, ← finishes]; rfl
    · refine (countEvent_ports r s).trans ?_
      rw [← length, ← begins, backlogEvents, ← List.append_assoc]; rfl

end Sys2Proof.Machine

/-! # The bank states in step with one another and with the records (R122 to R128, R130, R131) -/

namespace Sys2Proof.Machine

/-! ## The parts of the law -/

/-- The law told of one bank beside the other, and of the records by whether they name it. -/
structure BankSound (s : State) (b : BankId) : Prop where
  named : bankNamed s b = true → bankState s b = .active ∨ bankState s b = .draining
  draining : bankState s b = .draining → bankState s b.other = .active ∧ bankNamed s b = true
  armed : bankState s b = .armed → bankState s b.other ≠ .armed ∧ bankState s b.other ≠ .draining
  active : bankState s b = .active → bankState s b.other ≠ .active
  checked : bankState s b ≠ .empty → bankState s b ≠ .staging → firstFailure (bankChecks (fieldsOf s b)) = none

/-- The law, told of both banks. -/
def BanksSound (s : State) : Prop := ∀ b, BankSound s b

theorem bankNamed_iff (s : State) (b : BankId) : bankNamed s b = true ↔ ∃ r ∈ s.chain.records, r.bank = b := by
  simp [bankNamed, namesBank]

theorem bankLaw_iff (s : State) : BankLaw s ↔ BanksSound s := by
  constructor
  · rintro ⟨records, law0, law1⟩ b
    have law : BankLawAt s b := by cases b <;> assumption
    obtain ⟨draining, armed, active, checked⟩ := law
    refine ⟨fun named => ?_, draining, armed, active, checked⟩
    obtain ⟨r, stands, rfl⟩ := (bankNamed_iff s b).mp named
    exact records r stands
  · intro h
    have law : ∀ b, BankLawAt s b := fun b => ⟨(h b).draining, (h b).armed, (h b).active, (h b).checked⟩
    exact ⟨fun r stands => (h r.bank).named ((bankNamed_iff s r.bank).mpr ⟨r, stands, rfl⟩), law .bank0, law .bank1⟩

@[simp] theorem BankId.other_other (b : BankId) : b.other.other = b := by cases b <;> rfl

theorem BanksSound.of_two {s : State} (b : BankId) (here : BankSound s b) (there : BankSound s b.other) :
    BanksSound s := by
  intro k
  have two : k = b ∨ k = b.other := by cases k <;> cases b <;> simp [BankId.other]
  rcases two with rfl | rfl
  · exact here
  · exact there

/-- The banks that the records name are told by the places of the chain. -/
theorem bankNamed_of_places {s t : State} (h : t.chain.places = s.chain.places) (b : BankId) :
    bankNamed t b = bankNamed s b := by
  have told : ∀ l : List Record, namesBank l b = (l.map Record.place).any fun p => p.2.1 == b := fun l => by
    rw [namesBank, List.any_map]; rfl
  rw [bankNamed, bankNamed, told, told, (Prod.mk.inj h).1]

section
variable {s t : State} {b : BankId}

/-! ## The law while no bank changes -/

/-- The banks stay; a bank that a record names only now is the ACTIVE one, and none is named no longer. -/
theorem BanksSound.of_banks (h : BanksSound s) (banks : t.banks = s.banks)
    (stays : ∀ k, bankNamed s k = true → bankNamed t k = true)
    (new : ∀ k, bankNamed t k = true → bankNamed s k = true ∨ bankState s k = .active) : BanksSound t := by
  have state := bankState_of_banks banks
  refine fun k => ⟨fun hk => ?_, fun hk => ?_, ?_, ?_, ?_⟩
  · rw [state]
    exact (new k hk).elim (h k).named .inl
  · rw [state] at hk ⊢
    obtain ⟨other, named⟩ := (h k).draining hk
    exact ⟨other, stays k named⟩
  · rw [state, state]; exact (h k).armed
  · rw [state, state]; exact (h k).active
  · rw [state, fieldsOf_of_banks banks]; exact (h k).checked

/-- The law speaks of the banks and of the banks named alone. -/
theorem BanksSound.of_places (h : BanksSound s) (banks : t.banks = s.banks) (places : t.chain.places = s.chain.places) :
    BanksSound t :=
  h.of_banks banks (fun k hk => (bankNamed_of_places places k).trans hk)
    fun k hk => .inl ((bankNamed_of_places places k).symm.trans hk)

theorem BanksSound.of_eq (h : BanksSound s) (banks : t.banks = s.banks) (chain : t.chain = s.chain) : BanksSound t :=
  h.of_places banks (by rw [chain])

theorem BanksSound.answered (h : BanksSound s) (l : Link) (c : Command) (status : Status) (payload : List Byte) :
    BanksSound (answer l c status payload s) := h.of_eq rfl rfl

theorem raiseCause_banksSound (h : BanksSound s) (c : HaltCause) (l : Option Link) : BanksSound (raiseCause c l s) :=
  h.of_places (raiseCause_banks c l s) (raiseCause_places c l s)

theorem examineLevels_banksSound (h : BanksSound s) : BanksSound (examineLevels s) :=
  h.of_places (examineLevels_banks s) (examineLevels_places s)

/-! ## A bank that is neither ACTIVE nor DRAINING (R123, R124, R127, R128) -/

theorem bankState_put (b : BankId) (x : RecipeBank) (s : State) (k : BankId) :
    bankState { s with banks := s.banks.set b x } k = if k = b then x.state else bankState s k := by
  cases b <;> cases k <;> rfl

theorem fieldsOf_put (b : BankId) (x : RecipeBank) (s : State) (k : BankId) :
    fieldsOf { s with banks := s.banks.set b x } k = if k = b then x.fields else fieldsOf s k := by
  cases b <;> cases k <;> rfl

/-- A bank that is neither ACTIVE nor DRAINING, which no record can name (R126). -/
structure Unused (s : State) (b : BankId) : Prop where
  active : bankState s b ≠ .active
  draining : bankState s b ≠ .draining

/-- A bank not used takes a state in which it is not used either; the other bank then is not DRAINING, for that takes
this one to be ACTIVE. -/
theorem BanksSound.put (h : BanksSound s) (unused : Unused s b) {x : RecipeBank}
    (active : x.state ≠ .active) (draining : x.state ≠ .draining)
    (armed : x.state = .armed → bankState s b.other ≠ .armed)
    (checked : x.state ≠ .empty → x.state ≠ .staging → firstFailure (bankChecks x.fields) = none) :
    BanksSound { s with banks := s.banks.set b x } := by
  have unnamed : bankNamed s b ≠ true := fun hb => ((h b).named hb).elim unused.active unused.draining
  have notDraining : bankState s b.other ≠ .draining := fun hd => by
    have back := ((h b.other).draining hd).1
    rw [BankId.other_other] at back
    exact unused.active back
  have here : bankState { s with banks := s.banks.set b x } b = x.state := by rw [bankState_put, if_pos rfl]
  have there : bankState { s with banks := s.banks.set b x } b.other = bankState s b.other := by
    rw [bankState_put, if_neg b.other_ne]
  refine .of_two b ?_ ?_
  · refine ⟨fun named => absurd named unnamed, ?_, ?_, ?_, ?_⟩ <;> rw [here]
    · exact fun e => absurd e draining
    · exact fun e => by rw [there]; exact ⟨armed e, notDraining⟩
    · exact fun e => absurd e active
    · rw [fieldsOf_put, if_pos rfl]; exact checked
  · refine ⟨?_, ?_, ?_, ?_, ?_⟩ <;> rw [there]
    · exact (h b.other).named
    · exact fun e => absurd e notDraining
    · rw [BankId.other_other, here]
      exact fun e => ⟨fun both => armed both e, draining⟩
    · rw [BankId.other_other, here]
      exact fun _ => active
    · rw [fieldsOf_put, if_neg b.other_ne]; exact (h b.other).checked

theorem inUse_iff (x : BankState) : x.inUse = true ↔ x = .armed ∨ x = .active ∨ x = .draining := by
  cases x <;> decide

/-- R123: a bank that is not in use is written and put into STAGING. -/
theorem stageBank_banksSound (h : BanksSound s) (free : (bankState s b).inUse = false) (f : BankFields) :
    BanksSound (stageBank b f s) := by
  have notUsed : ¬(bankState s b = .armed ∨ bankState s b = .active ∨ bankState s b = .draining) :=
    mt (inUse_iff _).mpr (by simp [free])
  have unused : Unused s b := ⟨fun e => notUsed (.inr (.inl e)), fun e => notUsed (.inr (.inr e))⟩
  exact h.put unused nofun nofun nofun fun _ staging => absurd rfl staging

/-- R124, R128: a bank not used whose fields pass the checks becomes VALID. -/
theorem setValid_banksSound (h : BanksSound s) (unused : Unused s b)
    (passes : firstFailure (bankChecks (fieldsOf s b)) = none) : BanksSound (setBankState b .valid s) :=
  h.put unused nofun nofun nofun fun _ _ => passes

theorem validateStaging_banksSound (h : BanksSound s) (staging : bankState s b = .staging) :
    BanksSound (validateStaging b s) := by
  unfold validateStaging
  split
  · exact h.answered _ _ _ _
  · rename_i passes
    exact (setValid_banksSound h ⟨by simp [staging], by simp [staging]⟩ passes).answered _ _ _ _

/-- R128: an ARMED bank is VALID again. -/
theorem disarm_banksSound (h : BanksSound s) (armed : bankState s b = .armed) : BanksSound (setBankState b .valid s) :=
  setValid_banksSound h ⟨by simp [armed], by simp [armed]⟩ ((h b).checked (by simp [armed]) (by simp [armed]))

/-- R127: a VALID bank is armed where the other is not. -/
theorem setArmed_banksSound (h : BanksSound s) (valid : bankState s b = .valid) (other : bankState s b.other ≠ .armed) :
    BanksSound (setBankState b .armed s) :=
  h.put ⟨by simp [valid], by simp [valid]⟩ nofun nofun (fun _ => other)
    fun _ _ => (h b).checked (by simp [valid]) (by simp [valid])

/-! ## The changeover (R130) -/

/-- The armed bank is ACTIVE; the one that was ACTIVE is DRAINING exactly while a record names it. -/
theorem takeChangeover_banksSound (h : BanksSound s) : BanksSound (takeChangeover s) := by
  cases changeover : armedBank s with
  | none => rwa [takeChangeover_unarmed changeover]
  | some b =>
    have armed := bankState_of_bankIn changeover
    have unnamed : bankNamed s b ≠ true := fun hb => by have := (h b).named hb; simp [armed] at this
    have named := bankNamed_of_chain (takeChangeover_chain s)
    have here : bankState (takeChangeover s) b = .active := by simp [bankState_takeChangeover changeover]
    have there := bankState_other_takeChangeover changeover
    obtain ⟨notArmed, notDraining⟩ := (h b).armed armed
    have retired : bankState (takeChangeover s) b.other ≠ .active := by
      rw [there]; split
      · split <;> simp
      · assumption
    refine .of_two b ⟨fun _ => .inl here, ?_, ?_, fun _ => retired, ?_⟩
      ⟨?_, ?_, ?_, fun active => absurd active retired, ?_⟩
    · rw [here]; exact nofun
    · rw [here]; exact nofun
    · rw [fieldsOf_takeChangeover]
      exact fun _ _ => (h b).checked (by simp [armed]) (by simp [armed])
    · rw [named, there]
      intro names
      have active := ((h b.other).named names).resolve_right notDraining
      exact .inr (by rw [if_pos active, if_pos names])
    · rw [BankId.other_other, named, there]
      split
      · split
        · rename_i names
          exact fun _ => ⟨here, names⟩
        · exact nofun
      · exact fun drains => absurd drains notDraining
    · rw [there]
      split
      · split <;> exact nofun
      · exact fun stillArmed => absurd stillArmed notArmed
    · rw [fieldsOf_takeChangeover, there]
      split
      · rename_i active
        exact fun _ _ => (h b.other).checked (by simp [active]) (by simp [active])
      · exact (h b.other).checked

/-- R127: where the changeover takes effect at once the bank armed is ACTIVE, and ARMED otherwise. -/
theorem armBank_banksSound (h : BanksSound s) (valid : bankState s b = .valid) (other : bankState s b.other ≠ .armed) :
    BanksSound (armBank b s) := by
  have armed := setArmed_banksSound h valid other
  simp only [armBank]
  split
  · exact takeChangeover_banksSound armed
  · exact armed

/-! ## Records that leave, and the notices (R31, R36, R131) -/

/-- After the notices a DRAINING bank is one that was DRAINING and is still named; no other bank has moved. -/
theorem bankState_releaseNotices_sound (h : BanksSound s) (banks : t.banks = s.banks) (k : BankId) :
    bankState (releaseNotices s.chain.records t) k
      = if bankState s k = .draining ∧ bankNamed t k = false then .valid else bankState s k := by
  rw [bankState_releaseNotices, bankState_of_banks banks]
  refine if_congr ⟨fun ⟨drains, _, unnamed⟩ => ⟨drains, unnamed⟩, fun ⟨drains, unnamed⟩ => ?_⟩ rfl rfl
  exact ⟨drains, ((h k).draining drains).2, unnamed⟩

/-- Some of the records have left, and the notices are given for the banks that none names now. -/
theorem releaseNotices_banksSound (h : BanksSound s) (banks : t.banks = s.banks)
    (fewer : ∀ k, bankNamed t k = true → bankNamed s k = true) : BanksSound (releaseNotices s.chain.records t) := by
  have state := bankState_releaseNotices_sound h banks
  have named := bankNamed_of_chain (releaseNotices_chain s.chain.records t)
  have kept : ∀ st, st ≠ .draining → st ≠ .valid → ∀ k,
      bankState (releaseNotices s.chain.records t) k = st ↔ bankState s k = st := by
    intro st drains valid k
    rw [state]
    split
    · rename_i released
      simp [released.1, Ne.symm drains, Ne.symm valid]
    · rfl
  have armed := kept .armed (by decide) (by decide)
  have active := kept .active (by decide) (by decide)
  have empty := kept .empty (by decide) (by decide)
  have staging := kept .staging (by decide) (by decide)
  have draining : ∀ k, bankState (releaseNotices s.chain.records t) k = .draining →
      bankState s k = .draining ∧ bankNamed t k = true := by
    intro k hk
    rw [state] at hk
    split at hk
    · cases hk
    · rename_i unreleased
      refine ⟨hk, ?_⟩
      by_contra unnamed
      exact unreleased ⟨hk, by simpa using unnamed⟩
  intro k
  refine ⟨fun hk => ?_, fun hk => ?_, fun hk => ?_, fun hk => ?_, fun notEmpty notStaging => ?_⟩
  · rw [named] at hk
    rw [state, if_neg (by simp [hk])]
    exact (h k).named (fewer k hk)
  · obtain ⟨drains, names⟩ := draining k hk
    exact ⟨(active _).mpr ((h k).draining drains).1, (named k).trans names⟩
  · obtain ⟨notArmed, notDraining⟩ := (h k).armed ((armed k).mp hk)
    exact ⟨mt (armed _).mp notArmed, fun e => notDraining (draining _ e).1⟩
  · exact mt (active _).mp ((h k).active ((active k).mp hk))
  · rw [fieldsOf_releaseNotices, fieldsOf_of_banks banks]
    exact (h k).checked (mt (empty k).mpr notEmpty) (mt (staging k).mpr notStaging)

theorem leavingStage_banksSound (h : BanksSound s) : BanksSound (leavingStage s) := by
  refine releaseNotices_banksSound h rfl fun k named => ?_
  obtain ⟨r, stays, bank⟩ := (bankNamed_iff _ k).mp named
  exact (bankNamed_iff s k).mpr ⟨r, (List.mem_filter.mp stays).1, bank⟩

theorem discardRecords_banksSound (h : BanksSound s) : BanksSound (discardRecords s) :=
  releaseNotices_banksSound (t := emptied s) h rfl fun k named => by simp [bankNamed_emptied] at named

/-! ## The chain operation (R26 to R31) -/

theorem advanceStage_bankNamed (s : State) (k : BankId) : bankNamed (advanceStage s) k = bankNamed s k := by
  simp [bankNamed, namesBank, advanceStage, Function.comp_def]

/-- R22, R30: the record created names the ACTIVE bank. -/
theorem createRecord_banksSound (h : BanksSound s) : BanksSound (createRecord s) := by
  unfold createRecord
  split
  · exact h
  · rename_i b active
    have named : ∀ k, bankNamed { s with chain := { s.chain with
        records := newRecord s.chain.nextSeq b (fieldsOf s b) :: s.chain.records
        nextSeq := s.chain.nextSeq + 1
        fed := s.chain.fed + 1 } } k = true ↔ b = k ∨ bankNamed s k = true := by
      intro k
      simp [bankNamed, namesBank, newRecord]
    refine h.of_banks rfl (fun k hk => (named k).mpr (.inr hk)) fun k hk => ?_
    rcases (named k).mp hk with rfl | stood
    · exact .inr (bankState_of_bankIn active)
    · exact .inl stood

theorem chainBoundary_banksSound (h : BanksSound s) : BanksSound (chainBoundary s) := by
  have moved : BanksSound (advanceStage (leavingStage s)) :=
    (leavingStage_banksSound h).of_banks rfl (fun k hk => (advanceStage_bankNamed _ k).trans hk)
      fun k hk => .inl ((advanceStage_bankNamed _ k).symm.trans hk)
  rw [chainBoundary, feedStage]
  split
  · exact createRecord_banksSound (takeChangeover_banksSound moved)
  · exact moved

/-! ## The drain completed, and a boundary (R7, R31, R139) -/

theorem completeDrain_banksSound (h : BanksSound s) : BanksSound (completeDrain s) := by
  have left : BanksSound (noSubjects (leaveRunning { s with line.state := .ready })) := h.of_eq rfl rfl
  have closed : BanksSound (if s.line.closeFlag = some true
      then closeBatch .drain (noSubjects (leaveRunning { s with line.state := .ready }))
      else noSubjects (leaveRunning { s with line.state := .ready })) := by
    split
    · exact left.of_eq (closeBatch_banks _ _) (closeBatch_chain _ _)
    · exact left
  rw [completeDrain_eq]
  exact examineLevels_banksSound (takeChangeover_banksSound (closed.of_eq rfl rfl))

theorem chainEmptyNotice_banksSound (h : BanksSound s) : BanksSound (chainEmptyNotice s) := by
  unfold chainEmptyNotice
  split
  · exact h
  · exact takeChangeover_banksSound h
  · exact h
  · exact completeDrain_banksSound h
  · exact h

theorem crossings_banksSound (h : BanksSound s) (level : Bool) (lo hi : Nat) : BanksSound (crossings level lo hi s) :=
  h.of_places (crossings_banks level lo hi s) (crossings_places level lo hi s)

/-- At a boundary only the Pitch Chain and the chain-empty notice touch the banks. -/
theorem doBoundary_banksSound (h : BanksSound s) (n : Nat) (w level : Bool) (t : BoundaryTask) :
    BanksSound (doBoundary n w level t s).2 := by
  cases t with
  | cause c => exact raiseCause_banksSound h c none
  | chain => exact chainBoundary_banksSound h
  | firing => exact h.of_places (firingBoundary_banks n w s) (firingBoundary_places n w s)
  | registration => exact h.of_places (registrationBoundary_banks s) (registrationBoundary_places s)
  | gumFold => exact h.of_places (gumFoldBoundary_banks level s) (gumFoldBoundary_places level s)
  | gate => exact h.of_places (gateCrossing_banks 0 s) (gateCrossing_places 0 s)
  | batch => exact h.of_places (batchBoundary_banks s) (batchBoundary_places s)
  | emptyNotice => exact chainEmptyNotice_banksSound h

theorem pitchBoundary_banksSound (h : BanksSound s) (level : Bool) : BanksSound (pitchBoundary level s) :=
  runFree_induct BanksSound (fun _ => True) (fun _ _ h => h.of_eq rfl rfl)
    (fun t _ _ h => ⟨doBoundary_banksSound h _ _ level t, fun _ _ => trivial⟩) _ _ (closePitch s) (fun _ _ => trivial)
    (h.of_eq rfl rfl)

/-! ## The requests that may take a changeover (R139, R144, R149) -/

theorem beginDrain_banksSound (h : BanksSound s) (close : Bool) : BanksSound (beginDrain close s) := by
  simp only [beginDrain]
  split
  · exact completeDrain_banksSound (h.of_eq rfl rfl)
  · exact h.of_eq rfl rfl

theorem clearHalt_banksSound (h : BanksSound s) : BanksSound (clearHalt s) := by
  simp only [clearHalt]
  split
  · exact takeChangeover_banksSound (h.of_eq rfl rfl)
  · exact h.of_eq rfl rfl

theorem lineReset_banksSound (h : BanksSound s) : BanksSound (lineReset s) := by
  have purged : BanksSound (purgeBatch s) := h.of_eq (purgeBatch_banks s) (purgeBatch_chain s)
  have reset : BanksSound (unitsReset s) := (discardRecords_banksSound purged).of_eq rfl rfl
  rw [lineReset_eq]
  exact examineLevels_banksSound (takeChangeover_banksSound reset)

end

/-! ## Every command -/

theorem bankState_powerOn (a b : Bool) (sensors : Sensors) (choices : Nat) (pending : List Instr) (k : BankId) :
    bankState (.powerOn a b sensors choices pending) k = .empty := by
  cases k <;> rfl

/-- At power-on both banks are EMPTY and no record stands (R133). -/
theorem powerOn_banksSound (a b : Bool) (sensors : Sensors) (choices : Nat) (pending : List Instr) :
    BanksSound (.powerOn a b sensors choices pending) := by
  refine fun k => ⟨nofun, ?_, ?_, ?_, ?_⟩ <;> rw [bankState_powerOn]
  · exact nofun
  · exact nofun
  · exact nofun
  · exact fun notEmpty => absurd rfl notEmpty

theorem conclude_banksSound {s : State} (h : BanksSound s) : BanksSound (conclude s) := by
  cases pin : s.sensors.resetPin with
  | false => rw [conclude_eq s pin]; exact h.of_eq rfl rfl
  | true =>
    have held : underReset s = .powerOn s.shaft.pairA s.shaft.pairB s.sensors s.choices s.pending := by
      simp [underReset, pin]
    rw [conclude, held]
    exact (powerOn_banksSound s.shaft.pairA s.shaft.pairB s.sensors s.choices s.pending).of_eq rfl rfl

/-- The Shaft Tracker's own writes, beside the crossings, boundaries and causes that a shaft event is made of. -/
theorem shaft_banksSound (s : State) (x : Shaft) (h : BanksSound s) : BanksSound { s with shaft := x } :=
  h.of_eq rfl rfl

/-- Every command concludes a state that meets the law. -/
theorem exec_keeps_banksSound (i : Instr) {s : State} (h : BanksSound s) :
    ∃ x, exec i s = .next (conclude x) ∧ BanksSound x := by
  cases i with
  | powerOnReset asserted pair => exact ⟨_, rfl, powerOn_banksSound _ _ _ _ _⟩
  | forwardCountStep elapsed level =>
    exact ⟨_, rfl, forwardCount_induct BanksSound shaft_banksSound (fun v lo hi _ h => crossings_banksSound h v lo hi)
      (fun v _ h => pitchBoundary_banksSound h v) level _ (shaft_banksSound s _ h)⟩
  | backwardCountStep =>
    exact ⟨_, rfl, backwardCount_induct BanksSound (fun _ _ h => h.of_eq rfl rfl) shaft_banksSound
      (fun c _ h => raiseCause_banksSound h c none) _ (shaft_banksSound s _ h)⟩
  | indexEdge elapsed level =>
    exact ⟨_, rfl, indexEdge_induct BanksSound shaft_banksSound (fun v lo hi _ h => crossings_banksSound h v lo hi)
      (fun v _ h => pitchBoundary_banksSound h v) (fun c _ h => raiseCause_banksSound h c none) level _
      (shaft_banksSound s _ h)⟩
  | drain p =>
    refine ⟨_, rfl, ?_⟩
    split
    · exact h.answered _ _ _ _
    · split
      · exact (beginDrain_banksSound h _).answered _ _ _ _
      · exact h.answered _ _ _ _
  | clearHalt p =>
    refine ⟨_, rfl, ?_⟩
    split
    · exact h.answered _ _ _ _
    · split
      · exact (clearHalt_banksSound h).answered _ _ _ _
      · exact h.answered _ _ _ _
  | lineReset p =>
    refine ⟨_, rfl, ?_⟩
    split
    · exact h.answered _ _ _ _
    · split
      · exact (lineReset_banksSound h).answered _ _ _ _
      · exact h.answered _ _ _ _
  | writeBank p =>
    refine ⟨_, rfl, ?_⟩
    split
    · exact h.answered _ _ _ _
    · split
      · exact h.answered _ _ _ _
      · rename_i free
        exact (stageBank_banksSound h (by simpa using free) _).answered _ _ _ _
  | validateBank p =>
    refine ⟨_, rfl, ?_⟩
    split
    · exact h.answered _ _ _ _
    · split
      · rename_i staging
        exact validateStaging_banksSound h staging
      all_goals exact h.answered _ _ _ _
  | armChangeover p =>
    refine ⟨_, rfl, ?_⟩
    split
    · exact h.answered _ _ _ _
    · split
      · rename_i ready
        exact (armBank_banksSound h ready.1 ready.2).answered _ _ _ _
      · exact h.answered _ _ _ _
  | disarm p =>
    refine ⟨_, rfl, ?_⟩
    split
    · exact h.answered _ _ _ _
    · split
      · rename_i armed
        exact (disarm_banksSound h armed).answered _ _ _ _
      · exact h.answered _ _ _ _
  | readTriggers p =>
    refine ⟨_, rfl, h.of_places ?_ ?_⟩ <;> dsimp only <;> (repeat' split) <;> simp
  | _ =>
    -- The other commands write neither the banks nor the places of the records.
    refine ⟨_, rfl, h.of_places ?_ ?_⟩ <;> (repeat' split) <;> simp

/-- Settles O11: the law holds after the front command, whatever it is, and after a tick. -/
theorem stepsKeepTheBankLaw : Obligations.StepsKeepTheBankLaw := by
  intro s t law hstep
  have h := (bankLaw_iff s).mp law
  refine (bankLaw_iff t).mpr ?_
  unfold step at hstep
  split at hstep
  · cases hstep
    unfold tick
    split
    · exact h
    · exact shaft_banksSound s _ h
  · rename_i c rest _
    obtain ⟨x, hx, kept⟩ := exec_keeps_banksSound c (s := { s with pending := rest }) (h.of_eq rfl rfl)
    rw [hx] at hstep
    cases hstep
    exact conclude_banksSound kept

end Sys2Proof.Machine

/-! # The requests that stage, validate, arm and disarm a bank (R123 to R128) -/

namespace Sys2Proof.Machine

/-! ## The arguments (R166) -/

theorem bankArgument_code (b : BankId) : bankArgument [BitVec.ofNat 8 b.code] = some b := by cases b <;> rfl

/-- R166: a number that is no bank's. -/
theorem bankArgument_none {x : Byte} (h : 2 ≤ x.toNat) : bankArgument [x] = none := by
  have number : bankOfCode x.toNat = none := by
    unfold bankOfCode
    split
    · omega
    · omega
    · rfl
  exact number

/-- R123: the bank and the group by their numbers, then values of the group's size. -/
theorem writeBankArgument_codes (b : BankId) (g : FieldGroup) {values : List Byte} (size : values.length = g.size) :
    writeBankArgument (BitVec.ofNat 8 b.code :: BitVec.ofNat 8 g.number :: values) = some (b, g, values) := by
  have bank : b.code % 256 = b.code := by cases b <;> rfl
  have group : g.number % 256 = g.number := Nat.mod_eq_of_lt (fieldGroup_number_lt g)
  simp [writeBankArgument, byteAt, bank, group, bankOfCode_code, fieldGroupOf_number, size]
  omega

section
variable {b : BankId} {s : State}

/-! ## WRITE BANK (R123, R126) -/

theorem exec_writeBank (g : FieldGroup) {values : List Byte} (size : values.length = g.size) :
    exec (.writeBank (BitVec.ofNat 8 b.code :: BitVec.ofNat 8 g.number :: values)) s
      = .next (if (bankState s b).inUse then s.answered .line .writeBank .bankInUse []
          else (stageBank b (writeGroup g values (fieldsOf s b)) s).answered .line .writeBank .ok []) := by
  simp only [exec, execWriteBank, writeBankArgument_codes b g size]
  split <;> rfl

/-! ## VALIDATE BANK (R124) -/

theorem exec_validateBank_staging (staging : bankState s b = .staging) :
    exec (.validateBank [BitVec.ofNat 8 b.code]) s = .next (conclude (validateStaging b s)) := by
  simp only [exec, execValidateBank, bankArgument_code, staging]

theorem exec_validateBank_valid (valid : bankState s b = .valid) :
    exec (.validateBank [BitVec.ofNat 8 b.code]) s = .next (s.answered .line .validateBank .ok []) := by
  simp only [exec, execValidateBank, bankArgument_code, valid, conclude_answer]

theorem exec_validateBank_refused (valid : bankState s b ≠ .valid) (staging : bankState s b ≠ .staging) :
    exec (.validateBank [BitVec.ofNat 8 b.code]) s = .next (s.answered .line .validateBank .wrongState []) := by
  simp only [exec, execValidateBank, bankArgument_code]
  cases state : bankState s b with
  | valid => exact absurd state valid
  | staging => exact absurd state staging
  | empty => rfl
  | armed => rfl
  | active => rfl
  | draining => rfl

/-- R124: a failing check leaves the bank in STAGING, and its code is answered. -/
theorem validateStaging_fails {c : Nat} (fails : firstFailure (bankChecks (fieldsOf s b)) = some c) :
    validateStaging b s = answer .line .validateBank .invalidBank [BitVec.ofNat 8 c] s := by
  rw [validateStaging, fails]
  rfl

theorem validateStaging_passes (passes : firstFailure (bankChecks (fieldsOf s b)) = none) :
    validateStaging b s = answer .line .validateBank .ok [] (setBankState b .valid s) := by
  rw [validateStaging, passes]

/-! ## ARM CHANGEOVER (R127) -/

theorem exec_armChangeover_refused (refused : bankState s b ≠ .valid ∨ bankState s b.other = .armed) :
    exec (.armChangeover [BitVec.ofNat 8 b.code]) s = .next (s.answered .line .armChangeover .wrongState []) := by
  have unready : ¬(bankState s b = .valid ∧ bankState s b.other ≠ .armed) := fun ⟨valid, other⟩ =>
    refused.elim (· valid) other
  simp only [exec, execArmChangeover, bankArgument_code, if_neg unready, conclude_answer]

theorem exec_armChangeover (valid : bankState s b = .valid) (other : bankState s b.other ≠ .armed) :
    exec (.armChangeover [BitVec.ofNat 8 b.code]) s
      = .next ((armBank b s).answered .line .armChangeover .ok
          [BitVec.ofNat 8 (bankState (armBank b s) b).code]) := by
  simp only [exec, execArmChangeover, bankArgument_code, if_pos (And.intro valid other), conclude_answer, leBytes_one]

theorem changeoverAtOnce_iff (s : State) :
    changeoverAtOnce s = true ↔ s.line.state = .config ∨ (s.line.state = .ready ∧ s.chain.records = []) := by
  simp [changeoverAtOnce]

theorem bankState_setArmed (b : BankId) (s : State) : bankState (setBankState b .armed s) b = .armed := by
  rw [bankState_setBankState, if_pos rfl]

theorem armedBank_setArmed (other : bankState s b.other ≠ .armed) :
    armedBank (setBankState b .armed s) = some b :=
  bankIn_eq_some (bankState_setArmed b s) (by rwa [bankState_setBankState, if_neg b.other_ne])

/-- R127: in CONFIG, and in READY with the chain empty, the changeover takes effect at once: the bank is ACTIVE. -/
theorem armBank_atOnce (other : bankState s b.other ≠ .armed)
    (atOnce : s.line.state = .config ∨ (s.line.state = .ready ∧ s.chain.records = [])) :
    armBank b s = takeChangeover (setBankState b .armed s) ∧ bankState (armBank b s) b = .active := by
  have taken : armBank b s = takeChangeover (setBankState b .armed s) := if_pos ((changeoverAtOnce_iff s).mpr atOnce)
  exact ⟨taken, by rw [taken, bankState_takeChangeover (armedBank_setArmed other), if_pos rfl]⟩

/-- R127: elsewhere the bank is ARMED, and the changeover waits. -/
theorem armBank_waits (waits : ¬(s.line.state = .config ∨ (s.line.state = .ready ∧ s.chain.records = []))) :
    armBank b s = setBankState b .armed s :=
  if_neg (mt (changeoverAtOnce_iff s).mp waits)

/-! ## DISARM (R128) -/

theorem exec_disarm (armed : bankState s b = .armed) :
    exec (.disarm [BitVec.ofNat 8 b.code]) s
      = .next ((setBankState b .valid s).answered .line .disarm .ok []) := by
  simp only [exec, execDisarm, bankArgument_code, if_pos armed, conclude_answer]

theorem exec_disarm_refused (unarmed : bankState s b ≠ .armed) :
    exec (.disarm [BitVec.ofNat 8 b.code]) s = .next (s.answered .line .disarm .wrongState []) := by
  simp only [exec, execDisarm, bankArgument_code, if_neg unarmed, conclude_answer]

end

/-! ## A number that is no bank's, and who may send them (R153, R155) -/

theorem exec_armChangeover_badArgument {x : Byte} (h : 2 ≤ x.toNat) (s : State) :
    exec (.armChangeover [x]) s = .next (s.answered .line .armChangeover .badArgument []) := by
  simp only [exec, execArmChangeover, bankArgument_none h]
  rfl

theorem exec_disarm_badArgument {x : Byte} (h : 2 ≤ x.toNat) (s : State) :
    exec (.disarm [x]) s = .next (s.answered .line .disarm .badArgument []) := by
  simp only [exec, execDisarm, bankArgument_none h]
  rfl

theorem changeover_acceptedOn_iff {c : Command} (h : c = .armChangeover ∨ c = .disarm) (l : Link) :
    c.acceptedOn l = true ↔ l = .line := by
  rcases h with rfl | rfl <;> exact beq_iff_eq

/-- Settles O45: WRITE BANK by whether the bank is in use, VALIDATE BANK by the bank's state and its first failing
check. -/
theorem banksAreStagedAndValidated : Obligations.BanksAreStagedAndValidated := by
  intro b g values s size
  refine ⟨fun used => ?_, fun free => ?_, exec_validateBank_valid, exec_validateBank_refused,
    fun staging => ⟨fun c fails => ?_, fun passes => ?_⟩⟩
  · rw [exec_writeBank g size, if_pos ((inUse_iff _).mpr used)]
  · have unused : ¬(bankState s b).inUse = true := by rcases free with e | e | e <;> rw [e] <;> decide
    rw [exec_writeBank g size, if_neg unused]
    rfl
  · rw [exec_validateBank_staging staging, validateStaging_fails fails, conclude_answer]
  · rw [exec_validateBank_staging staging, validateStaging_passes passes, conclude_answer]
    rfl

/-- Settles O46: who may send the two, numbers that are no bank's, ARM CHANGEOVER by whether the changeover takes effect
at once, DISARM by the bank's state. -/
theorem changeoversAreArmedAndDisarmed : Obligations.ChangeoversAreArmedAndDisarmed := by
  refine ⟨fun l => ⟨changeover_acceptedOn_iff (.inl rfl) l, changeover_acceptedOn_iff (.inr rfl) l⟩,
    fun x s number => ⟨exec_armChangeover_badArgument number s, exec_disarm_badArgument number s⟩, fun b s =>
    ⟨exec_armChangeover_refused, fun valid other => ⟨fun atOnce => ?_, fun waits => ?_⟩, exec_disarm,
      exec_disarm_refused⟩⟩
  · obtain ⟨taken, active⟩ := armBank_atOnce other atOnce
    rw [exec_armChangeover valid other, active, taken]
    rfl
  · rw [exec_armChangeover valid other, armBank_waits waits, bankState_setArmed]
    rfl

end Sys2Proof.Machine

/-! # The entry to HALT and the commands that raise a cause (R9, R55, R57, R63, R82, R85, R140 to R143) -/

namespace Sys2Proof.Machine

/-! ## The entry to HALT -/

/-- R24, R142: DISTURBED joins the reasons of a record in the zone whose fate is still open. -/
theorem disturb_eq (g : Geometry) (r : Record) :
    (if g.zoneFirst ≤ r.position ∧ r.position ≤ g.zoneLast then r.addReason .disturbed else r)
      = if g.zoneFirst ≤ r.position ∧ r.position ≤ g.zoneLast ∧ r.fate = .undecided then
          { r with reasons := maskAdd r.reasons Reason.disturbed.index } else r := by
  rw [Record.addReason, ← ite_and]
  simp only [and_assoc]

theorem markZone_eq (s : State) :
    markZone s = { s with chain.records := s.chain.records.map fun r =>
      if s.geometry.zoneFirst ≤ r.position ∧ r.position ≤ s.geometry.zoneLast ∧ r.fate = .undecided then
        { r with reasons := maskAdd r.reasons Reason.disturbed.index } else r } := by
  simp only [markZone, disturb_eq]

/-- From READY an entry to HALT drops nothing: the line was at rest (R141). -/
theorem enterHalt_idle {s : State} (idle : s.line.state.running = false) (c : HaltCause) (l : Option Link) :
    enterHalt c l s = { s with
      shaft := { s.shaft with periodValid := false, timingQualified := false }
      line := { s.line with haltRecord := haltEntryRecord c l s, closeFlag := none, state := .halt }
      ports := portsPosted [.halted] s.ports } := by
  simp only [enterHalt, idle]
  rfl

/-- From RUN and DRAIN an entry to HALT marks the disturbed zone and drops everything in flight (R55, R57, R63, R82, R85,
R142). -/
theorem enterHalt_running {s : State} (running : s.line.state.running = true) (c : HaltCause) (l : Option Link) :
    enterHalt c l s = { s with
      shaft := { s.shaft with periodValid := false, timingQualified := false }
      chain := (markZone s).chain
      firing := { s.firing with held := .all [], planningContinuous := false, gateHold := false }
      registration := { s.registration with markWindow := .shut, patchOpen := false }
      gumFold := { s.gumFold with foldOpen := false, progress := [] }
      line := { s.line with haltRecord := haltEntryRecord c l s, closeFlag := none, state := .halt }
      ports := portsPosted [.halted] s.ports } := by
  simp only [enterHalt, running]
  rfl

/-- Settles O27: nothing in CONFIG, a further cause in HALT, and the entry to HALT by whether the line was running. -/
theorem haltCauseEntersHalt : Obligations.HaltCauseEntersHalt := by
  refine fun c l s => ⟨fun config => raiseCause_in_config config c l, fun halted => raiseCause_in_halt halted c l,
    fun config halted => ?_⟩
  intro running
  rw [raiseCause_enters config halted]
  by_cases h : running
  · rw [enterHalt_running ((running_iff _).mpr h), markZone_eq]
    simp only [if_pos h]
    rfl
  · rw [enterHalt_idle (by simpa using mt (running_iff _).mp h)]
    simp only [if_neg h]
    rfl

/-! ## ESTOP_CHANGE, JAM_CHANGE and HALT (R140) -/

/-- A halt cause outside CONFIG: the line is in HALT, and the cause stands first or joins the further ones (R140, R141,
R143). -/
theorem raiseCause_halts {s : State} (config : s.line.state ≠ .config) (c : HaltCause) (l : Option Link) :
    (raiseCause c l s).line.state = .halt
      ∧ (s.line.state ≠ .halt → (raiseCause c l s).line.haltRecord = haltEntryRecord c l s)
      ∧ (s.line.state = .halt →
          (raiseCause c l s).line.haltRecord.further = maskAdd s.line.haltRecord.further c.index) := by
  refine ⟨by rw [raiseCause_line_state, if_neg config], fun halted => ?_, fun halted => ?_⟩
  · rw [raiseCause_enters config halted, enterHalt_line]
  · rw [raiseCause_in_halt halted]

/-- What a change of a level does from the state `x` with the new level in it: a level that becomes active raises its cause
(R140). -/
def levelChanged (c : HaltCause) (level was : Bool) (x : State) : State :=
  if level = true ∧ was = false then raiseCause c none x else x

theorem exec_estopChange (level : Bool) (s : State) :
    exec (.estopChange level) s
      = .next (conclude (levelChanged .estop level s.sensors.estop { s with sensors.estop := level })) := rfl

theorem exec_jamChange (level : Bool) (s : State) :
    exec (.jamChange level) s
      = .next (conclude (levelChanged .jam level s.sensors.jam { s with sensors.jam := level })) := rfl

@[simp] theorem levelChanged_sensors (c : HaltCause) (level was : Bool) (x : State) :
    (levelChanged c level was x).sensors = x.sensors := by
  unfold levelChanged; split <;> simp

theorem levelChanged_halts {c : HaltCause} {level was : Bool} {x : State} (pin : x.sensors.resetPin = false)
    (raises : level = true ∧ was = false ∧ x.line.state ≠ .config) :
    (let line := (conclude (levelChanged c level was x)).line
     line.state = .halt
      ∧ (x.line.state ≠ .halt → line.haltRecord.firstCause = some c ∧ line.haltRecord.further = 0
          ∧ line.haltRecord.stateLeft = some x.line.state)
      ∧ (x.line.state = .halt → line.haltRecord.further = maskAdd x.line.haltRecord.further c.index)) := by
  obtain ⟨on, off, config⟩ := raises
  obtain ⟨state, entered, joined⟩ := raiseCause_halts config c none
  rw [conclude_line _ (by simpa using pin), levelChanged, if_pos ⟨on, off⟩]
  refine ⟨state, fun halted => ?_, joined⟩
  rw [entered halted]
  exact ⟨rfl, rfl, rfl⟩

/-- A level that goes inactive or was active already raises no cause, and in CONFIG none is raised (R140, log 12). -/
theorem levelChanged_quiet {c : HaltCause} {level was : Bool} {x : State}
    (quiet : level = false ∨ was = true ∨ x.line.state = .config) : levelChanged c level was x = x := by
  unfold levelChanged
  split
  · rename_i raises
    rcases quiet with h | h | h
    · simp [h] at raises
    · simp [h] at raises
    · exact raiseCause_in_config h c none
  · rfl

theorem exec_halt_config (l : Link) {s : State} (config : s.line.state = .config) :
    exec (.halt l []) s = .next (s.answered l .halt .wrongState []) := by
  simp only [exec, execHalt, noArguments, if_true, if_pos config, conclude_answer]

theorem exec_halt_raises (l : Link) {s : State} (config : s.line.state ≠ .config) :
    exec (.halt l []) s = .next ((raiseCause .haltCommand (some l) s).answered l .halt .ok []) := by
  simp only [exec, execHalt, noArguments, if_true, if_neg config, conclude_answer]

/-- What an answer leaves, with the reset pin released: all but the port of its link and the pins (R153). -/
theorem answered_line {s : State} (pin : s.sensors.resetPin = false) (l : Link) (c : Command) (status : Status)
    (payload : List Byte) : (s.answered l c status payload).line = s.line :=
  conclude_line _ pin

theorem answered_ports {s : State} (pin : s.sensors.resetPin = false) (l : Link) (c : Command) (status : Status)
    (payload : List Byte) : (s.answered l c status payload).ports = portsAnswered l c status payload [] s.ports :=
  conclude_ports _ pin

theorem enterHalt_ports (c : HaltCause) (l : Option Link) (s : State) :
    (enterHalt c l s).ports = portsPosted [.halted] s.ports := by
  cases running : s.line.state.running
  · rw [enterHalt_idle running]
  · rw [enterHalt_running running]

/-- Settles O28: each level by whether it becomes active, HALT by the line state. -/
theorem estopJamAndHaltRaiseTheirCauses : Obligations.EstopJamAndHaltRaiseTheirCauses := by
  intro level l s pin
  refine ⟨⟨_, exec_estopChange level s, by simp,
      levelChanged_halts (x := { s with sensors.estop := level }) pin, fun quiet => ?_⟩,
    ⟨_, exec_jamChange level s, by simp,
      levelChanged_halts (x := { s with sensors.jam := level }) pin, fun quiet => ?_⟩,
    exec_halt_config l, fun halted => ?_,
    fun config halted => ?_⟩
  · exact congrArg conclude (levelChanged_quiet quiet)
  · exact congrArg conclude (levelChanged_quiet quiet)
  · rw [exec_halt_raises l (by simp [halted]), raiseCause_in_halt halted]
    rfl
  · have pin' : (raiseCause .haltCommand (some l) s).sensors.resetPin = false := by simpa using pin
    refine ⟨_, exec_halt_raises l config, ?_⟩
    rw [answered_line pin', answered_ports pin', raiseCause_enters config halted, enterHalt_line, enterHalt_ports]
    exact ⟨rfl, rfl, rfl, rfl, rfl⟩

end Sys2Proof.Machine

/-! # Holds of the feed and of the stations (R145 to R148) -/

namespace Sys2Proof.Machine

/-! ## The feed holds of the links (R146, R148) -/

theorem holdOf_index (l : Link) : (holdOf l).index = 3 + linkIndex l := by cases l <;> rfl

/-- R145: a cause added; FEED_INHIBITED is posted where the set was empty in RUN. -/
theorem addFeedCause_eq (c : FeedCause) (s : State) :
    addFeedCause c s = { s with
      line.feedInhibit := maskAdd s.line.feedInhibit c.index
      ports := portsPosted (if s.line.feedInhibit = 0 ∧ s.line.state = .run then [.feedInhibited] else []) s.ports } := by
  unfold addFeedCause
  split <;> rfl

/-- R148: without the three link holds the causes of the units are left. -/
theorem maskRemove_holds (m : BitVec 6) :
    maskRemove (maskRemove (maskRemove m FeedCause.holdLine.index) FeedCause.holdInspection.index)
      FeedCause.holdPacker.index = m &&& 7 := by
  simp only [maskRemove, BitVec.and_assoc]
  rfl

theorem exec_feedHold (l : Link) (s : State) :
    exec (.feedHold l []) s = .next ((addFeedCause (holdOf l) s).answered l .feedHold .ok []) := rfl

theorem exec_feedRelease (l : Link) (s : State) :
    exec (.feedRelease l []) s = .next ((removeFeedCause (holdOf l) s).answered l .feedRelease .ok []) := rfl

theorem exec_clearHolds (s : State) :
    exec (.clearHolds []) s = .next ((clearHolds s).answered .line .clearHolds .ok []) := rfl

/-! ## The holder sets of the stations (R147) -/

/-- The holder sets with a function of the set applied at the stations that a number of R164 names. -/
def holdersChanged (k : Nat) (f : BitVec 3 → BitVec 3) (h : PerStation (BitVec 3)) : PerStation (BitVec 3) where
  patch := if k = 0 ∨ k = 3 then f h.patch else h.patch
  gum := if k = 1 ∨ k = 3 then f h.gum else h.gum
  inspect := if k = 2 ∨ k = 3 then f h.inspect else h.inspect

/-- The stations by their number: one alone, or all three (R164). -/
theorem stationArgument_changes {k : Nat} (h : k ≤ 3) :
    ∃ stations, stationArgument [BitVec.ofNat 8 k] = some stations
      ∧ ∀ f s, changeHolders f stations s = { s with line.holders := holdersChanged k f s.line.holders } := by
  obtain rfl | rfl | rfl | rfl : k = 0 ∨ k = 1 ∨ k = 2 ∨ k = 3 := by omega
  all_goals exact ⟨_, rfl, fun f s => rfl⟩

theorem exec_inhibitStation (l : Link) {k : Nat} (h : k ≤ 3) (s : State) :
    exec (.inhibitStation l [BitVec.ofNat 8 k]) s = .next (State.answered
      { s with line.holders := holdersChanged k (fun m => maskAdd m (linkIndex l)) s.line.holders }
      l .inhibitStation .ok []) := by
  obtain ⟨stations, argument, changed⟩ := stationArgument_changes h
  simp only [exec, execInhibitStation, argument, changed, conclude_answer]

theorem exec_releaseStation (l : Link) {k : Nat} (h : k ≤ 3) (s : State) :
    exec (.releaseStation l [BitVec.ofNat 8 k]) s = .next (State.answered
      { s with line.holders := holdersChanged k (fun m => maskRemove m (linkIndex l)) s.line.holders }
      l .releaseStation .ok []) := by
  obtain ⟨stations, argument, changed⟩ := stationArgument_changes h
  simp only [exec, execReleaseStation, argument, changed, conclude_answer]

/-- Settles O37: who may send them, the feed holds, the three holds cleared, and the holder sets by the station's
number. -/
theorem holdsBelongToTheirLinks : Obligations.HoldsBelongToTheirLinks := by
  refine ⟨fun l => ⟨rfl, rfl, beq_iff_eq⟩, fun l s => ⟨?_, ?_, ?_⟩, fun l k s h =>
    ⟨exec_inhibitStation l h s, exec_releaseStation l h s⟩⟩
  · rw [exec_feedHold, addFeedCause_eq, holdOf_index]
    rfl
  · rw [exec_feedRelease, removeFeedCause, holdOf_index]
    rfl
  · rw [exec_clearHolds, clearHolds]
    simp only [removeFeedCause, maskRemove_holds]

end Sys2Proof.Machine

/-! # START and CLEAR HALT (R9, R57, R138, R144, R145) -/

namespace Sys2Proof.Machine

section
variable {s : State}

/-- R138, R145: the line starts, and FEED_INHIBITED is posted where the feed is inhibited. -/
theorem startLine_eq (s : State) :
    startLine s = { s with
      shaft := { s.shaft with periodValid := false, timingQualified := false }
      firing := { s.firing with gateHold := true }
      line := { s.line with state := .run }
      ports := portsPosted (if s.line.feedInhibit = 0 then [] else [.feedInhibited]) s.ports } := by
  change (if s.line.feedInhibit = 0 then _ else _) = _
  split <;> rfl

theorem exec_start_refused (refused : s.line.state ≠ .ready ∨ activeBank s = none) :
    exec (.start []) s = .next (s.answered .line .start .wrongState []) := by
  have unable : ¬(s.line.state = .ready ∧ (activeBank s).isSome = true) := by
    rintro ⟨ready, active⟩
    rcases refused with h | h
    · exact h ready
    · simp [h] at active
  simp only [exec, execStart, noArguments, if_true, if_neg unable, conclude_answer]

theorem exec_start (ready : s.line.state = .ready) (active : activeBank s ≠ none) :
    exec (.start []) s = .next ((startLine s).answered .line .start .ok []) := by
  have able : s.line.state = .ready ∧ (activeBank s).isSome = true := ⟨ready, Option.isSome_iff_ne_none.mpr active⟩
  simp only [exec, execStart, noArguments, if_true, if_pos able, conclude_answer]

theorem exec_clearHalt_refused (refused : s.line.state ≠ .halt ∨ s.sensors.estop = true ∨ s.sensors.jam = true) :
    exec (.clearHalt []) s = .next (s.answered .line .clearHalt .wrongState []) := by
  have unable : ¬(s.line.state = .halt ∧ s.sensors.estop = false ∧ s.sensors.jam = false) := by
    rintro ⟨halted, estop, jam⟩
    rcases refused with h | h | h
    · exact h halted
    · simp [h] at estop
    · simp [h] at jam
  simp only [exec, execClearHalt, noArguments, if_true, if_neg unable, conclude_answer]

theorem exec_clearHalt (halted : s.line.state = .halt) (estop : s.sensors.estop = false) (jam : s.sensors.jam = false) :
    exec (.clearHalt []) s = .next ((clearHalt s).answered .line .clearHalt .ok []) := by
  have able : s.line.state = .halt ∧ s.sensors.estop = false ∧ s.sensors.jam = false := ⟨halted, estop, jam⟩
  simp only [exec, execClearHalt, noArguments, if_true, if_pos able, conclude_answer]

end

/-- Settles O42: who may send them, START by the line state and the active bank, CLEAR HALT by the line state and the
levels. -/
theorem startRunsAndClearHaltReadies : Obligations.StartRunsAndClearHaltReadies := by
  refine ⟨fun l => ⟨beq_iff_eq, beq_iff_eq⟩, fun s => ⟨exec_start_refused, fun ready active => ?_⟩,
    fun s => ⟨exec_clearHalt_refused, fun halted estop jam => exec_clearHalt halted estop jam⟩⟩
  rw [exec_start ready active, startLine_eq]
  rfl

end Sys2Proof.Machine

/-! # The checks of the geometry and of a bank, each by its code (R122, R124, R136) -/

namespace Sys2Proof.Machine

/-! ## The first failing check -/

/-- The codes of a list of checks stand in ascending order. -/
def AscendingCodes (checks : List (Nat × Bool)) : Prop := (checks.map Prod.fst).Pairwise (· < ·)

theorem firstFailure_some {checks : List (Nat × Bool)} (ascending : AscendingCodes checks) {code : Nat}
    (fails : firstFailure checks = some code) :
    (code, false) ∈ checks ∧ ∀ x ∈ checks, x.1 < code → x.2 = true := by
  obtain ⟨⟨c, v⟩, found, rfl⟩ := Option.map_eq_some_iff.mp fails
  obtain ⟨failed, before, after, rfl, held⟩ := List.find?_eq_some_iff_append.mp found
  obtain rfl : v = false := by simpa using failed
  refine ⟨by simp, fun x mem lower => ?_⟩
  rcases List.mem_append.mp mem with h | h
  · simpa using held x h
  · have later : ∀ y ∈ after, c < y.1 := fun y mem => by
      rw [AscendingCodes, List.map_append] at ascending
      exact (List.pairwise_cons.mp (List.pairwise_append.mp ascending).2.1).1 y.1 (List.mem_map_of_mem mem)
    rcases List.mem_cons.mp h with rfl | h
    · exact absurd lower (Nat.lt_irrefl _)
    · exact absurd lower (Nat.lt_asymm (later x h))

/-- The checks of the single fields, then two for each channel, from codes 32 and 33 on. -/
def withChannels (fields : List (Nat × Bool)) (first second : Channel → Bool) : List (Nat × Bool) :=
  fields ++ Channel.all.flatMap fun ch => [(32 + 2 * ch.number, first ch), (33 + 2 * ch.number, second ch)]

theorem firstFailure_withChannels (fields : List (Nat × Bool)) (first second : Channel → Bool) :
    firstFailure (withChannels fields first second) = none
      ↔ (∀ c ∈ fields, c.2 = true) ∧ ∀ ch, first ch = true ∧ second ch = true := by
  rw [firstFailure_none_iff, withChannels, List.forall_mem_append]
  refine and_congr_right fun _ => ⟨fun h ch => ⟨?_, ?_⟩, fun h c mem => ?_⟩
  · exact h (32 + 2 * ch.number, first ch) (List.mem_flatMap.mpr ⟨ch, ch.mem_all, by simp⟩)
  · exact h (33 + 2 * ch.number, second ch) (List.mem_flatMap.mpr ⟨ch, ch.mem_all, by simp⟩)
  · obtain ⟨ch, -, row⟩ := List.mem_flatMap.mp mem
    rcases List.mem_pair.mp row with rfl | rfl
    · exact (h ch).1
    · exact (h ch).2

theorem mem_withChannels (fields : List (Nat × Bool)) (first second : Channel → Bool) (code : Nat) (holds : Bool) :
    (code, holds) ∈ withChannels fields first second ↔ (code, holds) ∈ fields
      ∨ ∃ ch : Channel, (code = 32 + 2 * ch.number ∧ holds = first ch)
          ∨ (code = 33 + 2 * ch.number ∧ holds = second ch) := by
  simp [withChannels, Channel.mem_all]

/-! ## COMMIT GEOMETRY (R136) -/

theorem cppValid_eq (n : Nat) : cppValid n = decide (512 ≤ n ∧ n ≤ 16384 ∧ n % 4 = 0) :=
  Bool.eq_iff_iff.mpr ((cppValid_iff n).trans (by simp))

/-- The checks of the single fields of the geometry, in the order of their codes (R136). -/
def geometryFieldChecks (g : Geometry) : List (Nat × Bool) :=
  [(1, decide (512 ≤ g.cpp ∧ g.cpp ≤ 16384 ∧ g.cpp % 4 = 0)), (2, decide (g.indexCheck ≤ 1)),
    (3, decide (g.indexCount < g.cpp)), (4, decide (1 ≤ g.posMark ∧ g.posMark ≤ 47)),
    (5, decide (1 ≤ g.posCut ∧ g.posCut ≤ 47 ∧ g.posMark < g.posCut)),
    (6, decide (1 ≤ g.posPatch ∧ g.posPatch ≤ 47 ∧ g.posCut < g.posPatch)),
    (7, decide (1 ≤ g.posGum ∧ g.posGum ≤ 47 ∧ g.posPatch < g.posGum)),
    (8, decide (1 ≤ g.posFold ∧ g.posFold ≤ 47 ∧ g.posGum < g.posFold)),
    (9, decide (1 ≤ g.posInspect ∧ g.posInspect ≤ 47 ∧ g.posFold < g.posInspect)),
    (10, decide (1 ≤ g.posGate ∧ g.posGate ≤ 47 ∧ g.posInspect < g.posGate)),
    (11, decide (1 ≤ g.posCount ∧ g.posCount ≤ 47 ∧ g.posGate < g.posCount)),
    (12, decide (g.zoneFirst ≤ g.zoneLast)), (13, decide (g.zoneLast < g.posGate))]

theorem geometryChecks_eq (g : Geometry) :
    geometryChecks g = withChannels (geometryFieldChecks g)
      (fun ch => decide (g.dtOn.get ch ≤ 20000)) (fun ch => decide (g.dtOff.get ch ≤ 20000)) := by
  rw [geometryChecks, cppValid_eq]
  rfl

theorem geometryChecks_ascending (g : Geometry) : AscendingCodes (geometryChecks g) := by
  have codes : (geometryChecks g).map Prod.fst = List.range' 1 13 ++ List.range' 32 20 := rfl
  rw [AscendingCodes, codes]
  decide

theorem geometryFields_hold_iff (g : Geometry) :
    (∀ c ∈ geometryFieldChecks g, c.2 = true) ↔
      (512 ≤ g.cpp ∧ g.cpp ≤ 16384 ∧ 4 ∣ g.cpp) ∧ g.indexCheck ≤ 1 ∧ g.indexCount < g.cpp
        ∧ 1 ≤ g.posMark ∧ g.posMark < g.posCut ∧ g.posCut < g.posPatch ∧ g.posPatch < g.posGum ∧ g.posGum < g.posFold
        ∧ g.posFold < g.posInspect ∧ g.posInspect < g.posGate ∧ g.posGate < g.posCount ∧ g.posCount ≤ 47
        ∧ g.zoneFirst ≤ g.zoneLast ∧ g.zoneLast < g.posGate := by
  simp only [geometryFieldChecks, List.forall_mem_cons, decide_eq_true_eq, List.not_mem_nil, false_imp_iff, implies_true,
    and_true, Nat.dvd_iff_mod_eq_zero]
  omega

/-! ## VALIDATE BANK (R122, R124) -/

theorem windowValid_eq (w : ChannelFields) :
    windowValid w = decide (w.onPhase < w.offPhase ∧ w.offPhase ≤ 4095
      ∧ 16 ≤ (w.offPhase : Int) - w.onPhase ∧ (w.offPhase : Int) - w.onPhase ≤ 2048) := by
  rw [windowValid, decide_eq_decide]
  omega

/-- The checks of the single fields of a bank, in the order of their codes (R124). -/
def bankFieldChecks (f : BankFields) : List (Nat × Bool) :=
  [(1, decide (f.inspectEnable ≤ 1)), (2, decide (f.noVerdictFate ≤ 1)),
    (3, decide (f.gateDecide ≤ 4095)), (4, decide (f.countPhase ≤ 4095)), (5, decide (f.windowEnable ≤ 1)),
    (6, decide (f.markExpected ≤ 4095)), (7, decide (f.markOpen < f.markClose ∧ f.markClose ≤ 4095)),
    (8, decide (f.tol ≤ 1024)), (9, decide (f.shiftMax ≤ 512)),
    (10, decide (1 ≤ f.driftAlert ∧ f.driftAlert ≤ 1024)),
    (11, decide (f.patchCheckOpen < f.patchCheckClose ∧ f.patchCheckClose ≤ 4095)),
    (12, decide (f.gumSeamEnable ≤ 1)), (13, decide (f.gumFlapEnable ≤ 1)),
    (14, decide (f.skipGumOnReject ≤ 1)), (15, decide (f.foldCheckEnable ≤ 1)),
    (16, decide (f.foldOpen < f.foldClose ∧ f.foldClose ≤ 4095))]

theorem bankChecks_eq (f : BankFields) :
    bankChecks f = withChannels (bankFieldChecks f) (fun ch => decide ((f.channels.get ch).enable ≤ 1))
      (fun ch => windowValid (f.channels.get ch)) := rfl

theorem bankChecks_ascending (f : BankFields) : AscendingCodes (bankChecks f) := by
  have codes : (bankChecks f).map Prod.fst = List.range' 1 16 ++ List.range' 32 20 := rfl
  rw [AscendingCodes, codes]
  decide

theorem bankFields_hold_iff (f : BankFields) :
    (∀ c ∈ bankFieldChecks f, c.2 = true) ↔
      (∀ v ∈ [f.inspectEnable, f.noVerdictFate, f.windowEnable, f.gumSeamEnable, f.gumFlapEnable, f.skipGumOnReject,
          f.foldCheckEnable], v ≤ 1)
        ∧ (∀ v ∈ [f.gateDecide, f.countPhase, f.markExpected], v ≤ 4095)
        ∧ (f.markOpen < f.markClose ∧ f.markClose ≤ 4095)
        ∧ (f.patchCheckOpen < f.patchCheckClose ∧ f.patchCheckClose ≤ 4095)
        ∧ (f.foldOpen < f.foldClose ∧ f.foldClose ≤ 4095)
        ∧ f.tol ≤ 1024 ∧ f.shiftMax ≤ 512 ∧ 1 ≤ f.driftAlert ∧ f.driftAlert ≤ 1024 := by
  simp only [bankFieldChecks, List.forall_mem_cons, decide_eq_true_eq, List.not_mem_nil, false_imp_iff, implies_true,
    and_true]
  omega

/-- R122: a channel that passes its two checks, in the words of the obligation. -/
theorem channel_holds_iff (w : ChannelFields) :
    decide (w.enable ≤ 1) = true ∧ windowValid w = true ↔
      w.enable ≤ 1 ∧ w.offPhase ≤ 4095 ∧ w.onPhase + 16 ≤ w.offPhase ∧ w.offPhase ≤ w.onPhase + 2048 := by
  rw [windowValid, decide_eq_true_iff, decide_eq_true_iff]
  omega

/-- Settles O40: each list of checks is that of the rule's table, its codes ascend, and its rows together say the
ranges. -/
theorem checksFindTheFirstFailure : Obligations.ChecksFindTheFirstFailure := by
  refine ⟨fun g => ⟨?_, fun code => firstFailure_some (geometryChecks_ascending g)⟩, fun g code holds => ?_,
    fun f => ⟨?_, fun code => firstFailure_some (bankChecks_ascending f)⟩, fun f code holds => ?_, fun ch => ?_⟩
  · rw [geometryChecks_eq, firstFailure_withChannels, geometryFields_hold_iff]
    simp only [decide_eq_true_eq, and_assoc]
  · rw [geometryChecks_eq]
    exact mem_withChannels (geometryFieldChecks g) _ _ code holds
  · rw [bankChecks_eq, firstFailure_withChannels, bankFields_hold_iff]
    simp only [channel_holds_iff, and_assoc]
  · rw [bankChecks_eq, mem_withChannels]
    simp only [windowValid_eq]
    rfl
  · cases ch <;> rfl

end Sys2Proof.Machine

/-! # The stored records travel whole (R123, R125, R135, R168) -/

namespace Sys2Proof.Machine

/-! ## The geometry record (R135, R168) -/

/-- The geometry record as WRITE GEOMETRY carries it, field after field (R168). -/
def geometryRecord (g : Geometry) : List Byte :=
  leBytes 2 g.cpp ++ leBytes 1 g.indexCheck ++ leBytes 2 g.indexCount
    ++ [g.posMark, g.posCut, g.posPatch, g.posGum, g.posFold, g.posInspect, g.posGate, g.posCount, g.zoneFirst,
        g.zoneLast].flatMap (leBytes 1)
    ++ Channel.all.flatMap fun ch => leBytes 2 (g.dtOn.get ch) ++ leBytes 2 (g.dtOff.get ch)

/-- A number in its one byte (R164). -/
theorem byteAt_byte {n : Nat} (h : n < 256) : byteAt [BitVec.ofNat 8 n] 0 = n := by
  simpa [byteAt] using h

/-- R168: the dead times of a channel stand at 15 + 4 × its number and two bytes on. -/
theorem geometryRecord_deadTimes {g : Geometry} {ch : Channel} (on : g.dtOn.get ch < 65536)
    (off : g.dtOff.get ch < 65536) :
    wordAt (geometryRecord g) (15 + 4 * ch.number) = g.dtOn.get ch
      ∧ wordAt (geometryRecord g) (17 + 4 * ch.number) = g.dtOff.get ch := by
  have onWord := wordAt_bytes (Nat.le_of_lt_succ on)
  have offWord := wordAt_bytes (Nat.le_of_lt_succ off)
  cases ch <;> exact ⟨onWord, offWord⟩

/-- R135: a record whose fields fit the layout is read back as it was. -/
theorem geometryArgument_record {g : Geometry} (words : ∀ v ∈ [g.cpp, g.indexCount], v < 65536)
    (bytes : ∀ v ∈ [g.indexCheck, g.posMark, g.posCut, g.posPatch, g.posGum, g.posFold, g.posInspect, g.posGate,
      g.posCount, g.zoneFirst, g.zoneLast], v < 256)
    (times : ∀ ch : Channel, g.dtOn.get ch < 65536 ∧ g.dtOff.get ch < 65536) :
    geometryArgument (geometryRecord g) = some g := by
  have word : ∀ v ∈ [g.cpp, g.indexCount], wordAt [BitVec.ofNat 8 v, BitVec.ofNat 8 (v / 256)] 0 = v :=
    fun v mem => wordAt_bytes (Nat.le_of_lt_succ (words v mem))
  have byte : ∀ v ∈ [g.indexCheck, g.posMark, g.posCut, g.posPatch, g.posGum, g.posFold, g.posInspect, g.posGate,
      g.posCount, g.zoneFirst, g.zoneLast], byteAt [BitVec.ofNat 8 v] 0 = v := fun v mem => byteAt_byte (bytes v mem)
  simp only [List.forall_mem_cons] at word byte
  obtain ⟨cpp, indexCount, -⟩ := word
  obtain ⟨indexCheck, posMark, posCut, posPatch, posGum, posFold, posInspect, posGate, posCount, zoneFirst, zoneLast, -⟩
    := byte
  have dtOn : PerChannel.ofFn (fun ch => wordAt (geometryRecord g) (15 + 4 * ch.number)) = g.dtOn :=
    PerChannel.ext_get fun ch => by
      rw [PerChannel.get_ofFn, (geometryRecord_deadTimes (times ch).1 (times ch).2).1]
  have dtOff : PerChannel.ofFn (fun ch => wordAt (geometryRecord g) (17 + 4 * ch.number)) = g.dtOff :=
    PerChannel.ext_get fun ch => by
      rw [PerChannel.get_ofFn, (geometryRecord_deadTimes (times ch).1 (times ch).2).2]
  have length : (geometryRecord g).length = 55 := rfl
  rw [geometryArgument, if_pos length]
  change some (Geometry.mk ..) = some (Geometry.mk ..)
  rw [Option.some.injEq, Geometry.mk.injEq]
  exact ⟨cpp, indexCheck, indexCount, posMark, posCut, posPatch, posGum, posFold, posInspect, posGate, posCount, zoneFirst,
    zoneLast, dtOn, dtOff⟩

/-! ## The groups of bank fields (R123, R125, R168) -/

theorem leBytes_byteAt (v : List Byte) (i : Nat) : leBytes 1 (byteAt v i) = [v.getD i 0] := by
  simp [leBytes_one, byteAt]

theorem leBytes_wordAt (v : List Byte) (i : Nat) : leBytes 2 (wordAt v i) = [v.getD i 0, v.getD (i + 1) 0] := by
  have low : BitVec.ofNat 8 (wordAt v i) = v.getD i 0 := by
    apply BitVec.eq_of_toNat_eq
    simp [wordAt, byteAt]
    omega
  have high : BitVec.ofNat 8 (wordAt v i / 256) = v.getD (i + 1) 0 := by
    apply BitVec.eq_of_toNat_eq
    simp [wordAt, byteAt]
    omega
  rw [leBytes_two, low, high]

/-- A payload byte by byte. -/
theorem map_getD_range (v : List Byte) : (List.range v.length).map (fun i => v.getD i 0) = v := by
  refine List.ext_getElem (by simp) fun i h h' => ?_
  rw [List.getElem_map, List.getElem_range, List.getD_eq_getElem v 0 h']

/-- R123, R125: READ BANK answers a group's values as WRITE BANK sent them. -/
theorem readGroup_writeGroup_same {g : FieldGroup} {values : List Byte} (f : BankFields) (size : values.length = g.size) :
    readGroup g (writeGroup g values f) = values := by
  have whole : (List.range g.size).map (fun i => values.getD i 0) = values := size ▸ map_getD_range values
  refine Eq.trans ?_ whole
  cases g with
  | channel ch =>
    simp only [readGroup, writeGroup, PerChannel.get_set, if_true, leBytes_byteAt, leBytes_wordAt]
    rfl
  | _ =>
    simp only [readGroup, writeGroup, leBytes_byteAt, leBytes_wordAt]
    rfl

/-- R123: the other groups keep their values. -/
theorem readGroup_writeGroup_other {g h : FieldGroup} (other : h ≠ g) (values : List Byte) (f : BankFields) :
    readGroup h (writeGroup g values f) = readGroup h f := by
  cases g <;> cases h
  case channel.channel ch k =>
    have apart : k ≠ ch := fun e => other (e ▸ rfl)
    simp only [readGroup, writeGroup, PerChannel.get_set, if_neg apart]
  case job.job => exact absurd rfl other
  case registration.registration => exact absurd rfl other
  case gumFold.gumFold => exact absurd rfl other
  all_goals rfl

/-- Settles O38: the geometry record read back, the groups of a bank read back, and each field at its offset. -/
theorem storedRecordsTravelWhole : Obligations.StoredRecordsTravelWhole := by
  refine ⟨fun g words bytes times => geometryArgument_record words bytes times, fun g values f size =>
    ⟨readGroup_writeGroup_same f size, fun h other => readGroup_writeGroup_other other values f⟩, fun values f => ?_⟩
  exact ⟨rfl, rfl, rfl, fun ch => rfl, rfl, rfl, fun ch => rfl⟩

end Sys2Proof.Machine

/-! # The moves of the line state (R134 to R144, R149) -/

namespace Sys2Proof.Machine

/-! ## What a command finds and leaves -/

/-- Only POWER_ON_RESET touches the reset pin. -/
theorem exec_resetPin {i : Instr} {s t : State} (run : exec i s = .next t) (other : ∀ pin pair, i ≠ .powerOnReset pin pair) :
    t.sensors.resetPin = s.sensors.resetPin := by
  obtain ⟨x, hx, -, pin⟩ := exec_concludes i s
  rw [hx] at run
  cases run
  rw [conclude_sensors, pin other]

/-- With the reset pin released a command leaves the state `x` that it concludes, but for the pins. -/
theorem exec_released {i : Instr} {s t x : State} (pin : s.sensors.resetPin = false) (run : exec i s = .next t)
    (other : ∀ pin pair, i ≠ .powerOnReset pin pair) (hx : exec i s = .next (conclude x)) :
    x.sensors.resetPin = false ∧ t = { x with pins := pinsOf x } := by
  have same : t = conclude x := by
    rw [hx] at run
    cases run
    rfl
  have released : x.sensors.resetPin = false := by
    rw [← conclude_sensors, ← same, exec_resetPin run other, pin]
  exact ⟨released, same.trans (conclude_eq x released)⟩

/-! ## The moves of the operations -/

/-- A halt cause raised or not: the line stays, or goes to HALT from outside CONFIG (R140, R141). -/
def LineState.HaltsOrStays (a b : LineState) : Prop := b = a ∨ (a ≠ .config ∧ b = .halt)

/-- A boundary taken or not: beside that, a drain may be completed (R31, R139). -/
def LineState.TurnsOrStays (a b : LineState) : Prop := a.HaltsOrStays b ∨ (a = .drain ∧ b = .ready)

section
variable {a b c : LineState} {i : Instr}

theorem LineState.HaltsOrStays.trans (h : a.HaltsOrStays b) (h' : b.HaltsOrStays c) : a.HaltsOrStays c := by
  rcases h with rfl | ⟨config, rfl⟩
  · exact h'
  · rcases h' with rfl | ⟨-, rfl⟩ <;> exact .inr ⟨config, rfl⟩

theorem LineState.TurnsOrStays.trans (h : a.TurnsOrStays b) (h' : b.TurnsOrStays c) : a.TurnsOrStays c := by
  rcases h with h | ⟨rfl, rfl⟩
  · rcases h' with h' | ⟨rfl, rfl⟩
    · exact .inl (h.trans h')
    · rcases h with rfl | ⟨-, halted⟩
      · exact .inr ⟨rfl, rfl⟩
      · cases halted
  · rcases h' with (rfl | ⟨-, rfl⟩) | ⟨drain, -⟩
    · exact .inr ⟨rfl, rfl⟩
    · exact .inl (.inr ⟨by decide, rfl⟩)
    · cases drain

theorem LineState.Moves.of_eq (h : b = a) : LineState.Moves i a b := by
  subst h
  cases b <;> exact .inl rfl

theorem LineState.HaltsOrStays.moves (h : a.HaltsOrStays b) (halts : canHalt i) : LineState.Moves i a b := by
  rcases h with rfl | ⟨config, rfl⟩
  · exact .of_eq rfl
  · exact .inr ⟨halts, fun e => absurd e config⟩

theorem turnsForward.canHalt (h : turnsForward i) : canHalt i := by
  cases i with
  | forwardCountStep | indexEdge => trivial
  | _ => exact h.elim

theorem LineState.TurnsOrStays.moves (h : a.TurnsOrStays b) (turns : turnsForward i) : LineState.Moves i a b := by
  rcases h with h | ⟨rfl, rfl⟩
  · exact h.moves turns.canHalt
  · refine .inr ?_
    cases i with
    | forwardCountStep | indexEdge => exact ⟨rfl, trivial⟩
    | _ => exact turns.elim

end

theorem raiseCause_halts_or_stays (c : HaltCause) (l : Option Link) (s : State) :
    s.line.state.HaltsOrStays (raiseCause c l s).line.state := by
  by_cases config : s.line.state = .config
  · rw [raiseCause_in_config config]
    exact .inl rfl
  · exact .inr ⟨config, (raiseCause_halts config c l).1⟩

theorem examineLevels_halts_or_stays (s : State) : s.line.state.HaltsOrStays (examineLevels s).line.state :=
  runAll_induct (fun x => s.line.state.HaltsOrStays x.line.state) (fun _ => True) (fun _ _ h => h)
    (fun c x _ h => h.trans (raiseCause_halts_or_stays c none x)) _ _ (fun _ _ => trivial) (.inl rfl)

/-- A drain completed goes to READY, and there the levels may halt the line (R139, R140). -/
theorem completeDrain_state (s : State) :
    (completeDrain s).line.state = .ready ∨ (completeDrain s).line.state = .halt := by
  have ready : (drainDone s).line.state = .ready := congrArg LineSequencer.state (drainDone_apart s)
  rw [completeDrain_eq]
  rcases examineLevels_halts_or_stays (drainDone s) with h | ⟨-, h⟩
  · exact .inl (h.trans ready)
  · exact .inr h

theorem chainEmptyNotice_turns (s : State) : s.line.state.TurnsOrStays (chainEmptyNotice s).line.state := by
  unfold chainEmptyNotice
  split
  case h_2 => exact .inl (.inl (takeChangeover_line_state s))
  case h_4 drain =>
    rcases completeDrain_state s with h | h
    · exact .inr ⟨drain, h⟩
    · exact .inl (.inr ⟨by simp [drain], h⟩)
  all_goals exact .inl (.inl rfl)

theorem doBoundary_turns (n : Nat) (w v : Bool) (t : BoundaryTask) (s : State) :
    s.line.state.TurnsOrStays (doBoundary n w v t s).2.line.state := by
  cases t with
  | cause c => exact .inl (raiseCause_halts_or_stays c none s)
  | emptyNotice => exact chainEmptyNotice_turns s
  | _ => exact .inl (.inl (by simp [doBoundary]))

theorem pitchBoundary_turns (v : Bool) (s : State) : s.line.state.TurnsOrStays (pitchBoundary v s).line.state :=
  runFree_induct (fun x => s.line.state.TurnsOrStays x.line.state) (fun _ => True) (fun _ _ h => h)
    (fun t x _ h => ⟨h.trans (doBoundary_turns _ _ _ t x), fun _ _ => trivial⟩) _ _ _ (fun _ _ => trivial) (.inl (.inl rfl))

theorem forwardCount_turns (v : Bool) (s : State) : s.line.state.TurnsOrStays (forwardCount v s).line.state :=
  forwardCount_induct (fun x => s.line.state.TurnsOrStays x.line.state) (fun _ _ h => h)
    (fun v lo hi x h => by rwa [crossings_line_state]) (fun v x h => h.trans (pitchBoundary_turns v x)) v s (.inl (.inl rfl))

theorem indexEdge_turns (v : Bool) (s : State) : s.line.state.TurnsOrStays (indexEdge v s).line.state :=
  indexEdge_induct (fun x => s.line.state.TurnsOrStays x.line.state) (fun _ _ h => h)
    (fun v lo hi x h => by rwa [crossings_line_state]) (fun v x h => h.trans (pitchBoundary_turns v x))
    (fun c x h => h.trans (.inl (raiseCause_halts_or_stays c none x))) v s (.inl (.inl rfl))

theorem backwardCount_halts_or_stays (s : State) : s.line.state.HaltsOrStays (backwardCount s).line.state :=
  backwardCount_induct (fun x => s.line.state.HaltsOrStays x.line.state) (fun _ _ h => h) (fun _ _ h => h)
    (fun c x h => h.trans (raiseCause_halts_or_stays c none x)) s (.inl rfl)

/-! ## The requests that name a transition -/

theorem levelChanged_moves {i : Instr} {level : Bool} (halts : level = true → canHalt i) (c : HaltCause) (was : Bool)
    (x : State) : LineState.Moves i x.line.state (levelChanged c level was x).line.state := by
  unfold levelChanged
  split
  · rename_i raises
    exact (raiseCause_halts_or_stays c none x).moves (halts raises.1)
  · exact .of_eq rfl

theorem commitGeometry_moves {s : State} (config : s.line.state = .config) (p : List Byte) :
    LineState.Moves (.commitGeometry p) s.line.state (commitGeometry s).line.state := by
  rw [commitGeometry_eq]
  rcases examineLevels_halts_or_stays (committed s) with h | ⟨-, h⟩ <;> rw [h]
  · exact .inr config
  · exact .inr ⟨trivial, fun _ => ⟨p, rfl⟩⟩

theorem beginDrain_moves {s : State} (run : s.line.state = .run) (close : Bool) (p : List Byte) :
    LineState.Moves (.drain p) s.line.state (beginDrain close s).line.state := by
  simp only [beginDrain]
  split
  · rcases completeDrain_state { s with line := { s.line with state := .drain, closeFlag := some close } } with h | h <;>
      rw [h]
    · exact .inr run
    · exact .inr ⟨trivial, fun config => by rw [run] at config; cases config⟩
  · exact .inr ⟨run, p, rfl⟩

theorem lineReset_moves {s : State} (able : s.line.state = .ready ∨ s.line.state = .halt) (p : List Byte) :
    LineState.Moves (.lineReset p) s.line.state (lineReset s).line.state := by
  have ready : (takeChangeover (unitsReset s)).line.state = .ready := takeChangeover_line_state (unitsReset s)
  rw [lineReset_eq]
  rcases examineLevels_halts_or_stays (takeChangeover (unitsReset s)) with h | ⟨-, h⟩ <;> rw [h]
  · rw [ready]; exact able
  · exact .inr ⟨trivial, fun config => by rw [config] at able; simp at able⟩

/-! ## Every command -/

/-- Every command concludes a state that the line state reaches by a move of R134. -/
theorem exec_moves (i : Instr) (s : State) :
    ∃ x, exec i s = .next (conclude x) ∧ LineState.Moves i s.line.state x.line.state := by
  cases i with
  | powerOnReset asserted pair => exact ⟨_, rfl, .inr (.inl ⟨asserted, pair, rfl⟩)⟩
  | forwardCountStep elapsed level =>
    exact ⟨_, rfl, (forwardCount_turns level (steppedForward elapsed s)).moves trivial⟩
  | backwardCountStep => exact ⟨_, rfl, (backwardCount_halts_or_stays (steppedBackward s)).moves trivial⟩
  | indexEdge elapsed level => exact ⟨_, rfl, (indexEdge_turns level (passTime elapsed s)).moves trivial⟩
  | estopChange level => exact ⟨_, exec_estopChange level s, levelChanged_moves id _ _ { s with sensors.estop := level }⟩
  | jamChange level => exact ⟨_, exec_jamChange level s, levelChanged_moves id _ _ { s with sensors.jam := level }⟩
  | halt l p =>
    refine ⟨_, rfl, ?_⟩
    split
    · exact .of_eq rfl
    · split
      · exact .of_eq rfl
      · exact (raiseCause_halts_or_stays _ _ s).moves trivial
  | commitGeometry p =>
    refine ⟨_, rfl, ?_⟩
    split
    · exact .of_eq rfl
    · split
      · rename_i config
        split
        · exact .of_eq rfl
        · exact commitGeometry_moves config p
      · exact .of_eq rfl
  | releaseGeometry p =>
    refine ⟨_, rfl, ?_⟩
    split
    · exact .of_eq rfl
    · split
      · rename_i able
        exact .inr (.inr ⟨able.1, p, rfl⟩)
      · exact .of_eq rfl
  | start p =>
    refine ⟨_, rfl, ?_⟩
    split
    · exact .of_eq rfl
    · split
      · rename_i able
        have run : (startLine s).line.state = .run := startLine_line_state s
        exact run ▸ .inr ⟨able.1, p, rfl⟩
      · exact .of_eq rfl
  | drain p =>
    refine ⟨_, rfl, ?_⟩
    split
    · exact .of_eq rfl
    · split
      · rename_i run
        exact beginDrain_moves run _ p
      · exact .of_eq rfl
  | clearHalt p =>
    refine ⟨_, rfl, ?_⟩
    split
    · exact .of_eq rfl
    · split
      · rename_i able
        have ready : (clearHalt s).line.state = .ready := clearHalt_line_state s
        exact ready ▸ .inr able.1
      · exact .of_eq rfl
  | lineReset p =>
    refine ⟨_, rfl, ?_⟩
    split
    · exact .of_eq rfl
    · split
      · rename_i able
        exact lineReset_moves able p
      · exact .of_eq rfl
  | readTriggers p => refine ⟨_, rfl, .of_eq ?_⟩; dsimp only; (repeat' split) <;> simp
  | _ =>
    -- The other commands leave the line state as it is.
    refine ⟨_, rfl, .of_eq ?_⟩
    (repeat' split) <;> simp

/-- Settles O5: every command makes a move of R134, and with the reset pin released the state that it concludes stands. -/
theorem lineStateMovesOnlyAtNamedCommands : Obligations.LineStateMovesOnlyAtNamedCommands := by
  intro i s t pin run
  obtain ⟨x, hx, moves⟩ := exec_moves i s
  by_cases other : ∀ pin pair, i ≠ .powerOnReset pin pair
  · obtain ⟨-, rfl⟩ := exec_released pin run other hx
    exact moves
  · push Not at other
    obtain ⟨asserted, pair, rfl⟩ := other
    cases run
    rw [conclude_powerOn]
    exact .inr (.inl ⟨asserted, pair, rfl⟩)

end Sys2Proof.Machine

/-! # A batch closed and a changeover taken outside RUN (R111, R114, R130) -/

namespace Sys2Proof.Machine

/-! ## The feed-inhibit set (R145) -/

/-- The supply causes in the set after a changeover, where one was taken (R75, R83, R130). -/
def suppliesInhibit (taken gum patch : Bool) (m : BitVec 6) : BitVec 6 :=
  if taken then maskSet (maskSet m .gumLow gum) .patchSupply patch else m

section
variable (starts ends : Bool) (s : State)

theorem backlogInhibit_eq : backlogInhibit starts ends s
    = if starts then maskSet s.line.feedInhibit .packerBacklog true
      else if ends then maskSet s.line.feedInhibit .packerBacklog false else s.line.feedInhibit := rfl

theorem backlogInhibit_holds : backlogInhibit starts ends s &&& 0x38 = s.line.feedInhibit &&& 0x38 := by
  rw [backlogInhibit_eq]
  split
  · exact maskSet_holds _ (by decide) _
  · split
    · exact maskSet_holds _ (by decide) _
    · rfl

variable {starts ends}

theorem maskHas_backlogInhibit (exclusive : starts = true → ends = false) (c : FeedCause) :
    maskHas (backlogInhibit starts ends s) c.index
      = if c = .packerBacklog then (maskHas s.line.feedInhibit c.index || starts) && !ends
        else maskHas s.line.feedInhibit c.index := by
  rw [backlogInhibit_eq]
  by_cases backlog : c = .packerBacklog
  · subst backlog
    cases starts <;> cases ends <;> simp_all [maskHas_maskSet]
  · cases starts <;> cases ends <;> simp [maskHas_maskSet, backlog, Ne.symm backlog]

end

section
variable (m : BitVec 6) (taken gum patch : Bool)

theorem suppliesInhibit_holds : suppliesInhibit taken gum patch m &&& 0x38 = m &&& 0x38 := by
  unfold suppliesInhibit
  split
  · rw [maskSet_holds _ (by decide), maskSet_holds _ (by decide)]
  · rfl

theorem maskHas_suppliesInhibit (c : FeedCause) :
    maskHas (suppliesInhibit taken gum patch m) c.index
      = if taken = true ∧ c = .patchSupply then patch else if taken = true ∧ c = .gumLow then gum
        else maskHas m c.index := by
  unfold suppliesInhibit
  cases taken
  · simp
  · simp only [if_true, maskHas_maskSet, true_and, eq_comm (b := c)]

end

/-! ## Closing a batch (R111, R114) -/

/-- A batch closed outside RUN, written out; with none open nothing changes. -/
theorem closeBatch_idle {s : State} (h : s.line.state ≠ .run) (cause : CloseCause) :
    closeBatch cause s = { s with
      batch := { s.batch with
        openBatch := none, closeRequest := s.batch.closeRequest && !s.batch.openBatch.isSome
        backlog := (s.batch.backlog || backlogStarts s) && !backlogEnds s
        queue := s.batch.queue ++ (s.batch.openBatch.map (OpenBatch.closed · cause)).toList }
      line.feedInhibit := backlogInhibit (backlogStarts s) (backlogEnds s) s
      ports := portsPosted ((if s.batch.openBatch.isSome then [.batchClosed] else [])
        ++ (if backlogStarts s then [.backlog] else [])) s.ports } := by
  cases ho : s.batch.openBatch with
  | none =>
    have starts : backlogStarts s = false := by simp [backlogStarts, ho]
    have ends : backlogEnds s = false := by simp [backlogEnds, ho]
    have same : { s.batch with openBatch := none } = s.batch := by rw [← ho]
    simp [closeBatch_none s ho, starts, ends, backlogInhibit, same]
  | some o =>
    set x : State := { s with batch := { s.batch with openBatch := none, closeRequest := false } } with hx
    have starts : joinStarts [o.closed cause] x = backlogStarts s := by
      simp [joinStarts, backlogStarts, ho, hx]
    have ends : joinEnds [o.closed cause] x = backlogEnds s := by
      simp [joinEnds, backlogEnds, ho, hx]
    have quiet : backlogEvents (backlogStarts s) (queueJoined [o.closed cause] x)
        = if backlogStarts s then [.backlog] else [] := by
      simp [backlogEvents, queueJoined, hx, h]
    rw [closeBatch_eq s ho, joined, starts, ends, backlogMoved, quiet, portsPosted_append]
    simp [queueJoined]
    rfl

theorem backlog_exclusive {s : State} (starts : backlogStarts s = true) : backlogEnds s = false := by
  cases hb : s.batch.backlog <;> simp_all [backlogStarts, backlogEnds]

/-! ## The changeover with the chain empty (R107, R130) -/

theorem armedBank_congr {s t : State} (hb : t.banks = s.banks) : armedBank t = armedBank s :=
  bankIn_congr fun k => by rw [bankState_of_banks hb]

/-- The open batch as a changeover leaves it (R107). -/
def supersededBy (armed : Option BankId) (o : OpenBatch) : OpenBatch :=
  { o with superseded := o.superseded || armed == some o.bank }

/-- What a changeover with the chain empty posts (R130). -/
def changeoverEvents (s : State) : List Event :=
  (if (armedBank s).isSome && (activeBank s).isSome then [.bankReleased] else [])
    ++ (if (armedBank s).isSome then [.changeoverTaken] else [])

theorem supersededBy_some (b : BankId) :
    supersededBy (some b) = fun o => { o with superseded := o.superseded || o.bank == b } := by
  have same : ∀ c : BankId, (some b == some c) = (c == b) := fun c => by cases b <;> cases c <;> rfl
  funext o
  rw [supersededBy, same]

theorem supersededBy_none : supersededBy none = id := by
  funext o
  simp [supersededBy]

/-- A changeover outside RUN with no record in the chain, written out but for the banks; with no bank ARMED nothing
changes. -/
theorem takeChangeover_empty {s : State} (hr : s.line.state ≠ .run) (empty : s.chain.records = []) :
    takeChangeover s = { s with
      banks := (takeChangeover s).banks
      registration := { s.registration with
        m16 := if (armedBank s).isSome then 0 else s.registration.m16
        driftAlert := if (armedBank s).isSome then false else s.registration.driftAlert
        accepted := if (armedBank s).isSome then 0 else s.registration.accepted }
      batch.openBatch := s.batch.openBatch.map (supersededBy (armedBank s))
      line.feedInhibit := suppliesInhibit (armedBank s).isSome (gumLow (takeChangeover s))
        (patchSupplyLow (takeChangeover s)) s.line.feedInhibit
      ports := portsPosted (changeoverEvents s) s.ports } := by
  have unnamed : ∀ k, bankNamed s k = false := fun k => by simp [bankNamed, namesBank, empty]
  cases hb : armedBank s with
  | none =>
    rw [takeChangeover_unarmed hb]
    simp [suppliesInhibit, changeoverEvents, hb, supersededBy_none]
  | some b =>
    set x := changedOver b s with hx
    have taken : takeChangeover s = retakeSupplies x := takeChangeover_eq hb
    have ports : x.ports = portsPosted (changeoverEvents s) s.ports := by
      have events : changeoverEvents s
          = (if (activeBank s).isSome then [.bankReleased] else []) ++ [.changeoverTaken] := by
        simp [changeoverEvents, hb]
      change portsPosted [.changeoverTaken] (banksChanged b s).ports = _
      rw [banksChanged_unnamed unnamed, events, portsPosted_append]
    have written := changedOver_written b s
    rw [← hx, ports, ← supersededBy_some] at written
    have line : x.line = s.line := by rw [written]
    have gum : gumLow (takeChangeover s) = gumLow x := gumLow_congr (by rw [taken]; simp) (by rw [taken]; simp)
    have patch : patchSupplyLow (takeChangeover s) = patchSupplyLow x :=
      patchSupplyLow_congr (by rw [taken]; simp) (by rw [taken]; simp)
    rw [gum, patch, taken, retakeSupplies_idle (by rw [line]; exact hr), line]
    exact congrArg (fun y : State => { y with line := { s.line with feedInhibit :=
      (maskSet (maskSet s.line.feedInhibit .gumLow (gumLow x)) .patchSupply (patchSupplyLow x)) } }) written

/-- R130: the bank states after it. -/
theorem bankState_takeChangeover_empty {s : State} (empty : s.chain.records = []) (k : BankId) :
    bankState (takeChangeover s) k
      = if armedBank s = some k then .active
        else if (armedBank s).isSome = true ∧ activeBank s = some k then .valid else bankState s k := by
  have unnamed : bankNamed s k = false := by simp [bankNamed, namesBank, empty]
  cases hb : armedBank s with
  | none => rw [takeChangeover_unarmed hb]; simp
  | some b => simp [bankState_takeChangeover hb, unnamed, eq_comm (a := k)]

end Sys2Proof.Machine

/-! # A drain completed (R55, R57, R63, R77, R82, R85, R118, R130, R139, R140) -/

namespace Sys2Proof.Machine

/-- Whether the drain under way is to close the open batch at its end: DRAIN stored it (R118, R139). -/
def closesAtEnd (s : State) : Bool := s.line.closeFlag == some true

/-- The drain completed up to the changeover: the line at rest in READY, the batch closed if that was asked for, DRAINED
posted (R55, R57, R63, R77, R82, R85, R118, R139). -/
def drainEnded (s : State) : State :=
  let s1 := noSubjects (leaveRunning { s with line.state := .ready })
  let s2 := if s.line.closeFlag = some true then closeBatch .drain s1 else s1
  post .drained { s2 with line.closeFlag := none }

theorem drainDone_eq (s : State) : drainDone s = takeChangeover (drainEnded s) := rfl

/-- What is posted before the changeover (R111, R114, R139). -/
def drainEndEvents (s : State) : List Event :=
  (if drainCloses (closesAtEnd s) s then [.batchClosed] else [])
    ++ (if drainStartsBacklog (closesAtEnd s) s then [.backlog] else []) ++ [.drained]

theorem filter_all (o : Option OpenBatch) : (o.filter fun _ => true) = o := by cases o <;> rfl

theorem filter_none (o : Option OpenBatch) : (o.filter fun _ => false) = none := by cases o <;> rfl

section
variable (s : State)

theorem drainEnded_written :
    drainEnded s = { s with
      firing := { s.firing with held := .all [], planningContinuous := false, gateHold := false }
      registration := { s.registration with
        markSubject := none, patchSubject := none, markWindow := .shut, patchOpen := false }
      gumFold := { s.gumFold with progress := [], foldOpen := false }
      batch := { s.batch with
        openBatch := s.batch.openBatch.filter fun _ => !closesAtEnd s
        closeRequest := s.batch.closeRequest && !drainCloses (closesAtEnd s) s
        backlog := (s.batch.backlog || drainStartsBacklog (closesAtEnd s) s) && !drainEndsBacklog (closesAtEnd s) s
        queue := s.batch.queue
          ++ ((s.batch.openBatch.filter fun _ => closesAtEnd s).map (OpenBatch.closed · .drain)).toList }
      line := { s.line with
        state := .ready, closeFlag := none
        feedInhibit := (backlogInhibit (drainStartsBacklog (closesAtEnd s) s) (drainEndsBacklog (closesAtEnd s) s) s) }
      ports := portsPosted (drainEndEvents s) s.ports } := by
  set x : State := noSubjects (leaveRunning { s with line.state := .ready }) with hx
  by_cases close : s.line.closeFlag = some true
  · have flag : closesAtEnd s = true := by simp [closesAtEnd, close]
    have starts : drainStartsBacklog true s = backlogStarts x := by
      simp [drainStartsBacklog, drainCloses, backlogStarts, hx, noSubjects, leaveRunning, shutWindows]
    have ends : drainEndsBacklog true s = backlogEnds x := by
      simp [drainEndsBacklog, drainCloses, backlogEnds, hx, noSubjects, leaveRunning, shutWindows]
    have ended : drainEnded s = post .drained { closeBatch .drain x with
        line.closeFlag := none } := by
      simp only [drainEnded, if_pos close]
      rfl
    rw [ended, closeBatch_idle (s := x) (by simp [hx, noSubjects, leaveRunning, shutWindows])]
    simp only [drainEndEvents, flag, starts, ends, drainCloses, Bool.true_and, Bool.not_true, portsPosted_append]
    rw [filter_all, filter_none]
    rfl
  · have flag : closesAtEnd s = false := by simpa [closesAtEnd] using close
    have ended : drainEnded s = post .drained { x with line.closeFlag := none } := by
      simp only [drainEnded, if_neg close]
      rfl
    rw [ended]
    have starts : drainStartsBacklog false s = false := rfl
    have ends : drainEndsBacklog false s = false := rfl
    simp only [drainEndEvents, flag, starts, ends, drainCloses, backlogInhibit_eq, Bool.false_and, Bool.not_false,
      Bool.and_true, Bool.or_false, if_neg Bool.false_ne_true]
    rw [filter_all, filter_none, Option.map_none, Option.toList_none, List.append_nil]
    rfl

theorem drainEnded_banks : (drainEnded s).banks = s.banks := by rw [drainEnded_written]

theorem armedBank_drainEnded : armedBank (drainEnded s) = armedBank s :=
  armedBank_congr (drainEnded_banks s)

variable {s}

theorem drainDone_written (empty : s.chain.records = []) :
    drainDone s = { s with
      banks := (drainDone s).banks
      firing := { s.firing with held := .all [], planningContinuous := false, gateHold := false }
      registration := { s.registration with
        markSubject := none, patchSubject := none, markWindow := .shut, patchOpen := false
        m16 := if (armedBank s).isSome then 0 else s.registration.m16
        driftAlert := if (armedBank s).isSome then false else s.registration.driftAlert
        accepted := if (armedBank s).isSome then 0 else s.registration.accepted }
      gumFold := { s.gumFold with progress := [], foldOpen := false }
      batch := { s.batch with
        openBatch := (s.batch.openBatch.filter fun _ => !closesAtEnd s).map (supersededBy (armedBank s))
        closeRequest := s.batch.closeRequest && !drainCloses (closesAtEnd s) s
        backlog := (s.batch.backlog || drainStartsBacklog (closesAtEnd s) s) && !drainEndsBacklog (closesAtEnd s) s
        queue := s.batch.queue
          ++ ((s.batch.openBatch.filter fun _ => closesAtEnd s).map (OpenBatch.closed · .drain)).toList }
      line := { s.line with
        state := .ready, closeFlag := none
        feedInhibit := suppliesInhibit (armedBank s).isSome (gumLow (drainDone s)) (patchSupplyLow (drainDone s))
          (backlogInhibit (drainStartsBacklog (closesAtEnd s) s) (drainEndsBacklog (closesAtEnd s) s) s) }
      ports := portsPosted (drainEndEvents s ++ changeoverEvents s) s.ports } := by
  have written := drainEnded_written s
  have events : changeoverEvents (drainEnded s) = changeoverEvents s := by
    rw [changeoverEvents, changeoverEvents, armedBank_drainEnded, activeBank_congr (drainEnded_banks s)]
  have taken := takeChangeover_empty (s := drainEnded s) (by rw [written]; simp) (by rw [written]; exact empty)
  rw [armedBank_drainEnded, events] at taken
  rw [drainDone_eq, portsPosted_append]
  generalize takeChangeover (drainEnded s) = y at taken ⊢
  rw [written] at taken
  exact taken

theorem fieldsOf_drainDone (k : BankId) : fieldsOf (drainDone s) k = fieldsOf s k :=
  (fieldsOf_takeChangeover _ k).trans (fieldsOf_of_banks (drainEnded_banks s) k)

theorem bankState_drainDone (empty : s.chain.records = []) (k : BankId) :
    bankState (drainDone s) k
      = if armedBank s = some k then .active
        else if (armedBank s).isSome = true ∧ activeBank s = some k then .valid else bankState s k := by
  have still : (drainEnded s).chain.records = [] := by rw [drainEnded_written]; exact empty
  rw [drainDone_eq, bankState_takeChangeover_empty still k, armedBank_drainEnded,
    activeBank_congr (drainEnded_banks s), bankState_of_banks (drainEnded_banks s)]

end

/-! ## The entry to READY (R140) -/

/-- The levels examined in READY: with one active the line halts and the period is lost, with none nothing changes. -/
theorem examineLevels_written {s : State} (ready : s.line.state = .ready) :
    ∃ line index, examineLevels s = { s with
        shaft := if levelCauses s ≠ [] then { s.shaft with periodValid := false, timingQualified := false } else s.shaft
        line := line, choices := index
        ports := portsPosted (if levelCauses s ≠ [] then [.halted] else []) s.ports }
      ∧ (levelCauses s = [] → line = s.line)
      ∧ (levelCauses s ≠ [] → ∃ first ∈ levelCauses s, line = { s.line with
          haltRecord := { haltEntryRecord first none s with
            further := ((levelCauses s).erase first).foldl (fun m c => maskAdd m c.index) 0 }
          closeFlag := none, state := .halt }) := by
  by_cases quiet : levelCauses s = []
  · have levels := (levelCauses_nil_iff s).mp quiet
    rw [not_or, Bool.not_eq_true, Bool.not_eq_true] at levels
    refine ⟨s.line, s.choices, ?_, fun _ => rfl, fun raised => absurd quiet raised⟩
    rw [examineLevels_none levels.1 levels.2, if_neg (not_not.mpr quiet), if_neg (not_not.mpr quiet), portsPosted_nil]
  · obtain ⟨first, mem, index, halted⟩ := examineLevels_halts ready quiet
    refine ⟨_, index, ?_, fun none => absurd none quiet, fun _ => ⟨first, mem, rfl⟩⟩
    rw [halted, enterHalt_ready ready, if_pos quiet, if_pos quiet]

/-! ## The drain completed with the chain empty (R139) -/

theorem drainEvents_eq (s : State) :
    drainEvents (closesAtEnd s) s
      = drainEndEvents s ++ changeoverEvents s ++ if levelCauses s ≠ [] then [.halted] else [] := by
  simp only [drainEvents, drainEndEvents, changeoverEvents, List.append_assoc]

theorem completeDrain_empty {s : State} (empty : s.chain.records = []) :
    DrainCompleted (closesAtEnd s) s (completeDrain s)
      ∧ (completeDrain s).ports = portsPosted (drainEvents (closesAtEnd s) s) s.ports
      ∧ (completeDrain s).sensors = s.sensors := by
  have written := drainDone_written empty
  have banks := fun k => And.intro (fieldsOf_drainDone (s := s) k) (bankState_drainDone empty k)
  rw [completeDrain_eq, drainEvents_eq, portsPosted_append]
  generalize drainDone s = x at written banks ⊢
  have ready : x.line.state = .ready := by rw [written]
  have sensors : x.sensors = s.sensors := by rw [written]
  have causes : levelCauses x = levelCauses s := by rw [levelCauses, levelCauses, sensors]
  have shaft : x.shaft = s.shaft := by rw [written]
  have ports : x.ports = portsPosted (drainEndEvents s ++ changeoverEvents s) s.ports := by rw [written]
  obtain ⟨line, index, examined, quiet, halts⟩ := examineLevels_written ready
  rw [causes] at examined quiet halts
  rw [examined]
  have lineOf : x.line = { s.line with
      state := .ready, closeFlag := none
      feedInhibit := suppliesInhibit (armedBank s).isSome (gumLow x) (patchSupplyLow x)
        (backlogInhibit (drainStartsBacklog (closesAtEnd s) s) (drainEndsBacklog (closesAtEnd s) s) s) } := (congrArg State.line written :)
  have kept : line.state = (if levelCauses s ≠ [] then .halt else .ready) ∧ line.closeFlag = none
      ∧ line.locked = s.line.locked ∧ line.holders = s.line.holders ∧ line.feedInhibit = x.line.feedInhibit := by
    by_cases raised : levelCauses s = []
    · rw [quiet raised, if_neg (not_not.mpr raised), lineOf]
      exact ⟨rfl, rfl, rfl, rfl, rfl⟩
    · obtain ⟨first, -, rfl⟩ := halts raised
      rw [if_pos raised, lineOf]
      exact ⟨rfl, rfl, rfl, rfl, rfl⟩
  have exclusive : drainStartsBacklog (closesAtEnd s) s = true → drainEndsBacklog (closesAtEnd s) s = false := by
    cases hb : s.batch.backlog <;> simp [drainStartsBacklog, drainEndsBacklog, hb]
  have inhibit : x.line.feedInhibit = _ := (congrArg LineSequencer.feedInhibit lineOf :)
  obtain ⟨state, flag, locked, holders, same⟩ := kept
  refine ⟨⟨⟨state, flag, locked, holders⟩, ⟨?_, ?_, sensors, ?_⟩, ?_, ?_, ?_, ?_, ?_, banks, ⟨?_, ?_, ?_, ?_⟩, ?_, ?_⟩,
    ?_, sensors⟩
  · exact (congrArg State.chain written :)
  · exact (congrArg State.geometry written :)
  · exact (congrArg State.verdicts written :)
  · rw [shaft]
  · exact (congrArg State.firing written :)
  · exact (congrArg State.registration written :)
  · exact (congrArg State.gumFold written :)
  · exact (congrArg State.batch written :)
  · rw [same, inhibit, suppliesInhibit_holds, backlogInhibit_holds]
  · rw [same, inhibit, maskHas_suppliesInhibit, if_neg (by simp), if_neg (by simp), maskHas_backlogInhibit s exclusive,
      if_pos rfl]
  · simp only [same, inhibit, maskHas_suppliesInhibit, maskHas_backlogInhibit s exclusive, reduceCtorEq, and_false,
      and_true, if_false]
    exact if_congr Iff.rfl (gumLow_congr rfl rfl).symm rfl
  · simp only [same, inhibit, maskHas_suppliesInhibit, maskHas_backlogInhibit s exclusive, reduceCtorEq, and_false,
      and_true, if_false]
    exact if_congr Iff.rfl (patchSupplyLow_congr rfl rfl).symm rfl
  · intro none
    rw [quiet none, lineOf]
  · intro raised
    obtain ⟨first, mem, rfl⟩ := halts raised
    have nothing : x.chain.records = [] := (congrArg (fun y : State => y.chain.records) written :).trans empty
    refine ⟨first, mem, ?_⟩
    rw [haltEntryRecord, recordBefore_empty nothing, ready, shaft, lineOf]
    rfl
  · rw [ports]

end Sys2Proof.Machine

/-! # DRAIN and the chain-empty notice (R31, R118, R129, R139) -/

namespace Sys2Proof.Machine

/-- The state of DRAIN with the flag it stores (R118, R139). -/
def draining (close : Bool) (s : State) : State :=
  { s with line := { s.line with state := .drain, closeFlag := some close } }

theorem closesAtEnd_draining (close : Bool) (s : State) : closesAtEnd (draining close s) = close := by
  cases close <;> rfl

theorem yesNoArgument_flag (close : Bool) : yesNoArgument [if close then 1#8 else 0#8] = some close := by
  cases close <;> rfl

section
variable (close : Bool) {s : State}

theorem exec_drain_refused (refused : s.line.state ≠ .run) :
    exec (.drain [if close then 1#8 else 0#8]) s = .next (s.answered .line .drain .wrongState []) := by
  simp only [exec, execDrain, yesNoArgument_flag, if_neg refused, conclude_answer]

theorem exec_drain_started (run : s.line.state = .run) (records : s.chain.records ≠ []) :
    exec (.drain [if close then 1#8 else 0#8]) s = .next ((draining close s).answered .line .drain .ok []) := by
  have started : beginDrain close s = draining close s := if_neg records
  simp only [exec, execDrain, yesNoArgument_flag, if_pos run, started, conclude_answer]

theorem exec_drain_completed (run : s.line.state = .run) (empty : s.chain.records = []) :
    exec (.drain [if close then 1#8 else 0#8]) s
      = .next (conclude (answer .line .drain .ok [] (completeDrain (draining close s)))) := by
  have completed : beginDrain close s = completeDrain (draining close s) := if_pos empty
  simp only [exec, execDrain, yesNoArgument_flag, if_pos run, completed]

/-- R139: DRAIN with the chain empty. -/
theorem exec_drain_written (run : s.line.state = .run) (empty : s.chain.records = [])
    (pin : s.sensors.resetPin = false) :
    ∃ t, exec (.drain [if close then 1#8 else 0#8]) s = .next t ∧ DrainCompleted close s t
      ∧ t.ports = portsAnswered .line .drain .ok [] (drainEvents close s) s.ports := by
  obtain ⟨completed, ports, sensors⟩ := completeDrain_empty (s := draining close s) empty
  rw [closesAtEnd_draining] at completed ports
  have released : (answer .line .drain .ok [] (completeDrain (draining close s))).sensors.resetPin = false := by
    rw [answer_sensors, sensors]; exact pin
  refine ⟨_, exec_drain_completed close run empty, ?_⟩
  rw [conclude_eq _ released]
  generalize completeDrain (draining close s) = x at completed ports
  exact ⟨completed, congrArg (portsAnswered .line .drain .ok [] []) ports⟩

end

section
variable {s : State}

theorem chainEmptyNotice_still (h : s.line.state = .config ∨ s.line.state = .run ∨ s.line.state = .halt) :
    chainEmptyNotice s = s := by
  rcases h with h | h | h <;> simp only [chainEmptyNotice, h]

theorem chainEmptyNotice_ready (h : s.line.state = .ready) : chainEmptyNotice s = takeChangeover s := by
  simp only [chainEmptyNotice, h]

theorem chainEmptyNotice_drain (h : s.line.state = .drain) : chainEmptyNotice s = completeDrain s := by
  simp only [chainEmptyNotice, h]

theorem bankState_takeChangeover_armed {b : BankId} (h : armedBank s = some b) :
    bankState (takeChangeover s) b = .active := by
  rw [bankState_takeChangeover h, if_pos rfl]

end

end Sys2Proof.Machine

/-! # The chain-empty notice at a forward boundary (R26, R31, R129, R139) -/

namespace Sys2Proof.Machine

/-! ## The blocks that hear the boundary -/

/-- What the blocks that hear a boundary leave of a state. -/
def unheard (x : State) :
    LineSequencer × PerBank RecipeBank × Sensors × (List (Seq × BankId × Nat) × Seq × Counter × Counter × Counter × Counter) :=
  (x.line.apart, x.banks, x.sensors, x.chain.places)

theorem listener_unheard {t : BoundaryTask} (ht : t ∈ listeners) (level : Bool) (s x : State) :
    unheard (boundaryWork level s t x) = unheard x := by
  have notChain : t ≠ .chain := by rintro rfl; simp [listeners] at ht
  have places : (boundaryWork level s t x).chain.places = x.chain.places :=
    congrArg Prod.fst (doBoundary_ledger _ _ level notChain x)
  have apart : (boundaryWork level s t x).line.apart = x.line.apart :=
    boundaryWork_apart (by cases t <;> simp_all [listeners, BoundaryTask.causeOf])
      (by rintro rfl; simp [listeners] at ht) level s x
  have banks : (boundaryWork level s t x).banks = x.banks := by
    cases t <;> simp_all [listeners, boundaryWork, doBoundary]
  rw [unheard, apart, banks, places, boundaryWork, doBoundary_sensors, unheard]

theorem countCrossing_empty {s : State} (empty : s.chain.records = []) (p : Nat) : countCrossing p s = s := by
  have nobody : recordAt s s.geometry.posCount = none := by simp [recordAt, empty]
  simp only [countCrossing, countSubject, nobody]

/-- With the chain empty no record is counted into a batch (R106). -/
theorem listener_openBatch {t : BoundaryTask} (ht : t ∈ listeners) (level : Bool) (s : State) {x : State}
    (empty : x.chain.records = []) : (boundaryWork level s t x).batch.openBatch = x.batch.openBatch := by
  cases t with
  | batch =>
    change (countCrossing 0 { x with batch.kickMark := none }).batch.openBatch = _
    rw [countCrossing_empty (s := { x with batch.kickMark := none }) empty]
  | chain => simp [listeners] at ht
  | cause c => simp [listeners] at ht
  | emptyNotice => simp [listeners] at ht
  | firing => exact congrArg BatchUnit.openBatch (firingBoundary_batch _ _ x)
  | registration => exact congrArg BatchUnit.openBatch (registrationBoundary_batch x)
  | gumFold => exact congrArg BatchUnit.openBatch (gumFoldBoundary_batch level x)
  | gate => exact congrArg BatchUnit.openBatch (gateCrossing_batch 0 x)

theorem records_of_places {s t : State} (h : t.chain.places = s.chain.places) :
    t.chain.records = [] ↔ s.chain.records = [] := by
  have records : t.chain.records.map Record.place = s.chain.records.map Record.place := congrArg Prod.fst h
  rw [← List.map_eq_nil_iff (f := Record.place), records, List.map_eq_nil_iff]

section
variable (level : Bool) (s : State) (order : List (BoundaryTask × Nat))

theorem listeners_unheard (x : State) (heard : ∀ t ∈ order, t.1 ∈ listeners) :
    unheard (takenInOrder (boundaryWork level s) order x) = unheard x :=
  takenInOrder_proj unheard (fun _ _ => rfl) order x fun t ht y => listener_unheard (heard t ht) level s y

theorem takenInOrder_posts (x : State) : Posts x (takenInOrder (boundaryWork level s) order x) := by
  induction order generalizing x with
  | nil => exact .refl x
  | cons t order ih => exact (doBoundary_posts _ _ level t.1 { x with choices := t.2 }).trans (ih _)

theorem listeners_openBatch (x : State) (heard : ∀ t ∈ order, t.1 ∈ listeners) (empty : x.chain.records = []) :
    (takenInOrder (boundaryWork level s) order x).batch.openBatch = x.batch.openBatch := by
  induction order generalizing x with
  | nil => rfl
  | cons t order ih =>
    have mem := heard t List.mem_cons_self
    have still : (boundaryWork level s t.1 { x with choices := t.2 }).chain.records = [] :=
      (records_of_places (congrArg (fun u => u.2.2.2) (listener_unheard mem level s { x with choices := t.2 }))).mpr empty
    exact (ih _ (fun u hu => heard u (List.mem_cons_of_mem t hu)) still).trans (listener_openBatch mem level s empty)

end

/-! ## The boundary that empties the chain -/

section
variable (level : Bool) {s : State}

/-- Without a cause a boundary is the chain operation, and then the blocks that hear it, the notice among them where the
chain became empty (R26, R31). -/
theorem pitchBoundary_quiet (quiet : BoundaryWithoutCause s) :
    ∃ after index, pitchBoundary level s
        = takenInOrder (boundaryWork level s) after (chainBoundary { closePitch s with choices := index })
      ∧ (after.map Prod.fst).Perm (listeners ++ if s.chain.records ≠ []
          ∧ (chainBoundary { closePitch s with choices := index }).chain.records = [] then [.emptyNotice] else []) := by
  obtain ⟨before, after, index, run, perm, causes, -⟩ := pitchBoundary_order level s
  rw [boundaryCauses_nil quiet] at causes perm
  obtain rfl : before = [] := List.eq_nil_iff_forall_not_mem.mpr fun x hx => absurd (causes x hx) (by simp)
  exact ⟨after, index, run, perm⟩

/-- The boundary that empties the chain: the chain operation, blocks that hear it, the notice, and the other blocks. -/
theorem pitchBoundary_empties (quiet : BoundaryWithoutCause s) (occupied : s.chain.records ≠ [])
    (empties : (pitchBoundary level s).chain.records = []) :
    ∃ first last index k, (∀ t ∈ first ++ last, t.1 ∈ listeners)
      ∧ (chainBoundary { closePitch s with choices := index }).chain.records = []
      ∧ pitchBoundary level s = takenInOrder (boundaryWork level s) last (chainEmptyNotice
          { takenInOrder (boundaryWork level s) first (chainBoundary { closePitch s with choices := index }) with
            choices := k }) := by
  obtain ⟨after, index, run, perm⟩ := pitchBoundary_quiet level quiet
  have blocks : ∀ t ∈ after, t.1 ≠ .chain := fun t ht hc => by
    have mem := perm.mem_iff.mp (List.mem_map_of_mem ht)
    rw [hc] at mem
    split at mem <;> simp [listeners] at mem
  have emptied : (chainBoundary { closePitch s with choices := index }).chain.records = [] := by
    rw [run] at empties
    exact (records_of_places (takenInOrder_proj (act := boundaryWork level s) (fun x => x.chain.places)
      (fun _ _ => rfl) after _ fun t ht y =>
        congrArg Prod.fst (doBoundary_ledger _ _ level (blocks t ht) y))).mp empties
  rw [if_pos ⟨occupied, emptied⟩] at perm
  obtain ⟨⟨task, k⟩, mem, rfl⟩ := List.mem_map.mp (perm.mem_iff.mpr (List.mem_append_right _ (List.mem_singleton_self _)))
  obtain ⟨first, last, rfl⟩ := List.append_of_mem mem
  have others : ((first ++ last).map Prod.fst).Perm listeners := by
    refine (List.perm_cons .emptyNotice).mp (.trans ?_ (perm.trans (List.perm_append_singleton _ _)))
    simpa using List.perm_middle.symm
  refine ⟨first, last, index, k, fun t ht => others.mem_iff.mp (List.mem_map_of_mem ht), emptied, ?_⟩
  rw [run, takenInOrder_append]
  rfl

theorem chainBoundary_unfed (idle : s.line.state ≠ .run) : chainBoundary s = advanced s := by
  have unfed : mayFeed (advanced s) = false := by
    rw [mayFeed_advanced]
    cases h : s.line.state <;> simp_all [mayFeed]
  rw [chainBoundary_eq, feedStage, unfed]
  rfl

/-- Outside RUN the notice finds the Line Sequencer, the levels and the armed bank as the boundary found them. -/
theorem pitchBoundary_notice (idle : s.line.state ≠ .run) (quiet : BoundaryWithoutCause s)
    (occupied : s.chain.records ≠ []) (empties : (pitchBoundary level s).chain.records = []) :
    ∃ y last, (∀ t ∈ last, t.1 ∈ listeners)
      ∧ pitchBoundary level s = takenInOrder (boundaryWork level s) last (chainEmptyNotice y)
      ∧ y.chain.records = [] ∧ y.line.apart = s.line.apart ∧ y.sensors = s.sensors ∧ armedBank y = armedBank s := by
  obtain ⟨first, last, index, k, heard, emptied, run⟩ := pitchBoundary_empties level quiet occupied empties
  have kept := listeners_unheard level s first (chainBoundary { closePitch s with choices := index })
    fun t ht => heard t (List.mem_append_left _ ht)
  have moved := chainBoundary_unfed (s := { closePitch s with choices := index }) idle
  rw [moved] at kept emptied run
  simp only [unheard, Prod.mk.injEq] at kept
  obtain ⟨apart, banks, sensors, places⟩ := kept
  refine ⟨_, last, fun t ht => heard t (List.mem_append_right _ ht), run, ?_, ?_, ?_, ?_⟩
  · exact (records_of_places places).mpr emptied
  · exact apart.trans (congrArg LineSequencer.apart (leavingStage_line _))
  · exact sensors.trans (leavingStage_sensors _)
  · exact (armedBank_congr banks).trans (armedBank_advanced _)

end

/-- R129: the notice brings an armed changeover into effect. -/
theorem bankState_chainEmptyNotice {s : State} (state : s.line.state = .drain ∨ s.line.state = .ready)
    (empty : s.chain.records = []) {b : BankId} (armed : armedBank s = some b) :
    bankState (chainEmptyNotice s) b = .active := by
  rcases state with drain | ready
  · obtain ⟨⟨-, -, -, -, -, -, -, banks, -⟩, -⟩ := completeDrain_empty empty
    rw [chainEmptyNotice_drain drain, (banks b).2, if_pos armed]
  · rw [chainEmptyNotice_ready ready, bankState_takeChangeover_armed armed]

/-! ## O43 -/

section
variable (level : Bool) {s : State}

theorem pitchBoundary_drains_on (quiet : BoundaryWithoutCause s) (state : s.line.state = .drain)
    (remains : (pitchBoundary level s).chain.records ≠ []) :
    (pitchBoundary level s).line.state = .drain ∧ (pitchBoundary level s).line.closeFlag = s.line.closeFlag := by
  obtain ⟨raised, names, line⟩ := pitchBoundary_apart level (s := s) fun h => remains h.2.2
  have noCause : haltCauses s = [] := by rw [haltCauses, boundaryCauses_nil quiet]; rfl
  obtain rfl : raised = [] := by rw [noCause] at names; simpa using names.eq_nil
  exact ⟨(congrArg LineSequencer.state line :).trans state, (congrArg LineSequencer.closeFlag line :)⟩

theorem drained_told (close : Bool) (s : State) (ports : PerLink Port) (l : Link) :
    maskHas ((portsPosted (drainEvents close s) ports).get l).pending Event.drained.index = true := by
  have posted : (drainEvents close s).any (fun e => decide (e.index = Event.drained.index)) = true :=
    List.any_eq_true.mpr ⟨.drained, by simp [drainEvents], by decide⟩
  rw [portsPosted, PerLink.get_ofFn, maskHas_posted, posted, Bool.or_true]

theorem pitchBoundary_drained (quiet : BoundaryWithoutCause s) (state : s.line.state = .drain)
    (occupied : s.chain.records ≠ []) (empties : (pitchBoundary level s).chain.records = []) :
    (pitchBoundary level s).line.state = (if s.sensors.estop = true ∨ s.sensors.jam = true then .halt else .ready)
      ∧ (pitchBoundary level s).line.closeFlag = none
      ∧ (s.line.closeFlag = some true → (pitchBoundary level s).batch.openBatch = none)
      ∧ ∀ l, maskHas ((pitchBoundary level s).ports.get l).pending Event.drained.index = true := by
  obtain ⟨y, last, heard, run, empty, apart, sensors, -⟩ :=
    pitchBoundary_notice level (by simp [state]) quiet occupied empties
  have drain : y.line.state = .drain := (congrArg LineSequencer.state apart :).trans state
  have flag : y.line.closeFlag = s.line.closeFlag := (congrArg LineSequencer.closeFlag apart :)
  rw [chainEmptyNotice_drain drain] at run
  obtain ⟨⟨⟨halted, closed, -⟩, ⟨chain, -⟩, -, -, -, -, batch, -⟩, ports, -⟩ := completeDrain_empty empty
  have kept := listeners_unheard level s last (completeDrain y) heard
  have openBatch := listeners_openBatch level s last (completeDrain y) heard (by rw [chain]; exact empty)
  have posts := takenInOrder_posts level s last (completeDrain y)
  rw [← run] at kept openBatch posts
  have line := congrArg Prod.fst kept
  refine ⟨?_, (congrArg LineSequencer.closeFlag line :).trans closed, fun close => ?_, fun l => posts.keeps ?_⟩
  · refine ((congrArg LineSequencer.state line :).trans halted).trans ?_
    rw [← sensors]
    exact if_congr (not_iff_comm.mp (levelCauses_nil_iff y).symm) rfl rfl
  · have closes : closesAtEnd y = true := by simp [closesAtEnd, flag, close]
    rw [openBatch, batch, closes]
    simp
  · rw [ports]
    exact drained_told _ y y.ports l

theorem bankState_pitchBoundary_empties (quiet : BoundaryWithoutCause s)
    (state : s.line.state = .drain ∨ s.line.state = .ready)
    (occupied : s.chain.records ≠ []) (empties : (pitchBoundary level s).chain.records = []) {b : BankId}
    (armed : armedBank s = some b) : bankState (pitchBoundary level s) b = .active := by
  have idle : s.line.state ≠ .run := by rcases state with h | h <;> simp [h]
  obtain ⟨y, last, heard, run, empty, apart, -, same⟩ := pitchBoundary_notice level idle quiet occupied empties
  have kept := listeners_unheard level s last (chainEmptyNotice y) heard
  rw [← run] at kept
  have stands : y.line.state = s.line.state := (congrArg LineSequencer.state apart :)
  rw [bankState_of_banks (congrArg (fun u => u.2.1) kept), bankState_chainEmptyNotice (by rw [stands]; exact state) empty
    (same.trans armed)]

end

/-- Settles O43: DRAIN by the line state and the chain, the notice by the line state, and the boundary that gives it. -/
theorem drainEndsWithTheChainEmpty : Obligations.DrainEndsWithTheChainEmpty := by
  refine ⟨fun close s => ⟨exec_drain_refused close, exec_drain_started close, exec_drain_written close⟩,
    fun s => ⟨chainEmptyNotice_still, fun ready => ⟨chainEmptyNotice_ready ready, fun unarmed => ?_, fun b armed => ?_⟩,
      fun drain empty => ?_⟩,
    fun elapsed level s pin wraps debt quiet occupied =>
      ⟨_, exec_forwardCountStep_boundary elapsed level wraps debt, ?_⟩⟩
  · rw [chainEmptyNotice_ready ready, takeChangeover_unarmed unarmed]
  · rw [chainEmptyNotice_ready ready, bankState_takeChangeover_armed armed]
  · rw [chainEmptyNotice_drain drain]
    obtain ⟨completed, ports, -⟩ := completeDrain_empty empty
    exact ⟨completed, ports⟩
  · have released : (pitchBoundary level (wrapped elapsed s)).sensors.resetPin = false := by simpa [wrapped] using pin
    rw [conclude_eq _ released]
    exact ⟨pitchBoundary_drains_on (s := wrapped elapsed s) level quiet,
      fun drain => pitchBoundary_drained (s := wrapped elapsed s) level quiet drain occupied,
      fun state empties b =>
        bankState_pitchBoundary_empties (s := wrapped elapsed s) level quiet state occupied empties⟩

end Sys2Proof.Machine

/-! # What the shaft's turns and the line's transitions leave to the requests (R33, R76, R104, R117, R147) -/

namespace Sys2Proof.Machine

/-! ## The next batch size (R117) -/

section
variable (s : State)

@[simp] theorem takeChangeover_nextSize : (takeChangeover s).batch.nextSize = s.batch.nextSize := by
  unfold takeChangeover; (repeat' split) <;> simp [supersede]

@[simp] theorem chainBoundary_nextSize : (chainBoundary s).batch.nextSize = s.batch.nextSize := by
  have advanced : (advanced s).batch = s.batch := by simp [advanced, advanceStage]
  rw [chainBoundary_eq, feedStage]
  split <;> simp [advanced]

@[simp] theorem checkBacklog_nextSize : (checkBacklog s).batch.nextSize = s.batch.nextSize := by
  unfold checkBacklog; (repeat' split) <;> simp

@[simp] theorem closeBatch_nextSize (c : CloseCause) : (closeBatch c s).batch.nextSize = s.batch.nextSize := by
  unfold closeBatch; split <;> simp

@[simp] theorem flagSeparation_nextSize : (flagSeparation s).batch.nextSize = s.batch.nextSize := by
  unfold flagSeparation; split <;> rfl

@[simp] theorem countEvent_nextSize (r : Record) : (countEvent r s).batch.nextSize = s.batch.nextSize := by
  have made : ∀ x, (batchBoundaryMade r x).batch.nextSize = x.batch.nextSize := fun x => by
    unfold batchBoundaryMade; (repeat' split) <;> rfl
  have applied : ∀ k x, (applyCheck k x).batch.nextSize = x.batch.nextSize := fun k x => by
    unfold applyCheck overfillBatch; (repeat' split) <;> simp
  have opened : ∀ x, (openIfNone r x).batch.nextSize = x.batch.nextSize := fun x => by
    unfold openIfNone; split <;> simp [openNewBatch]
  have checked : (changeoverCheck r s).batch.nextSize = s.batch.nextSize := by
    unfold changeoverCheck; split <;> simp
  simp only [countEvent]
  split <;> simp [made, applied, countInto, opened, checked]

@[simp] theorem countCrossing_nextSize (p : Nat) : (countCrossing p s).batch.nextSize = s.batch.nextSize := by
  unfold countCrossing; split <;> simp

@[simp] theorem batchBoundary_nextSize : (batchBoundary s).batch.nextSize = s.batch.nextSize := by simp [batchBoundary]

end

/-! ## The stray counters of the registration (R76) -/

/-- The stray marks and the stray patches. -/
def Registration.strays (u : Registration) : Counter × Counter := (u.strayMarks, u.strayPatches)

section
variable (s : State)

@[simp] theorem takeChangeover_strays : (takeChangeover s).registration.strays = s.registration.strays := by
  unfold takeChangeover; (repeat' split) <;> simp [zeroDrift, Registration.strays]

@[simp] theorem chainBoundary_strays : (chainBoundary s).registration.strays = s.registration.strays := by
  have advanced : (advanced s).registration = s.registration := by simp [advanced, advanceStage]
  rw [chainBoundary_eq, feedStage]
  split <;> simp [advanced]

@[simp] theorem openMark_strays : (openMark s).registration.strays = s.registration.strays := by
  unfold openMark; split <;> rfl

@[simp] theorem openPatch_strays : (openPatch s).registration.strays = s.registration.strays := by
  unfold openPatch; split <;> rfl

@[simp] theorem settleMark_strays : (settleMark s).registration.strays = s.registration.strays := by
  unfold settleMark; (repeat' split) <;> simp [Registration.strays]

@[simp] theorem settlePatch_strays : (settlePatch s).registration.strays = s.registration.strays := by
  unfold settlePatch; (repeat' split) <;> simp [Registration.strays]

@[simp] theorem markCrossing_strays (p : Nat) : (markCrossing p s).registration.strays = s.registration.strays := by
  simp only [markCrossing]; (repeat' split) <;> simp

@[simp] theorem patchCrossing_strays (p : Nat) : (patchCrossing p s).registration.strays = s.registration.strays := by
  simp only [patchCrossing]; (repeat' split) <;> simp

@[simp] theorem registrationBoundary_strays : (registrationBoundary s).registration.strays = s.registration.strays := by
  have taken : ∀ x, (takeSubjects x).registration.strays = x.registration.strays := fun _ => rfl
  have marks : ∀ x, (openMarkAtZero x).registration.strays = x.registration.strays := fun x => by
    unfold openMarkAtZero; (repeat' split) <;> simp
  have patches : ∀ x, (openPatchAtZero x).registration.strays = x.registration.strays := fun x => by
    unfold openPatchAtZero; (repeat' split) <;> simp
  simp [registrationBoundary, taken, marks, patches]

@[simp] theorem enterHalt_strays (c : HaltCause) (l : Option Link) :
    (enterHalt c l s).registration.strays = s.registration.strays := by
  simp only [enterHalt]; split <;> rfl

@[simp] theorem raiseCause_strays (c : HaltCause) (l : Option Link) :
    (raiseCause c l s).registration.strays = s.registration.strays := by
  unfold raiseCause; split <;> simp

end

/-! ## The verdict counters (R104) -/

/-- The verdicts refused and the late verdicts. -/
def VerdictUnit.answers (u : VerdictUnit) : Counter × Counter := (u.verdictsRefused, u.lateVerdicts)

section
variable (s : State)

@[simp] theorem logTrigger_answers (t : Trigger) : (logTrigger t s).verdicts.answers = s.verdicts.answers := by
  simp only [logTrigger]; (repeat' split) <;> rfl

@[simp] theorem takeEdge_answers (e : Edge) : (takeEdge e s).verdicts.answers = s.verdicts.answers := by
  have camera : ∀ r x, (cameraEdge r x).verdicts.answers = x.verdicts.answers := fun r x => by
    unfold cameraEdge; split <;> simp
  unfold takeEdge onEdge; (repeat' split) <;> simp [camera]

@[simp] theorem gateCrossing_answers (p : Nat) : (gateCrossing p s).verdicts.answers = s.verdicts.answers := by
  have counted : ∀ f x, (countUnverified f x).verdicts.answers = x.verdicts.answers := fun f x => by
    unfold countUnverified; split <;> rfl
  unfold gateCrossing
  split
  · rfl
  · simp only [gateDecision]; split <;> simp [counted]

@[simp] theorem firingBoundary_answers (n : Nat) (v : Bool) :
    (firingBoundary n v s).verdicts.answers = s.verdicts.answers := by
  have overdue : (takeOverdue s).verdicts.answers = s.verdicts.answers := by
    simp only [takeOverdue, dropWaiting_verdicts]
    exact runFree_proj (fun s => s.verdicts.answers) (fun _ _ => rfl) (fun t s => takeEdge_answers s _) _ _ _
  simp only [firingBoundary]
  refine (runAll_proj (fun s => s.verdicts.answers) (fun _ _ => rfl) (fun t s => takeEdge_answers s t) _ _).trans ?_
  simpa using overdue

@[simp] theorem chainBoundary_answers : (chainBoundary s).verdicts.answers = s.verdicts.answers := by
  rw [chainBoundary_eq, feedStage_verdicts, advanced]
  simp [leavingStage, advanceStage, VerdictUnit.answers]

end

/-! ## The station holder sets (R147) -/

section
variable (s : State)

theorem holders_of_apart {t : State} (h : t.line.apart = s.line.apart) : t.line.holders = s.line.holders :=
  (congrArg LineSequencer.holders h :)

@[simp] theorem raiseCause_holders (c : HaltCause) (l : Option Link) :
    (raiseCause c l s).line.holders = s.line.holders := by
  unfold raiseCause; split <;> simp [enterHalt_line]

end

end Sys2Proof.Machine

/-! # What only requests and sensor edges change, through every operation (R33, R76, R104, R117, R147) -/

namespace Sys2Proof.Machine

/-- What no turn of the shaft and no move of the line state changes: the station holder sets, the next batch size, the
stray marks and patches, the verdicts refused and late, the bank fields. -/
def steady (s : State) : PerStation (BitVec 3) × Nat × (Counter × Counter) × (Counter × Counter) × (BankId → BankFields) :=
  (s.line.holders, s.batch.nextSize, s.registration.strays, s.verdicts.answers, fieldsOf s)

section
variable {s t : State}

theorem steady_of (holders : t.line.holders = s.line.holders) (size : t.batch.nextSize = s.batch.nextSize)
    (strays : t.registration.strays = s.registration.strays) (answers : t.verdicts.answers = s.verdicts.answers)
    (fields : ∀ k, fieldsOf t k = fieldsOf s k) : steady t = steady s := by
  rw [steady, holders, size, strays, answers, funext fields, steady]

end

section
variable (s : State)

/-! ## The crossings (R6) -/

theorem doCrossing_steady (v : Bool) (p : Nat) (t : CrossingTask) : steady (doCrossing v p t s) = steady s :=
  steady_of (by cases t <;> simp [doCrossing]) (by cases t <;> simp [doCrossing]) (by cases t <;> simp [doCrossing])
    (by cases t <;> simp [doCrossing]) (fieldsOf_of_banks (by cases t <;> simp [doCrossing]))

theorem crossings_steady (v : Bool) (lo hi : Nat) : steady (crossings v lo hi s) = steady s :=
  foldl_proj steady (fun x p => runAll_proj steady (fun _ _ => rfl) (fun t y => doCrossing_steady y v p t) _ x) _ s

/-! ## The moves of the line (R118, R130, R139, R141) -/

theorem raiseCause_steady (c : HaltCause) (l : Option Link) : steady (raiseCause c l s) = steady s :=
  steady_of (by simp) (by simp) (by simp) (by simp) (fieldsOf_of_banks (by simp))

theorem examineLevels_steady : steady (examineLevels s) = steady s :=
  runAll_proj steady (fun _ _ => rfl) (fun c x => raiseCause_steady x c none) _ s

theorem takeChangeover_steady : steady (takeChangeover s) = steady s :=
  steady_of (by simp) (by simp) (by simp) (by simp) (fieldsOf_takeChangeover s)

theorem closeBatch_steady (c : CloseCause) : steady (closeBatch c s) = steady s :=
  steady_of (by simp) (by simp) (by simp) (by simp) (fieldsOf_of_banks (by simp))

theorem drainEnded_steady : steady (drainEnded s) = steady s := by
  rw [drainEnded_written]
  rfl

theorem completeDrain_steady : steady (completeDrain s) = steady s := by
  rw [completeDrain_eq, drainDone_eq, examineLevels_steady, takeChangeover_steady, drainEnded_steady]

theorem chainEmptyNotice_steady : steady (chainEmptyNotice s) = steady s := by
  cases h : s.line.state with
  | config => rw [chainEmptyNotice_still (.inl h)]
  | ready => rw [chainEmptyNotice_ready h, takeChangeover_steady]
  | run => rw [chainEmptyNotice_still (.inr (.inl h))]
  | drain => rw [chainEmptyNotice_drain h, completeDrain_steady]
  | halt => rw [chainEmptyNotice_still (.inr (.inr h))]

/-! ## The turns of the shaft (R3 to R15) -/

theorem doBoundary_steady (n : Nat) (w v : Bool) (t : BoundaryTask) : steady (doBoundary n w v t s).2 = steady s := by
  cases t with
  | cause c => exact raiseCause_steady s c none
  | emptyNotice => exact chainEmptyNotice_steady s
  | chain =>
    exact steady_of (chainBoundary_line_holders s) (chainBoundary_nextSize s) (chainBoundary_strays s)
      (chainBoundary_answers s) (fieldsOf_chainBoundary s)
  | _ =>
    exact steady_of (by simp [doBoundary]) (by simp [doBoundary]) (by simp [doBoundary]) (by simp [doBoundary])
      (fieldsOf_of_banks (by simp [doBoundary]))

theorem pitchBoundary_steady (v : Bool) : steady (pitchBoundary v s) = steady s :=
  runFree_proj steady (fun _ _ => rfl) (fun t x => doBoundary_steady x _ _ v t) _ _ (closePitch s)

theorem forwardCount_steady (v : Bool) : steady (forwardCount v s) = steady s :=
  forwardCount_induct (fun x => steady x = steady s) (fun _ _ h => h) (fun v lo hi x h => (crossings_steady x v lo hi).trans h)
    (fun v x h => (pitchBoundary_steady x v).trans h) v s rfl

theorem indexEdge_steady (v : Bool) : steady (indexEdge v s) = steady s :=
  indexEdge_induct (fun x => steady x = steady s) (fun _ _ h => h) (fun v lo hi x h => (crossings_steady x v lo hi).trans h)
    (fun v x h => (pitchBoundary_steady x v).trans h) (fun c x h => (raiseCause_steady x c none).trans h) v s rfl

theorem backwardCount_steady : steady (backwardCount s) = steady s :=
  backwardCount_induct (fun x => steady x = steady s) (fun _ _ h => h) (fun _ _ h => h)
    (fun c x h => (raiseCause_steady x c none).trans h) s rfl

/-! ## The requests that move the line -/

theorem levelChanged_steady (c : HaltCause) (level was : Bool) : steady (levelChanged c level was s) = steady s := by
  unfold levelChanged
  split
  · exact raiseCause_steady s c none
  · rfl

theorem commitGeometry_steady : steady (commitGeometry s) = steady s := by
  rw [commitGeometry_eq, examineLevels_steady]
  rfl

theorem releaseGeometry_steady : steady (releaseGeometry s) = steady s := by
  rfl

theorem startLine_steady : steady (startLine s) = steady s := by
  rw [startLine_eq]
  rfl

theorem setBankState_steady (b : BankId) (st : BankState) : steady (setBankState b st s) = steady s :=
  steady_of rfl rfl rfl rfl (fieldsOf_setBankState b st s)

theorem validateStaging_steady (b : BankId) : steady (validateStaging b s) = steady s := by
  unfold validateStaging
  split
  · rfl
  · exact setBankState_steady s b .valid

theorem armBank_steady (b : BankId) : steady (armBank b s) = steady s := by
  simp only [armBank]
  split
  · exact (takeChangeover_steady _).trans (setBankState_steady s b .armed)
  · exact setBankState_steady s b .armed

theorem beginDrain_steady (close : Bool) : steady (beginDrain close s) = steady s := by
  simp only [beginDrain]
  split
  · exact completeDrain_steady (draining close s)
  · rfl

theorem clearHalt_steady : steady (clearHalt s) = steady s := by
  simp only [clearHalt]
  split
  · exact takeChangeover_steady _
  · rfl

theorem lineReset_steady : steady (lineReset s) = steady s := by
  have units : steady (unitsReset s) = steady (discardRecords (purgeBatch s)) := rfl
  have discarded : steady (discardRecords (purgeBatch s)) = steady (purgeBatch s) :=
    steady_of (by simp) (by simp) (by simp) (by simp) (fieldsOf_releaseNotices _ _)
  have purged : steady (purgeBatch s) = steady (closeBatch .purge s) := rfl
  rw [lineReset_eq, examineLevels_steady, takeChangeover_steady, units, discarded, purged, closeBatch_steady]

/-! ## The other requests and the sensor edges -/

theorem steady_of_eq {t : State} (holders : t.line.holders = s.line.holders) (batch : t.batch.nextSize = s.batch.nextSize)
    (registration : t.registration = s.registration) (verdicts : t.verdicts = s.verdicts)
    (fields : ∀ k, fieldsOf t k = fieldsOf s k) : steady t = steady s :=
  steady_of holders batch (by rw [registration]) (by rw [verdicts]) fields

end

/-- The commands that change what the turns keep: each its own part (R76, R104, R117, R123, R147, R148). -/
def changesSteady : Instr → Prop
  | .inhibitStation _ _ => True
  | .releaseStation _ _ => True
  | .clearHolds _ => True
  | .setBatchSize _ => True
  | .markEdge => True
  | .patchPresentEdge => True
  | .verdict _ => True
  | .writeBank _ => True
  | .powerOnReset _ _ => True
  | _ => False

theorem exec_steady (i : Instr) (s : State) (other : ¬changesSteady i) :
    ∃ x, exec i s = .next (conclude x) ∧ steady x = steady s := by
  cases i with
  | powerOnReset | inhibitStation | releaseStation | clearHolds | setBatchSize | markEdge | patchPresentEdge | verdict | writeBank =>
    exact absurd trivial other
  | forwardCountStep elapsed level => exact ⟨_, rfl, forwardCount_steady (steppedForward elapsed s) level⟩
  | backwardCountStep => exact ⟨_, rfl, backwardCount_steady (steppedBackward s)⟩
  | indexEdge elapsed level => exact ⟨_, rfl, indexEdge_steady (passTime elapsed s) level⟩
  | estopChange level => exact ⟨_, exec_estopChange level s, levelChanged_steady { s with sensors.estop := level } _ _ _⟩
  | jamChange level => exact ⟨_, exec_jamChange level s, levelChanged_steady { s with sensors.jam := level } _ _ _⟩
  | halt l p =>
    refine ⟨_, rfl, ?_⟩
    (repeat' split)
    · rfl
    · rfl
    · exact raiseCause_steady s _ _
  | commitGeometry p =>
    refine ⟨_, rfl, ?_⟩
    (repeat' split)
    · rfl
    · rfl
    · exact commitGeometry_steady s
    · rfl
  | armChangeover p =>
    refine ⟨_, rfl, ?_⟩
    (repeat' split)
    · rfl
    · exact armBank_steady s _
    · rfl
  | releaseGeometry p =>
    refine ⟨_, rfl, ?_⟩
    (repeat' split)
    · rfl
    · exact releaseGeometry_steady s
    · rfl
  | start p =>
    refine ⟨_, rfl, ?_⟩
    (repeat' split)
    · rfl
    · exact startLine_steady s
    · rfl
  | drain p =>
    refine ⟨_, rfl, ?_⟩
    (repeat' split)
    · rfl
    · exact beginDrain_steady s _
    · rfl
  | clearHalt p =>
    refine ⟨_, rfl, ?_⟩
    (repeat' split)
    · rfl
    · exact clearHalt_steady s
    · rfl
  | lineReset p =>
    refine ⟨_, rfl, ?_⟩
    (repeat' split)
    · rfl
    · exact lineReset_steady s
    · rfl
  | readTriggers p =>
    refine ⟨_, rfl, ?_⟩
    dsimp only
    (repeat' split) <;> rfl
  | validateBank p =>
    refine ⟨_, rfl, ?_⟩
    (repeat' split)
    · rfl
    · exact validateStaging_steady s _
    all_goals rfl
  | disarm p =>
    refine ⟨_, rfl, ?_⟩
    (repeat' split)
    · rfl
    · exact setBankState_steady s _ .valid
    · rfl
  | _ =>
    refine ⟨_, rfl, steady_of_eq s ?_ ?_ ?_ ?_ (fieldsOf_of_banks ?_)⟩ <;> (repeat' split) <;> simp

end Sys2Proof.Machine

/-! # Who changes what: the requests and the sensor edges (R33, R76, R88, R104, R117, R123, R135, R147, R148) -/

namespace Sys2Proof.Machine

/-! ## The settings and counters that no turn changes -/

theorem markEdge_strayPatches (s : State) : (markEdge s).registration.strayPatches = s.registration.strayPatches := by
  have measured : ∀ q, (measure q s).registration.strayPatches = s.registration.strayPatches := fun q => by
    simp only [measure, acceptMeasurement, refuseMeasurement, checkDrift]
    (repeat' split) <;> simp
  unfold markEdge
  (repeat' split) <;> simp [capture, measured]

theorem patchPresentEdge_strayMarks (s : State) :
    (patchPresentEdge s).registration.strayMarks = s.registration.strayMarks := by
  unfold patchPresentEdge
  (repeat' split) <;> rfl

/-- The fields of a bank change at WRITE BANK alone, and only where the bank is not in use (R123). -/
def StagesFields (i : Instr) (s t : State) : Prop :=
  ∀ b, fieldsOf t b = fieldsOf s b
    ∨ ((bankState s b = .empty ∨ bankState s b = .staging ∨ bankState s b = .valid) ∧ ∃ p, i = .writeBank p)

theorem StagesFields.of_banks {i : Instr} {s t : State} (h : t.banks = s.banks) : StagesFields i s t :=
  fun b => .inl (fieldsOf_of_banks h b)

theorem stageBank_stages {s : State} {b : BankId} (f : BankFields) (unused : (bankState s b).inUse = false)
    (p : List Byte) : StagesFields (.writeBank p) s (stageBank b f s) := by
  intro k
  by_cases same : k = b
  · subst same
    refine .inr ⟨?_, p, rfl⟩
    cases h : bankState s k <;> simp_all [BankState.inUse]
  · exact .inl ((fieldsOf_put b _ s k).trans (if_neg same))

/-- What a command may change of the parts that the turns keep: each part at its own commands alone. -/
structure OwnParts (i : Instr) (s t : State) : Prop where
  holders : t.line.holders = s.line.holders
    ∨ (∃ l p, i = .inhibitStation l p ∨ i = .releaseStation l p) ∨ ∃ p, i = .clearHolds p
  nextSize : t.batch.nextSize = s.batch.nextSize ∨ ∃ p, i = .setBatchSize p
  verdicts : (t.verdicts.verdictsRefused = s.verdicts.verdictsRefused
    ∧ t.verdicts.lateVerdicts = s.verdicts.lateVerdicts) ∨ ∃ p, i = .verdict p
  strayMarks : t.registration.strayMarks = s.registration.strayMarks ∨ i = .markEdge
  strayPatches : t.registration.strayPatches = s.registration.strayPatches ∨ i = .patchPresentEdge
  fields : StagesFields i s t

theorem OwnParts.of_steady {i : Instr} {s t : State} (h : steady t = steady s) : OwnParts i s t := by
  simp only [steady, Registration.strays, VerdictUnit.answers, Prod.mk.injEq] at h
  obtain ⟨holders, size, ⟨marks, patches⟩, ⟨refused, late⟩, fields⟩ := h
  exact ⟨.inl holders, .inl size, .inl ⟨refused, late⟩, .inl marks, .inl patches, fun b => .inl (congrFun fields b)⟩

/-- Every command but POWER_ON_RESET keeps them, but for its own part. -/
theorem exec_ownParts {i : Instr} (other : ∀ pin pair, i ≠ .powerOnReset pin pair) (s : State) :
    ∃ x, exec i s = .next (conclude x) ∧ OwnParts i s x := by
  by_cases own : changesSteady i
  swap
  · obtain ⟨x, run, same⟩ := exec_steady i s own
    exact ⟨x, run, .of_steady same⟩
  cases i with
  | powerOnReset pin pair => exact absurd rfl (other pin pair)
  | inhibitStation l p =>
    refine ⟨_, rfl, .inr (.inl ⟨l, p, .inl rfl⟩), .inl ?_, .inl ⟨?_, ?_⟩, .inl ?_, .inl ?_, .of_banks ?_⟩ <;> (repeat' split) <;> simp
  | releaseStation l p =>
    refine ⟨_, rfl, .inr (.inl ⟨l, p, .inr rfl⟩), .inl ?_, .inl ⟨?_, ?_⟩, .inl ?_, .inl ?_, .of_banks ?_⟩ <;> (repeat' split) <;> simp
  | clearHolds p =>
    refine ⟨_, rfl, .inr (.inr ⟨p, rfl⟩), .inl ?_, .inl ⟨?_, ?_⟩, .inl ?_, .inl ?_, .of_banks ?_⟩ <;> (repeat' split) <;> simp
  | setBatchSize p =>
    refine ⟨_, rfl, .inl ?_, .inr ⟨p, rfl⟩, .inl ⟨?_, ?_⟩, .inl ?_, .inl ?_, .of_banks ?_⟩ <;> (repeat' split) <;> simp
  | verdict p =>
    refine ⟨_, rfl, .inl ?_, .inl ?_, .inr ⟨p, rfl⟩, .inl ?_, .inl ?_, .of_banks ?_⟩ <;> (repeat' split) <;> simp
  | markEdge =>
    exact ⟨_, rfl, .inl (by simp), .inl (by simp), .inl (by simp), .inr rfl, .inl (markEdge_strayPatches s),
      .of_banks (by simp)⟩
  | patchPresentEdge =>
    exact ⟨_, rfl, .inl (by simp), .inl (by simp), .inl (by simp), .inl (patchPresentEdge_strayMarks s), .inr rfl,
      .of_banks (by simp)⟩
  | writeBank p =>
    refine ⟨_, rfl, ?_⟩
    (repeat' split)
    · exact .of_steady rfl
    · exact .of_steady rfl
    · rename_i unused
      exact ⟨.inl rfl, .inl rfl, .inl ⟨rfl, rfl⟩, .inl rfl, .inl rfl, stageBank_stages _ (by simpa using unused) p⟩
  | _ => exact own.elim

@[simp] theorem levelChanged_geometry (c : HaltCause) (level was : Bool) (x : State) :
    (levelChanged c level was x).geometry = x.geometry := by
  unfold levelChanged; split <;> simp

/-! ## The geometry record and the levels of the sensors (R135) -/

/-- What a command may change of them: the geometry at WRITE GEOMETRY in CONFIG, each level at its own change. -/
structure OwnInputs (i : Instr) (s t : State) : Prop where
  geometry : t.geometry = s.geometry ∨ (s.line.state = .config ∧ ∃ p, i = .writeGeometry p)
  gumOk : t.sensors.gumOk = s.sensors.gumOk ∨ i = .gumOkChange t.sensors.gumOk
  patchWebOk : t.sensors.patchWebOk = s.sensors.patchWebOk ∨ i = .patchWebOkChange t.sensors.patchWebOk
  estop : t.sensors.estop = s.sensors.estop ∨ i = .estopChange t.sensors.estop
  jam : t.sensors.jam = s.sensors.jam ∨ i = .jamChange t.sensors.jam

theorem OwnInputs.of_eq {i : Instr} {s t : State} (geometry : t.geometry = s.geometry) (sensors : t.sensors = s.sensors) :
    OwnInputs i s t :=
  ⟨.inl geometry, .inl (by rw [sensors]), .inl (by rw [sensors]), .inl (by rw [sensors]), .inl (by rw [sensors])⟩

theorem exec_ownInputs {i : Instr} (other : ∀ pin pair, i ≠ .powerOnReset pin pair) (s : State) :
    ∃ x, exec i s = .next (conclude x) ∧ OwnInputs i s x := by
  cases i with
  | powerOnReset pin pair => exact absurd rfl (other pin pair)
  | writeGeometry p =>
    refine ⟨_, rfl, ?_⟩
    (repeat' split)
    · exact .of_eq rfl rfl
    · rename_i config
      exact ⟨.inr ⟨config, p, rfl⟩, .inl (by simp), .inl (by simp), .inl (by simp), .inl (by simp)⟩
    · exact .of_eq rfl rfl
  | gumOkChange level => refine ⟨_, rfl, .inl ?_, .inr ?_, .inl ?_, .inl ?_, .inl ?_⟩ <;> simp
  | patchWebOkChange level => refine ⟨_, rfl, .inl ?_, .inl ?_, .inr ?_, .inl ?_, .inl ?_⟩ <;> simp
  | estopChange level =>
    exact ⟨_, exec_estopChange level s, .inl (by simp), .inl (by simp), .inl (by simp), .inr (by simp), .inl (by simp)⟩
  | jamChange level =>
    exact ⟨_, exec_jamChange level s, .inl (by simp), .inl (by simp), .inl (by simp), .inl (by simp), .inr (by simp)⟩
  | readTriggers p =>
    refine ⟨_, rfl, .of_eq ?_ ?_⟩ <;> dsimp only <;> (repeat' split) <;> simp
  | _ =>
    refine ⟨_, rfl, .of_eq ?_ ?_⟩ <;> (repeat' split) <;> simp

end Sys2Proof.Machine

/-! # Who changes what at the ports (R153, R156 to R160, R163) -/

namespace Sys2Proof.Machine

/-! ## What answers and events leave of a port -/

/-- The event enables, the link counters and the link flags of a port. -/
def Port.settings (p : Port) : BitVec 13 × Counter × Counter × Counter × BitVec 2 :=
  (p.enable, p.frameErrors, p.overruns, p.timeouts, p.flags)

/-- The ports of two states with the same enables, counters and flags. -/
def SamePorts (s t : State) : Prop := ∀ l, (t.ports.get l).settings = (s.ports.get l).settings

section
variable {s t u : State}

theorem SamePorts.of_posts (h : Posts s t) : SamePorts s t := fun l => by rw [(h l).1]; rfl

theorem SamePorts.of_eq (h : t.ports = s.ports) : SamePorts s t := .of_posts (.of_eq h)

theorem SamePorts.trans (h : SamePorts s t) (h' : SamePorts t u) : SamePorts s u := fun l => (h' l).trans (h l)

/-- A port written with the same enables, counters and flags. -/
theorem SamePorts.of_set {l : Link} {p : Port} (ports : t.ports = s.ports.set l p)
    (same : p.settings = (s.ports.get l).settings) : SamePorts s t := by
  intro k
  rw [ports, PerLink.get_set]
  split
  · rename_i at_l
    rw [same, at_l]
  · rfl

theorem SamePorts.answered (h : SamePorts s t) (l : Link) (c : Command) (status : Status) (payload : List Byte) :
    SamePorts s (answer l c status payload t) :=
  h.trans (.of_set rfl rfl)

end

/-- The commands that change them: the exchanges and timeouts of the links, ENABLE EVENTS and DISABLE EVENTS. -/
def changesPorts : Instr → Prop
  | .powerOnReset _ _ => True
  | .exchangeStart _ => True
  | .exchangeEnd _ _ => True
  | .linkTimeout _ _ => True
  | .enableEvents _ _ => True
  | .disableEvents _ _ => True
  | _ => False

theorem levelChanged_posts (c : HaltCause) (level was : Bool) (x : State) : Posts x (levelChanged c level was x) := by
  unfold levelChanged
  split
  · exact raiseCause_posts c none x
  · exact .refl x

theorem exec_samePorts (i : Instr) (s : State) (other : ¬changesPorts i) :
    ∃ x, exec i s = .next (conclude x) ∧ SamePorts s x := by
  have refl : SamePorts s s := .of_eq rfl
  cases i with
  | powerOnReset | exchangeStart | exchangeEnd | linkTimeout | enableEvents | disableEvents => exact absurd trivial other
  | forwardCountStep elapsed level => exact ⟨_, rfl, .of_posts (forwardCount_posts level (steppedForward elapsed s))⟩
  | backwardCountStep => exact ⟨_, rfl, .of_posts (backwardCount_posts (steppedBackward s))⟩
  | indexEdge elapsed level => exact ⟨_, rfl, .of_posts (indexEdge_posts level (passTime elapsed s))⟩
  | illegalTransition => exact ⟨_, rfl, .of_eq rfl⟩
  | pitchTimerHold => exact ⟨_, rfl, .of_eq rfl⟩
  | markEdge => exact ⟨_, rfl, .of_posts (markEdge_posts s)⟩
  | patchPresentEdge => exact ⟨_, rfl, .of_eq (by simp)⟩
  | foldCheckEdge => exact ⟨_, rfl, .of_posts (foldCheckEdge_posts s)⟩
  | patchWebOkChange level =>
    exact ⟨_, rfl, .of_posts (setFeedCause_posts _ _ { s with sensors.patchWebOk := level })⟩
  | gumOkChange level => exact ⟨_, rfl, .of_posts (setFeedCause_posts _ _ { s with sensors.gumOk := level })⟩
  | estopChange level =>
    exact ⟨_, exec_estopChange level s, .of_posts (levelChanged_posts _ _ _ { s with sensors.estop := level })⟩
  | jamChange level =>
    exact ⟨_, exec_jamChange level s, .of_posts (levelChanged_posts _ _ _ { s with sensors.jam := level })⟩
  | ackEvents l p =>
    refine ⟨_, rfl, ?_⟩
    split
    · exact refl.answered _ _ _ _
    · have acknowledged : ∀ m, SamePorts s (setEvents l m (s.ports.get l).enable s) := fun m => .of_set rfl rfl
      exact (acknowledged _).answered _ _ _ _
  | feedHold l p =>
    refine ⟨_, rfl, ?_⟩
    split
    · exact refl.answered _ _ _ _
    · exact (SamePorts.of_posts (addFeedCause_posts (holdOf l) s)).answered _ _ _ _
  | halt l p =>
    refine ⟨_, rfl, ?_⟩
    (repeat' split)
    · exact refl.answered _ _ _ _
    · exact refl.answered _ _ _ _
    · exact (SamePorts.of_posts (raiseCause_posts .haltCommand (some l) s)).answered _ _ _ _
  | commitGeometry p =>
    refine ⟨_, rfl, ?_⟩
    (repeat' split)
    · exact refl.answered _ _ _ _
    · exact refl.answered _ _ _ _
    · exact (SamePorts.of_posts (commitGeometry_posts s)).answered _ _ _ _
    · exact refl.answered _ _ _ _
  | validateBank p =>
    refine ⟨_, rfl, ?_⟩
    split
    · exact refl.answered _ _ _ _
    · split
      · unfold validateStaging
        split
        · exact refl.answered _ _ _ _
        · have valid : ∀ b, SamePorts s (setBankState b .valid s) := fun b => .of_eq rfl
          exact (valid _).answered _ _ _ _
      all_goals exact refl.answered _ _ _ _
  | armChangeover p =>
    refine ⟨_, rfl, ?_⟩
    (repeat' split)
    · exact refl.answered _ _ _ _
    · exact (SamePorts.of_posts (armBank_posts _ s)).answered _ _ _ _
    · exact refl.answered _ _ _ _
  | start p =>
    refine ⟨_, rfl, ?_⟩
    (repeat' split)
    · exact refl.answered _ _ _ _
    · exact (SamePorts.of_posts (startLine_posts s)).answered _ _ _ _
    · exact refl.answered _ _ _ _
  | drain p =>
    refine ⟨_, rfl, ?_⟩
    (repeat' split)
    · exact refl.answered _ _ _ _
    · exact (SamePorts.of_posts (beginDrain_posts _ s)).answered _ _ _ _
    · exact refl.answered _ _ _ _
  | clearHalt p =>
    refine ⟨_, rfl, ?_⟩
    (repeat' split)
    · exact refl.answered _ _ _ _
    · exact (SamePorts.of_posts (clearHalt_posts s)).answered _ _ _ _
    · exact refl.answered _ _ _ _
  | lineReset p =>
    refine ⟨_, rfl, ?_⟩
    (repeat' split)
    · exact refl.answered _ _ _ _
    · exact (SamePorts.of_posts (lineReset_posts s)).answered _ _ _ _
    · exact refl.answered _ _ _ _
  | takeBatch p =>
    refine ⟨_, rfl, ?_⟩
    split
    · exact refl.answered _ _ _ _
    · split
      · exact refl.answered _ _ _ _
      · split
        · have taken : ∀ rest, SamePorts s (checkBacklog { s with batch.queue := rest }) := fun rest =>
            .of_posts (checkBacklog_posts { s with batch.queue := rest })
          exact (taken _).answered _ _ _ _
        · exact refl.answered _ _ _ _
  | readTriggers p =>
    refine ⟨_, rfl, ?_⟩
    dsimp only
    (repeat' split) <;> refine SamePorts.answered (.of_eq ?_) _ _ _ _ <;> simp
  | _ =>
    -- The other requests answer at their port and post nothing.
    refine ⟨_, rfl, ?_⟩
    (repeat' split) <;> refine SamePorts.answered (.of_eq ?_) _ _ _ _ <;> simp

/-! ## The port's own commands -/

/-- What a command may change at the port of a link. -/
structure OwnPort (i : Instr) (l : Link) (p q : Port) : Prop where
  enable : q.enable = p.enable ∨ ∃ bs, i = .enableEvents l bs ∨ i = .disableEvents l bs
  frameErrors : q.frameErrors = p.frameErrors ∨ ∃ bs, i = .exchangeEnd l bs
  overruns : q.overruns = p.overruns ∨ i = .exchangeStart l
  timeouts : q.timeouts = p.timeouts ∨ ∃ bs, i = .linkTimeout l bs
  flags : q.flags = p.flags ∨ (∃ bs, i = .exchangeEnd l bs ∨ i = .linkTimeout l bs) ∨ i = .exchangeStart l

theorem OwnPort.of_settings {i : Instr} {l : Link} {p q : Port} (h : q.settings = p.settings) : OwnPort i l p q := by
  simp only [Port.settings, Prod.mk.injEq] at h
  obtain ⟨enable, errors, overruns, timeouts, flags⟩ := h
  exact ⟨.inl enable, .inl errors, .inl overruns, .inl timeouts, .inl flags⟩

theorem OwnPort.then_settings {i : Instr} {l : Link} {p q r : Port} (h : OwnPort i l p q)
    (same : r.settings = q.settings) : OwnPort i l p r := by
  simp only [Port.settings, Prod.mk.injEq] at same
  obtain ⟨enable, errors, overruns, timeouts, flags⟩ := same
  exact ⟨enable ▸ h.enable, errors ▸ h.frameErrors, overruns ▸ h.overruns, timeouts ▸ h.timeouts, flags ▸ h.flags⟩

/-- One port written, and the others left. -/
theorem ownPort_of_set {i : Instr} {l : Link} {p : Port} {s t : State} (ports : t.ports = s.ports.set l p)
    (own : OwnPort i l (s.ports.get l) p) (k : Link) : OwnPort i k (s.ports.get k) (t.ports.get k) := by
  rw [ports, PerLink.get_set]
  split
  · rename_i at_l
    exact at_l ▸ own
  · exact .of_settings rfl

theorem start_own (l : Link) (p : Port) : OwnPort (.exchangeStart l) l p p.start := by
  have enable : p.start.enable = p.enable := by unfold Port.start; (repeat' split) <;> rfl
  have errors : p.start.frameErrors = p.frameErrors := by unfold Port.start; (repeat' split) <;> rfl
  have timeouts : p.start.timeouts = p.timeouts := by unfold Port.start; (repeat' split) <;> rfl
  exact ⟨.inl enable, .inl errors, .inr rfl, .inl timeouts, .inr (.inr rfl)⟩

theorem timeout_own (l : Link) (bs : List Byte) (p : Port) : OwnPort (.linkTimeout l bs) l p (p.timeout bs) := by
  have enable : (p.timeout bs).enable = p.enable := by simp only [Port.timeout]; (repeat' split) <;> rfl
  have errors : (p.timeout bs).frameErrors = p.frameErrors := by simp only [Port.timeout]; (repeat' split) <;> rfl
  have overruns : (p.timeout bs).overruns = p.overruns := by simp only [Port.timeout]; (repeat' split) <;> rfl
  exact ⟨.inl enable, .inl errors, .inl overruns, .inr ⟨bs, rfl⟩, .inr (.inl ⟨bs, .inr rfl⟩)⟩

theorem finish_own (l : Link) (bs : List Byte) (x : Exchange) (p q : Port) (enable : q.enable = p.enable)
    (overruns : q.overruns = p.overruns) (timeouts : q.timeouts = p.timeouts) :
    OwnPort (.exchangeEnd l bs) l p (q.finish l x) := by
  have finished : (q.finish l x).enable = q.enable ∧ (q.finish l x).overruns = q.overruns
      ∧ (q.finish l x).timeouts = q.timeouts := by
    unfold Port.finish Port.takeFrame
    (repeat' split) <;> exact ⟨rfl, rfl, rfl⟩
  obtain ⟨kept, same, still⟩ := finished
  exact ⟨.inl (kept.trans enable), .inr ⟨bs, rfl⟩, .inl (same.trans overruns), .inl (still.trans timeouts),
    .inr (.inl ⟨bs, .inl rfl⟩)⟩

theorem endExchange_own (l : Link) (bs : List Byte) (s : State) (k : Link) :
    OwnPort (.exchangeEnd l bs) k (s.ports.get k) ((endExchange l bs s).ports.get k) := by
  simp only [endExchange]
  split
  · exact .of_settings rfl
  · rename_i x _
    have chosen : (if x.reported &&& x.own = 0 then (0, s) else choose 2 s).2.ports = s.ports := by
      split <;> simp
    refine ownPort_of_set (congrArg (fun ports : PerLink Port => ports.set l _) chosen) ?_ k
    exact finish_own l bs _ _ _ rfl rfl rfl

/-- An enable set written and the request answered (R160). -/
theorem setEvents_own {i : Instr} (l : Link) (m n : BitVec 13) (c : Command) (s : State)
    (own : ∃ bs, i = .enableEvents l bs ∨ i = .disableEvents l bs) (k : Link) :
    OwnPort i k (s.ports.get k) ((answer l c .ok [] (setEvents l m n s)).ports.get k) := by
  have written : OwnPort i l (s.ports.get l) { s.ports.get l with pending := m, enable := n } :=
    ⟨.inr own, .inl rfl, .inl rfl, .inl rfl, .inl rfl⟩
  have answered : SamePorts (setEvents l m n s) (answer l c .ok [] (setEvents l m n s)) := .of_set rfl rfl
  exact (ownPort_of_set (t := setEvents l m n s) rfl written k).then_settings (answered k)

/-- Every command but POWER_ON_RESET keeps the ports' settings, but for its own part. -/
theorem exec_ownPorts {i : Instr} (other : ∀ pin pair, i ≠ .powerOnReset pin pair) (s : State) :
    ∃ x, exec i s = .next (conclude x) ∧ ∀ l, OwnPort i l (s.ports.get l) (x.ports.get l) := by
  by_cases own : changesPorts i
  swap
  · obtain ⟨x, run, same⟩ := exec_samePorts i s own
    exact ⟨x, run, fun l => .of_settings (same l)⟩
  cases i with
  | powerOnReset pin pair => exact absurd rfl (other pin pair)
  | exchangeStart l => exact ⟨_, rfl, ownPort_of_set rfl (start_own l _)⟩
  | exchangeEnd l bs => exact ⟨_, rfl, endExchange_own l bs s⟩
  | linkTimeout l bs => exact ⟨_, rfl, ownPort_of_set rfl (timeout_own l bs _)⟩
  | enableEvents l bs =>
    refine ⟨_, rfl, ?_⟩
    split
    · exact ownPort_of_set rfl (.of_settings rfl)
    · exact setEvents_own l _ _ _ s ⟨bs, .inl rfl⟩
  | disableEvents l bs =>
    refine ⟨_, rfl, ?_⟩
    split
    · exact ownPort_of_set rfl (.of_settings rfl)
    · exact setEvents_own l _ _ _ s ⟨bs, .inr rfl⟩
  | _ => exact own.elim

end Sys2Proof.Machine

/-! # What only the turns of the shaft change, and who changes the rest (R33, R36, R88, R89, R104) -/

namespace Sys2Proof.Machine

/-! ## Outside the turns -/

/-- The counters that the turns count: those of the reasons, of the unverified passes and of the lost triggers. -/
def VerdictUnit.turnCounts (u : VerdictUnit) : ReasonCounters × Counter × Counter :=
  (u.reasonCounts, u.unverifiedPasses, u.triggerOverflows)

/-- What the stray blanks are, and whether the fold window is barred. -/
def GumFold.strayAndBarred (u : GumFold) : Counter × Bool := (u.strayBlanks, u.foldBarred)

/-- What only the turns of the shaft change, apart from LINE RESET and the FOLD_CHECK edge. -/
def turned (s : State) :
    (List (Seq × BankId × Nat) × Seq × Counter × Counter × Counter × Counter) × (ReasonCounters × Counter × Counter)
      × Counter × Bool :=
  (s.chain.places, s.verdicts.turnCounts, s.gumFold.strayAndBarred)

section
variable (s : State) {t : State}

theorem turned_of (places : t.chain.places = s.chain.places) (counts : t.verdicts.turnCounts = s.verdicts.turnCounts)
    (fold : t.gumFold.strayAndBarred = s.gumFold.strayAndBarred) : turned t = turned s := by
  rw [turned, places, counts, fold, turned]

theorem enterHalt_strayAndBarred (c : HaltCause) (l : Option Link) :
    (enterHalt c l s).gumFold.strayAndBarred = s.gumFold.strayAndBarred := by
  simp only [enterHalt]
  split <;> rfl

theorem raiseCause_turned (c : HaltCause) (l : Option Link) : turned (raiseCause c l s) = turned s := by
  refine turned_of s (by simp) (by simp) ?_
  unfold raiseCause
  split
  case h_1 | h_2 => rfl
  all_goals exact enterHalt_strayAndBarred s c l

theorem examineLevels_turned : turned (examineLevels s) = turned s :=
  runAll_proj turned (fun _ _ => rfl) (fun c x => raiseCause_turned x c none) _ s

theorem takeChangeover_turned : turned (takeChangeover s) = turned s :=
  turned_of s (by simp) (by simp) (by simp)

theorem drainEnded_turned : turned (drainEnded s) = turned s := by
  rw [drainEnded_written]
  rfl

theorem completeDrain_turned : turned (completeDrain s) = turned s := by
  rw [completeDrain_eq, drainDone_eq, examineLevels_turned, takeChangeover_turned, drainEnded_turned]

theorem backwardCount_turned : turned (backwardCount s) = turned s :=
  backwardCount_induct (fun x => turned x = turned s) (fun _ _ h => h) (fun _ _ h => h)
    (fun c x h => (raiseCause_turned x c none).trans h) s rfl

theorem levelChanged_turned (c : HaltCause) (level was : Bool) : turned (levelChanged c level was s) = turned s := by
  unfold levelChanged
  split
  · exact raiseCause_turned s c none
  · rfl

theorem commitGeometry_turned : turned (commitGeometry s) = turned s := by
  rw [commitGeometry_eq, examineLevels_turned]
  rfl

theorem beginDrain_turned (close : Bool) : turned (beginDrain close s) = turned s := by
  simp only [beginDrain]
  split
  · exact completeDrain_turned (draining close s)
  · rfl

theorem takeVerdict_turned (q : Seq) (result : VerdictResult) (cause : Nat) :
    turned (takeVerdict q result cause s).2 = turned s := by
  refine turned_of s (by simp) ?_ (by simp)
  unfold takeVerdict
  (repeat' split) <;> rfl

end

/-- The commands that change it. -/
def changesTurned : Instr → Prop
  | .powerOnReset _ _ => True
  | .forwardCountStep _ _ => True
  | .indexEdge _ _ => True
  | .foldCheckEdge => True
  | .lineReset _ => True
  | _ => False

theorem exec_turned (i : Instr) (s : State) (other : ¬changesTurned i) :
    ∃ x, exec i s = .next (conclude x) ∧ turned x = turned s := by
  cases i with
  | powerOnReset | forwardCountStep | indexEdge | foldCheckEdge | lineReset => exact absurd trivial other
  | backwardCountStep => exact ⟨_, rfl, backwardCount_turned (steppedBackward s)⟩
  | estopChange level => exact ⟨_, exec_estopChange level s, levelChanged_turned { s with sensors.estop := level } _ _ _⟩
  | jamChange level => exact ⟨_, exec_jamChange level s, levelChanged_turned { s with sensors.jam := level } _ _ _⟩
  | halt l p =>
    refine ⟨_, rfl, ?_⟩
    (repeat' split)
    · rfl
    · rfl
    · exact raiseCause_turned s _ _
  | commitGeometry p =>
    refine ⟨_, rfl, ?_⟩
    (repeat' split)
    · rfl
    · rfl
    · exact commitGeometry_turned s
    · rfl
  | releaseGeometry p =>
    refine ⟨_, rfl, ?_⟩
    (repeat' split) <;> rfl
  | drain p =>
    refine ⟨_, rfl, ?_⟩
    (repeat' split)
    · rfl
    · exact beginDrain_turned s _
    · rfl
  | readTriggers p =>
    refine ⟨_, rfl, ?_⟩
    dsimp only
    (repeat' split) <;> rfl
  | verdict p =>
    refine ⟨_, rfl, ?_⟩
    split
    · rfl
    · exact takeVerdict_turned s _ _ _
  | _ =>
    refine ⟨_, rfl, turned_of s ?_ ?_ ?_⟩ <;> (repeat' split) <;> simp

/-! ## LINE RESET, the FOLD_CHECK edge and the turns -/

/-- What a command may change of it. -/
structure OwnCounts (i : Instr) (s t : State) : Prop where
  purged : t.chain.purged = s.chain.purged ∨ ∃ p, i = .lineReset p
  counts : (t.chain.fed = s.chain.fed ∧ t.chain.good = s.chain.good ∧ t.chain.rejected = s.chain.rejected
    ∧ t.chain.nextSeq = s.chain.nextSeq ∧ t.verdicts.reasonCounts = s.verdicts.reasonCounts) ∨ turnsForward i
  quality : (t.verdicts.unverifiedPasses = s.verdicts.unverifiedPasses
      ∧ t.verdicts.triggerOverflows = s.verdicts.triggerOverflows ∧ t.gumFold.strayBlanks = s.gumFold.strayBlanks)
    ∨ turnsForward i ∨ (i = .foldCheckEdge ∧ t.verdicts = s.verdicts)
  barred : t.gumFold.foldBarred = s.gumFold.foldBarred ∨ (∃ p, i = .lineReset p) ∨ turnsForward i

section
variable {i : Instr} {s t : State}

theorem OwnCounts.of_turned (h : turned t = turned s) : OwnCounts i s t := by
  simp only [turned, Chain.places, VerdictUnit.turnCounts, GumFold.strayAndBarred, Prod.mk.injEq] at h
  obtain ⟨⟨-, next, fed, good, rejected, purged⟩, ⟨reasons, passes, lost⟩, blanks, barred⟩ := h
  exact ⟨.inl purged, .inl ⟨fed, good, rejected, next, reasons⟩, .inl ⟨passes, lost, blanks⟩, .inl barred⟩

theorem OwnCounts.of_turn (turns : turnsForward i) (purged : t.chain.purged = s.chain.purged) : OwnCounts i s t :=
  ⟨.inl purged, .inr turns, .inr (.inl turns), .inr (.inr turns)⟩

theorem KeepsRecords.purged (h : KeepsRecords s t) : t.chain.purged = s.chain.purged :=
  congrArg (fun p => p.2.2.2.2.2) h.places

/-- A boundary purges nothing (R36). -/
theorem purged_of_moves (h : KeepsRecords s t ∨ MovesOnce s t) : t.chain.purged = s.chain.purged := by
  rcases h with kept | ⟨m, before, after⟩
  · exact kept.purged
  · rw [after.purged, chainBoundary_chain, before.purged]

end

theorem lineReset_turned (s : State) : turned (lineReset s) = turned (unitsReset s) := by
  rw [lineReset_eq, examineLevels_turned, takeChangeover_turned]

/-- LINE RESET purges the chain and bars the fold window (R36, R89). -/
theorem OwnCounts.of_reset {s t : State} (h : turned t = turned (unitsReset s)) (p : List Byte) :
    OwnCounts (.lineReset p) s t := by
  have chain : (unitsReset s).chain = { s.chain with
      records := [], purged := addCount s.chain.purged s.chain.records } := by
    change (discardRecords (purgeBatch s)).chain = _
    rw [discardRecords_chain, purgeBatch_chain]
  have verdicts : (unitsReset s).verdicts = { s.verdicts with triggerLog := [] } := by
    change { (discardRecords (purgeBatch s)).verdicts with triggerLog := [] } = _
    rw [discardRecords_verdicts, purgeBatch_verdicts]
  have blanks : (unitsReset s).gumFold.strayBlanks = s.gumFold.strayBlanks := by
    change (discardRecords (purgeBatch s)).gumFold.strayBlanks = _
    rw [discardRecords_gumFold, purgeBatch_gumFold]
  simp only [turned, chain, verdicts, blanks, Chain.places, VerdictUnit.turnCounts, GumFold.strayAndBarred,
    Prod.mk.injEq] at h
  obtain ⟨⟨-, next, fed, good, rejected, -⟩, ⟨reasons, passes, lost⟩, same, -⟩ := h
  exact ⟨.inr ⟨p, rfl⟩, .inl ⟨fed, good, rejected, next, reasons⟩, .inl ⟨passes, lost, same⟩, .inr (.inl ⟨p, rfl⟩)⟩

/-- Every command but POWER_ON_RESET keeps them, but for its own part. -/
theorem exec_ownCounts {i : Instr} (other : ∀ pin pair, i ≠ .powerOnReset pin pair) (s : State) :
    ∃ x, exec i s = .next (conclude x) ∧ OwnCounts i s x := by
  by_cases own : changesTurned i
  swap
  · obtain ⟨x, run, same⟩ := exec_turned i s own
    exact ⟨x, run, .of_turned same⟩
  cases i with
  | powerOnReset pin pair => exact absurd rfl (other pin pair)
  | forwardCountStep elapsed level =>
    have purged := purged_of_moves (forwardCount_moves level (steppedForward elapsed s))
    exact ⟨_, rfl, .of_turn trivial purged⟩
  | indexEdge elapsed level =>
    have purged := purged_of_moves (indexEdge_moves level (passTime elapsed s))
    exact ⟨_, rfl, .of_turn trivial purged⟩
  | foldCheckEdge =>
    have barred : (foldCheckEdge s).gumFold.foldBarred = s.gumFold.foldBarred := by
      unfold foldCheckEdge
      split
      · exact foldReport_barred s
      · rfl
    exact ⟨_, rfl, .inl (by simp), .inl (by simp), .inr (.inr ⟨rfl, foldCheckEdge_verdicts s⟩), .inl barred⟩
  | lineReset p =>
    refine ⟨_, rfl, ?_⟩
    (repeat' split)
    · exact .of_turned rfl
    · refine OwnCounts.of_reset ?_ p
      exact lineReset_turned s
    · exact .of_turned rfl
  | _ => exact own.elim

/-! ## O6 -/

/-- What holds of the state that a command concludes holds of the state after it, the reset pin being released. -/
theorem exec_after {i : Instr} {s t : State} {Holds : State → Prop} (pin : s.sensors.resetPin = false)
    (run : exec i s = .next t) (other : ∀ pin pair, i ≠ .powerOnReset pin pair)
    (effect : ∃ x, exec i s = .next (conclude x) ∧ Holds x) (pins : ∀ x p, Holds x → Holds { x with pins := p }) :
    Holds t := by
  obtain ⟨x, hx, holds⟩ := effect
  obtain ⟨-, rfl⟩ := exec_released pin run other hx
  exact pins x _ holds

section
variable {i : Instr} {s t : State} (pin : s.sensors.resetPin = false) (run : exec i s = .next t)
  (other : ∀ pin pair, i ≠ .powerOnReset pin pair)
include pin run other

theorem ownInputs_after : OwnInputs i s t :=
  exec_after pin run other (exec_ownInputs other s) fun _ _ h => ⟨h.geometry, h.gumOk, h.patchWebOk, h.estop, h.jam⟩

theorem ownParts_after : OwnParts i s t :=
  exec_after pin run other (exec_ownParts other s) fun _ _ h =>
    ⟨h.holders, h.nextSize, h.verdicts, h.strayMarks, h.strayPatches, h.fields⟩

theorem ownPorts_after (l : Link) : OwnPort i l (s.ports.get l) (t.ports.get l) :=
  exec_after (Holds := fun x => ∀ l, OwnPort i l (s.ports.get l) (x.ports.get l)) pin run other
    (exec_ownPorts other s) (fun _ _ h => h) l

theorem ownCounts_after : OwnCounts i s t :=
  exec_after pin run other (exec_ownCounts other s) fun _ _ h => ⟨h.purged, h.counts, h.quality, h.barred⟩

end

/-- Settles O6: what a command concludes, part by part, and with the reset pin released that state stands. -/
theorem onlyItsOwnCommandsChangeIt : Obligations.OnlyItsOwnCommandsChangeIt := by
  refine ⟨fun i s t pin run other => ?_, fun i s t pin run other => ?_⟩
  · have inputs := ownInputs_after pin run other
    have parts := ownParts_after pin run other
    refine ⟨inputs.geometry, parts.fields, inputs.gumOk, inputs.patchWebOk, inputs.estop, inputs.jam,
      (exec_resetPin run other).trans pin, parts.holders, parts.nextSize, fun l => ?_⟩
    have port := ownPorts_after pin run other l
    exact ⟨port.enable, port.frameErrors, port.overruns, port.timeouts, port.flags⟩
  · have parts := ownParts_after pin run other
    have counts := ownCounts_after pin run other
    exact ⟨counts.purged, counts.counts, parts.verdicts, counts.quality, parts.strayMarks, parts.strayPatches,
      counts.barred⟩

end Sys2Proof.Machine

/-! # The exchanges of the links (R151 to R153, R155 to R158, R164) -/

namespace Sys2Proof.Machine

/-! ## A port replaced by itself -/

theorem PerLink.set_get_self {α : Type} (x : PerLink α) (l : Link) : x.set l (x.get l) = x := by
  cases l <;> rfl

theorem setPort_self (l : Link) (s : State) : setPort l (s.ports.get l) s = s := by
  rw [setPort, PerLink.set_get_self]

theorem setPort_get (l : Link) (p : Port) (s : State) (k : Link) :
    (setPort l p s).ports.get k = if k = l then p else s.ports.get k :=
  PerLink.get_set s.ports l p k

/-! ## The start of an exchange (R151, R152, R156) -/

section
variable {p : Port}

theorem Port.start_exchanging (exchange : p.exchange ≠ none) : p.start = p := by
  unfold Port.start
  split
  · rfl
  · next none => exact absurd none exchange

theorem Port.start_idle (exchange : p.exchange = none) (idle : p.state = .idle) : p.start = { p with
    state := .receiving, buffer := [], shifted := []
    exchange := some ⟨false, false, responseFrame p.flags p.toShift, p.flags, 0, 0⟩ } := by
  rw [Port.start, exchange, idle]

theorem Port.start_working (exchange : p.exchange = none) (working : p.state = .working) : p.start = { p with
    flags := p.flags ||| overrunSeen, overruns := p.overruns + 1, shifted := []
    exchange := some ⟨true, false, responseFrame p.flags busyResponse, p.flags, overrunSeen, 0⟩ } := by
  rw [Port.start, exchange, working]

end

/-- Settles O29: the start by the port's state; the body shifted out is that of the response held, of NO_RESPONSE or of
BUSY. -/
theorem exchangeStartShiftsOutTheResponse : Obligations.ExchangeStartShiftsOutTheResponse := by
  intro l s
  dsimp only
  have run : exec (.exchangeStart l) s = .next (conclude (setPort l (s.ports.get l).start s)) := rfl
  rw [run]
  refine ⟨fun exchange => ?_, fun exchange idle => ?_, fun exchange working => ?_⟩
  · rw [Port.start_exchanging exchange, setPort_self]
  · rw [Port.start_idle exchange idle]
    refine ⟨responseBody (s.ports.get l).flags (s.ports.get l).toShift, ?_, rfl⟩
    unfold Port.toShift
    cases (s.ports.get l).held <;> rfl
  · rw [Port.start_working exchange working]
    exact ⟨responseBody (s.ports.get l).flags busyResponse, rfl, rfl⟩

/-! ## The checks of a received frame (R153, R155) -/

theorem Command.ofCode_code (c : Command) : Command.ofCode c.code = some c := by
  cases c <;> decide

theorem Command.ofCode_none {code : Byte} (other : ∀ c : Command, c.code ≠ code) : Command.ofCode code = none := by
  simpa [Command.ofCode] using fun c _ => other c

/-- A command that its link accepts is a request of that link (R153, R155). -/
theorem Command.toInstr_request {c : Command} {l : Link} (accepted : c.acceptedOn l = true) (payload : List Byte) :
    (c.toInstr l payload).request? = some (l, c, payload) := by
  cases c with
  | collect | readStatus | readEvents | ackEvents | enableEvents | disableEvents | readCounters | feedHold | feedRelease
  | inhibitStation | releaseStation | halt | readRecord => rfl
  | _ =>
    -- The others are accepted on one link alone.
    obtain rfl := eq_of_beq accepted
    rfl

/-- Steps 1 to 4 of R153, each a fact of its own. -/
theorem frameSound_iff (buffer : List Byte) : frameSound buffer = true ↔
    buffer.head? = some 0xB5#8 ∧ 3 ≤ buffer.length ∧ byteAt buffer 2 ≤ 56 ∧ byteAt buffer 2 + 4 ≤ buffer.length
      ∧ crc8 ((buffer.drop 1).take (byteAt buffer 2 + 2)) = buffer.getD (byteAt buffer 2 + 3) 0 := by
  simp [frameSound, syncByte, and_assoc]

theorem checkFrame_unsound {buffer : List Byte} (unsound : frameSound buffer = false) (l : Link) :
    checkFrame l buffer = .frameError := by
  rw [checkFrame, unsound]
  rfl

section
variable {code : Byte} {payload : List Byte} (fits : payload.length ≤ 56) (rest : List Byte)
include fits

theorem byteAt_requestFrame : byteAt (requestFrame code payload ++ rest) 2 = payload.length := by
  change (BitVec.ofNat 8 payload.length).toNat = payload.length
  rw [BitVec.toNat_ofNat]
  omega

/-- A request frame with its length and its CRC is sound, whatever follows it. -/
theorem frameSound_requestFrame : frameSound (requestFrame code payload ++ rest) = true := by
  rw [frameSound_iff, byteAt_requestFrame fits rest]
  refine ⟨rfl, ?_, fits, ?_, ?_⟩
  · simp [requestFrame, requestBody]
  · simp [requestFrame, requestBody]
  · have length : (requestBody code payload).length = payload.length + 2 := rfl
    have span : ((requestFrame code payload ++ rest).drop 1).take (payload.length + 2) = requestBody code payload := by
      simp [requestFrame, ← length]
    have crc : (requestFrame code payload ++ rest).getD (payload.length + 3) 0 = crc8 (requestBody code payload) := by
      simp [requestFrame, ← length]
    rw [span, crc]

theorem payload_requestFrame :
    ((requestFrame code payload ++ rest).drop 3).take (byteAt (requestFrame code payload ++ rest) 2) = payload := by
  rw [byteAt_requestFrame fits rest]
  simp [requestFrame, requestBody]

theorem checkFrame_unknownCommand (other : ∀ c : Command, c.code ≠ code) (l : Link) :
    checkFrame l (requestFrame code payload ++ rest) = .unknownCommand code := by
  have byte : (requestFrame code payload ++ rest).getD 1 0 = code := rfl
  rw [checkFrame, frameSound_requestFrame fits rest, if_pos rfl, byte, Command.ofCode_none other]

/-- The buffer stores 60 bytes, and no request frame is longer (R152, R164). -/
theorem take_requestFrame :
    ∃ stored, (requestFrame code payload ++ rest).take 60 = requestFrame code payload ++ stored := by
  have length : (requestFrame code payload).length ≤ 60 := by simp [requestFrame, requestBody]; omega
  exact ⟨_, by rw [List.take_append, List.take_of_length_le length]⟩

end

theorem checkFrame_command {payload : List Byte} (fits : payload.length ≤ 56) (rest : List Byte) (c : Command) (l : Link) :
    checkFrame l (requestFrame c.code payload ++ rest)
      = if c.acceptedOn l then .request ⟨c, payload⟩ else .notPermitted c := by
  have byte : (requestFrame c.code payload ++ rest).getD 1 0 = c.code := rfl
  rw [checkFrame, frameSound_requestFrame fits rest, if_pos rfl, byte, Command.ofCode_code,
    payload_requestFrame fits rest]

/-! ## The end of an exchange (R152, R153, R156 to R158) -/

/-- An exchange with more bytes clocked. -/
def Exchange.clockedOn (x : Exchange) (n : Nat) : Exchange := { x with clocked := x.clocked + n }

/-- The port as the end of its exchange leaves it; `kept` says what becomes of a flag that the exchange both reported and
added (log 9). -/
def Port.ended (l : Link) (x : Exchange) (arrived : List Byte) (kept : Bool) (p : Port) : Port :=
  ({ p.receive x arrived with flags := flagsAfter (x.clockedOn arrived.length) kept p.flags } : Port).finish l
    (x.clockedOn arrived.length)

section
variable {l : Link} {s : State} {x : Exchange} (arrived : List Byte)

theorem exec_exchangeEnd_none (exchange : (s.ports.get l).exchange = none) :
    exec (.exchangeEnd l arrived) s = .next (conclude s) := by
  simp only [exec, execExchangeEnd, endExchange, exchange]

/-- An exchange that added no flag of those it reported ends in one way. -/
theorem exec_exchangeEnd_settled (exchange : (s.ports.get l).exchange = some x) (settled : x.reported &&& x.own = 0) :
    exec (.exchangeEnd l arrived) s = .next (conclude (setPort l ((s.ports.get l).ended l x arrived true) s)) := by
  simp only [exec, execExchangeEnd, endExchange, exchange, if_pos settled]
  rfl

/-- Any exchange ends in one of the two ways that log 9 leaves open. -/
theorem exec_exchangeEnd_some (exchange : (s.ports.get l).exchange = some x) : ∃ kept choices,
    exec (.exchangeEnd l arrived) s
      = .next (conclude (setPort l ((s.ports.get l).ended l x arrived kept) { s with choices := choices })) := by
  by_cases settled : x.reported &&& x.own = 0
  · exact ⟨true, s.choices, exec_exchangeEnd_settled arrived exchange settled⟩
  · obtain ⟨n, chosen⟩ := choose_state 2 s
    refine ⟨(choose 2 s).1 == 0, n, ?_⟩
    simp only [exec, execExchangeEnd, endExchange, exchange, if_neg settled, chosen]
    rfl

end

/-- A flag that the exchange did not add itself goes if it was reported and the frame shifted out whole (R158). -/
theorem flagsAfter_own {x : Exchange} (own : x.own = 0) (kept : Bool) (flags : BitVec 2) :
    flagsAfter x kept flags = if x.frame.length ≤ x.clocked then flags &&& ~~~x.reported else flags := by
  have all : x.reported &&& ~~~(0 : BitVec 2) = x.reported := BitVec.and_allOnes
  rw [flagsAfter, own, all, ite_self]

/-- A frame that was not shifted out whole takes no flag away (R158). -/
theorem flagsAfter_short {x : Exchange} (short : x.clocked < x.frame.length) (kept : Bool) (flags : BitVec 2) :
    flagsAfter x kept flags = flags :=
  if_neg (Nat.not_le_of_lt short)

/-- R158 flag by flag: the two ways of log 9 differ only in a flag that the exchange both reported and added. -/
theorem flagsAfter_getLsbD {x : Exchange} (whole : x.frame.length ≤ x.clocked) (kept : Bool) (flags : BitVec 2) (k : Nat) :
    (x.reported.getLsbD k = false → (flagsAfter x kept flags).getLsbD k = flags.getLsbD k)
      ∧ (x.reported.getLsbD k = true → x.own.getLsbD k = false → (flagsAfter x kept flags).getLsbD k = false) := by
  have bit : (flagsAfter x kept flags).getLsbD k
      = (flags.getLsbD k && !(x.reported.getLsbD k && !(kept && x.own.getLsbD k))) := by
    rw [flagsAfter, if_pos whole]
    by_cases flag : k < 2
    · cases kept <;> simp [flag]
    · have none : flags.getLsbD k = false := BitVec.getLsbD_of_ge _ _ (Nat.le_of_not_lt flag)
      cases kept <;> simp [none]
  rw [bit]
  refine ⟨fun unreported => ?_, fun reported alone => ?_⟩
  · simp [unreported]
  · simp [reported, alone]

section
variable {x : Exchange} {p : Port}

/-- A busy or an abandoned exchange stores no byte (R152, R156, R157). -/
theorem Port.receive_silent (silent : (x.busy || x.abandoned) = true) (arrived : List Byte) :
    p.receive x arrived = { p with
      shifted := p.shifted ++ carriedOut x arrived.length, exchange := some (x.clockedOn arrived.length) } := by
  rw [Port.receive, if_pos silent]
  rfl

/-- Any other stores the first 60 (R152). -/
theorem Port.receive_stores (stores : (x.busy || x.abandoned) = false) (arrived : List Byte) :
    p.receive x arrived = { p with
      buffer := (p.buffer ++ arrived).take 60, shifted := p.shifted ++ carriedOut x arrived.length
      exchange := some (x.clockedOn arrived.length) } := by
  rw [Port.receive, stores]
  rfl

theorem Port.finish_busy (busy : x.busy = true) (l : Link) : p.finish l x = { p with
    exchange := none, state := if p.work.isSome then .working else .idle } := by
  rw [Port.finish, if_pos busy]

theorem Port.finish_abandoned (busy : x.busy = false) (abandoned : x.abandoned = true) (l : Link) : p.finish l x = { p with
    exchange := none, state := .idle, buffer := [] } := by
  rw [Port.finish, busy, if_pos abandoned]
  rfl

theorem Port.finish_idle (busy : x.busy = false) (abandoned : x.abandoned = false) (l : Link) : p.finish l x =
    { ({ p with exchange := none, held := none } : Port).takeFrame l with buffer := [] } := by
  rw [Port.finish, busy, abandoned]
  rfl

theorem Port.takeFrame_flags (l : Link) : (p.takeFrame l).flags = p.flags := by
  unfold Port.takeFrame
  split <;> rfl

/-- Nothing that the port does at the end of an exchange touches the link flags (R153, R158). -/
theorem Port.finish_flags (l : Link) : (p.finish l x).flags = p.flags := by
  unfold Port.finish
  split
  · rfl
  · split
    · rfl
    · exact Port.takeFrame_flags l

theorem Port.ended_flags (l : Link) (arrived : List Byte) (kept : Bool) :
    (p.ended l x arrived kept).flags = flagsAfter (x.clockedOn arrived.length) kept p.flags :=
  Port.finish_flags l

end

/-- The port at the end of an exchange begun in IDLE and not abandoned, as it turns to its receive buffer (R152, R158). -/
def Port.received (x : Exchange) (arrived : List Byte) (p : Port) : Port := { p with
  exchange := none, held := none, buffer := (p.buffer ++ arrived).take 60
  shifted := p.shifted ++ carriedOut x arrived.length
  flags := if x.frame.length ≤ x.clocked + arrived.length then p.flags &&& ~~~x.reported else p.flags }

section
variable {l : Link} {s : State} {x : Exchange} (exchange : (s.ports.get l).exchange = some x) (busy : x.busy = false)
  (abandoned : x.abandoned = false) (own : x.own = 0) (arrived : List Byte)
include exchange busy abandoned own

/-- At its end the port acts on its buffer (R153). -/
theorem exec_exchangeEnd_received : exec (.exchangeEnd l arrived) s = .next (conclude { s with
    ports := s.ports.set l { ((s.ports.get l).received x arrived).takeFrame l with buffer := [] } }) := by
  have ended : (s.ports.get l).ended l x arrived true
      = { ((s.ports.get l).received x arrived).takeFrame l with buffer := [] } := by
    rw [Port.ended, Port.finish_idle (x := x.clockedOn _) busy abandoned, Port.receive_stores (by simp [busy, abandoned]),
      flagsAfter_own (x := x.clockedOn _) own]
    rfl
  rw [exec_exchangeEnd_settled arrived exchange (by simp [own]), ended]
  rfl

end

/-- A request frame with whatever was clocked after it, as the buffer keeps it. -/
theorem Port.received_frame {p : Port} {code : Byte} {payload arrived extra : List Byte} (fits : payload.length ≤ 56)
    (frame : p.buffer ++ arrived = requestFrame code payload ++ extra) (x : Exchange) :
    ∃ stored, (p.received x arrived).buffer = requestFrame code payload ++ stored := by
  rw [Port.received, frame]
  exact take_requestFrame fits extra

/-- Settles O30: what the checks make of the buffer, and the port that follows. -/
theorem exchangeEndChecksTheFrame : Obligations.ExchangeEndChecksTheFrame := by
  refine ⟨fun l c payload arrived extra x s accepted fits exchange busy abandoned own frame => ⟨?_, ?_⟩,
    fun l arrived x s exchange busy abandoned own => ?_⟩
  · obtain ⟨stored, buffer⟩ := Port.received_frame fits frame x
    rw [exec_exchangeEnd_received exchange busy abandoned own, Port.takeFrame, buffer, checkFrame_command fits,
      if_pos accepted]
    rfl
  · exact Command.toInstr_request accepted payload
  · rw [exec_exchangeEnd_received exchange busy abandoned own]
    refine ⟨fun code payload extra frame other fits => ?_, fun c payload extra frame barred fits => ?_, fun fails => ?_⟩
    · obtain ⟨stored, buffer⟩ := Port.received_frame fits frame x
      rw [Port.takeFrame, buffer, checkFrame_unknownCommand fits stored other]
      rfl
    · obtain ⟨stored, buffer⟩ := Port.received_frame fits frame x
      rw [Port.takeFrame, buffer, checkFrame_command fits, barred]
      rfl
    · have unsound : frameSound ((s.ports.get l).received x arrived).buffer = false := by
        rw [← Bool.not_eq_true, frameSound_iff]
        rintro ⟨sync, three, most, whole, crc⟩
        rcases fails with h | h | h | h | h
        · exact h sync
        · exact absurd three (Nat.not_le_of_lt h)
        · exact absurd most (Nat.not_le_of_lt h)
        · exact absurd whole (Nat.not_le_of_lt h)
        · exact h crc
      rw [Port.takeFrame, checkFrame_unsound unsound]
      rfl

/-! ## The 10 ms of an exchange (R152, R157) -/

section
variable {p : Port} {x : Exchange} (exchange : p.exchange = some x) (arrived : List Byte)
include exchange

/-- A busy or an abandoned exchange is not abandoned (R156, log 8). -/
theorem Port.timeout_silent (silent : (x.busy || x.abandoned) = true) : p.timeout arrived = { p with
    shifted := p.shifted ++ carriedOut x arrived.length, exchange := some (x.clockedOn arrived.length) } := by
  simp only [Port.timeout, exchange, silent, Bool.true_or, if_true, Port.receive_silent silent]

variable (stores : (x.busy || x.abandoned) = false)
include stores

theorem Port.timeout_complete
    (complete : frameComplete ((p.buffer ++ arrived).take 60) (x.clocked + arrived.length) = true) :
    p.timeout arrived = { p with
      buffer := (p.buffer ++ arrived).take 60, shifted := p.shifted ++ carriedOut x arrived.length
      exchange := some (x.clockedOn arrived.length) } := by
  simp only [Port.timeout, exchange, Port.receive_stores stores, stores, complete, Bool.false_or, if_true]

/-- R157: an exchange begun in IDLE whose frame is not complete is abandoned. -/
theorem Port.timeout_incomplete
    (incomplete : frameComplete ((p.buffer ++ arrived).take 60) (x.clocked + arrived.length) = false) :
    p.timeout arrived = { p with
      buffer := (p.buffer ++ arrived).take 60, held := some (frameErrorResponse ((p.buffer ++ arrived).take 60))
      flags := p.flags ||| timeoutSeen, timeouts := p.timeouts + 1
      shifted := p.shifted ++ carriedOut x arrived.length
      exchange := some { x.clockedOn arrived.length with abandoned := true, own := x.own ||| timeoutSeen } } := by
  simp only [Port.timeout, exchange, Port.receive_stores stores, stores, incomplete, Bool.false_or]
  rfl

end

theorem frameComplete_iff (buffer : List Byte) (clocked : Nat) :
    frameComplete buffer clocked = true ↔ 3 ≤ clocked ∧ byteAt buffer 2 + 4 ≤ clocked := by
  simp [frameComplete]

/-! ## Busy and abandoned exchanges (R156, R157) -/

section
variable {p : Port} {x : Exchange} (l : Link) (arrived : List Byte) (kept : Bool)

theorem Port.ended_busy (busy : x.busy = true) : p.ended l x arrived kept = { p with
    exchange := none, state := (if p.work.isSome then .working else .idle), flags := (p.ended l x arrived kept).flags
    shifted := p.shifted ++ carriedOut x arrived.length } := by
  rw [Port.ended_flags, Port.ended, Port.finish_busy (x := x.clockedOn _) busy, Port.receive_silent (by simp [busy])]

theorem Port.ended_abandoned (busy : x.busy = false) (abandoned : x.abandoned = true) : p.ended l x arrived kept = { p with
    exchange := none, state := .idle, buffer := [], flags := (p.ended l x arrived kept).flags
    shifted := p.shifted ++ carriedOut x arrived.length } := by
  rw [Port.ended_flags, Port.ended, Port.finish_abandoned (x := x.clockedOn _) busy abandoned,
    Port.receive_silent (by simp [abandoned])]

end

/-- With the reset pin released the end of an exchange changes its port, the free-order index and the pins alone. -/
theorem exec_exchangeEnd_ports {l : Link} {s : State} {x : Exchange} (pin : s.sensors.resetPin = false)
    (exchange : (s.ports.get l).exchange = some x) (arrived : List Byte) :
    ∃ kept t, exec (.exchangeEnd l arrived) s = .next t ∧ t.ports.get l = (s.ports.get l).ended l x arrived kept
      ∧ t = conclude { s with ports := t.ports, choices := t.choices } ∧ ∀ k, k ≠ l → t.ports.get k = s.ports.get k := by
  obtain ⟨kept, n, run⟩ := exec_exchangeEnd_some arrived exchange
  have ports := conclude_ports (setPort l ((s.ports.get l).ended l x arrived kept) { s with choices := n }) pin
  refine ⟨kept, _, run, ?_, ?_, fun k other => ?_⟩
  · rw [ports, setPort_get, if_pos rfl]
  · rw [ports, conclude_choices]
    rfl
  · rw [ports, setPort_get, if_neg other]

/-- Settles O31: the timeout by whether the frame is complete; an exchange of either kind at its end; the flags one by
one. -/
theorem busyAndAbandonedExchanges : Obligations.BusyAndAbandonedExchanges := by
  refine ⟨⟨fun l arrived s => ?_, fun l arrived s pin => ?_⟩, fun l arrived x s pin exchange => ?_⟩
  · dsimp only
    have run : exec (.linkTimeout l arrived) s = .next (conclude (setPort l ((s.ports.get l).timeout arrived) s)) := rfl
    rw [run]
    refine ⟨fun exchange => ?_, fun x exchange => ⟨fun silent => ?_, fun busy abandoned three whole => ?_,
      fun busy abandoned short => ?_⟩⟩
    · rw [Port.timeout, exchange, setPort_self]
    · rw [Port.timeout_silent exchange arrived (by simpa using silent)]
      rfl
    · have complete := (frameComplete_iff (((s.ports.get l).buffer ++ arrived).take 60) _).mpr ⟨three, whole⟩
      rw [Port.timeout_complete exchange arrived (by simp [busy, abandoned]) complete]
      rfl
    · have incomplete : frameComplete (((s.ports.get l).buffer ++ arrived).take 60) (x.clocked + arrived.length) = false := by
        rw [← Bool.not_eq_true, frameComplete_iff, byteAt]
        omega
      rw [Port.timeout_incomplete exchange arrived (by simp [busy, abandoned]) incomplete]
      rfl
  · refine ⟨exec_exchangeEnd_none arrived, fun x exchange busy => ?_, fun x exchange busy abandoned => ?_⟩
    · obtain ⟨kept, t, run, own, rest, others⟩ := exec_exchangeEnd_ports pin exchange arrived
      exact ⟨t, run, own ▸ Port.ended_busy l arrived kept busy, rest, others⟩
    · obtain ⟨kept, t, run, own, rest, others⟩ := exec_exchangeEnd_ports pin exchange arrived
      exact ⟨t, run, own ▸ Port.ended_abandoned l arrived kept busy abandoned, rest, others⟩
  · obtain ⟨kept, t, run, own, -, -⟩ := exec_exchangeEnd_ports pin exchange arrived
    refine ⟨t, run, ?_⟩
    rw [own, Port.ended_flags]
    exact ⟨fun short => flagsAfter_short (x := x.clockedOn _) short kept _,
      fun whole => flagsAfter_getLsbD (x := x.clockedOn _) whole kept _⟩

end Sys2Proof.Machine

/-! # The port's own requests (R160 to R162, R169) -/

namespace Sys2Proof.Machine

/-! ## Bytes of what is read (R164, R169) -/

theorem leBytes_four_toNat {n : Nat} (v : BitVec n) :
    leBytes 4 v.toNat = [v.setWidth 8, (v >>> 8).setWidth 8, (v >>> 16).setWidth 8, (v >>> 24).setWidth 8] := by
  rw [← ofNat_div_toNat v 24, ← ofNat_div_toNat v 16, ← ofNat_div_toNat v 8, ← BitVec.ofNat_toNat]
  simp only [leBytes, Nat.div_div_eq_div_mul]
  rfl

/-- R169: the counters of a group, four bytes each. -/
theorem counterBytes_eq (c : Counter) :
    counterBytes c = [c.setWidth 8, (c >>> 8).setWidth 8, (c >>> 16).setWidth 8, (c >>> 24).setWidth 8] :=
  leBytes_four_toNat c

theorem eventBytes_eq (p : Port) : eventBytes p =
    [p.pending.setWidth 8, BitVec.ofNat 8 (p.pending.toNat / 256), p.enable.setWidth 8,
      BitVec.ofNat 8 (p.enable.toNat / 256)] := by
  rw [eventBytes, leBytes_two, leBytes_two, BitVec.ofNat_toNat, BitVec.ofNat_toNat]
  rfl

theorem yesNo_bne (m : BitVec 3) : yesNo (m != 0) = if m = 0 then 0 else 1 := by
  by_cases h : m = 0 <;> simp [yesNo, h]

theorem inhibitedMask_eq (s : State) : inhibitedMask s =
    (if s.line.holders.patch = 0 then 0 else 1) + (if s.line.holders.gum = 0 then 0 else 2)
      + (if s.line.holders.inspect = 0 then 0 else 4) := by
  simp only [inhibitedMask, yesNo_bne, mul_ite, mul_zero, mul_one]

theorem ofNat_yesNo_isSome {α : Type} [DecidableEq α] (v : Option α) :
    BitVec.ofNat 8 (yesNo v.isSome) = if v = none then 0#8 else 1#8 := by
  cases v <;> rfl

/-! ## The reads (R160 to R162) -/

theorem exec_readStatus (l : Link) (s : State) :
    exec (.readStatus l []) s = .next (s.answered l .readStatus .ok (statusBytes s)) := rfl

theorem exec_readEvents (l : Link) (s : State) :
    exec (.readEvents l []) s = .next (s.answered l .readEvents .ok (eventBytes (s.ports.get l))) := rfl

theorem groupArgument_code (g : CounterGroup) : groupArgument [BitVec.ofNat 8 g.code] = some g := by
  cases g <;> rfl

theorem exec_readCounters (l : Link) (g : CounterGroup) (s : State) :
    exec (.readCounters l [BitVec.ofNat 8 g.code]) s = .next (s.answered l .readCounters .ok
      (BitVec.ofNat 8 g.code :: (groupCounters g l s).flatMap fun n : Counter =>
        [n.setWidth 8, (n >>> 8).setWidth 8, (n >>> 16).setWidth 8, (n >>> 24).setWidth 8])) := by
  rw [← funext counterBytes_eq]
  simp only [exec, execReadCounters, groupArgument_code, conclude_answer, leBytes_one, List.singleton_append]

/-! ## The event commands (R160) -/

/-- A mask of the thirteen events in its two bytes (R164). -/
theorem eventsArgument_bytes (lo : Byte) {hi : Byte} (h : hi.toNat < 32) :
    eventsArgument [lo, hi] = some (BitVec.ofNat 13 (lo.toNat + 256 * hi.toNat)) := by
  have word : wordAt [lo, hi] 0 = lo.toNat + 256 * hi.toNat := rfl
  have within : lo.toNat + 256 * hi.toNat < 8192 := by
    have := lo.isLt
    omega
  rw [eventsArgument, word, if_pos ⟨rfl, within⟩]

/-- Settles O35: the bytes of each read, and the three writes of the event sets. -/
theorem portRequestsReadAndAcknowledge : Obligations.PortRequestsReadAndAcknowledge := by
  refine ⟨fun l s => ⟨rfl, ?_, ?_, fun g hg => ?_⟩, fun l lo hi s h => ?_⟩
  · rw [exec_readStatus]
    simp only [statusBytes, leBytes_one, leBytes_two, optionNat_map, BitVec.ofNat_toNat, inhibitedMask_eq,
      ofNat_yesNo_isSome, ofNat_yesNo s.shaft.periodValid, activeBankCode]
    rcases activeBank s with _ | _ | _ <;> rfl
  · rw [exec_readEvents, eventBytes_eq]
  · interval_cases g
    · exact exec_readCounters l .production s
    · exact exec_readCounters l .reasons s
    · exact exec_readCounters l .quality s
    · exact exec_readCounters l .timing s
    · exact exec_readCounters l .link s
  · simp only [exec, execAckEvents, execEnableEvents, execDisableEvents, eventsArgument_bytes lo h, conclude_answer]
    exact ⟨rfl, rfl, rfl⟩

end Sys2Proof.Machine

/-! # Every request is answered (R151, R153, R154, R156) -/

namespace Sys2Proof.Machine

/-! ## The lengths of the answers (R167 to R169) -/

@[simp] theorem leBytes_length (k v : Nat) : (leBytes k v).length = k := by
  induction k generalizing v with
  | zero => rfl
  | succ k ih => rw [leBytes, List.length_cons, ih]

theorem readGroup_length (g : FieldGroup) (f : BankFields) : (readGroup g f).length = g.size := by
  cases g <;> rfl

theorem FieldGroup.size_le (g : FieldGroup) : g.size ≤ 17 := by
  cases g <;> simp [FieldGroup.size]

/-- The longest group of counters has eleven. -/
theorem groupCounters_length (g : CounterGroup) (l : Link) (s : State) : (groupCounters g l s).length ≤ 11 := by
  cases g <;> simp [groupCounters]

/-- A list of which each member travels in four bytes. -/
theorem flatMap_four_length {α : Type} (f : α → List Byte) (four : ∀ a, (f a).length = 4) (xs : List α) :
    (xs.flatMap f).length = 4 * xs.length := by
  simp [List.length_flatMap, four, Nat.mul_comm]

theorem countersBytes_length (g : CounterGroup) (l : Link) (s : State) :
    (leBytes 1 g.code ++ (groupCounters g l s).flatMap counterBytes).length ≤ 45 := by
  have most := groupCounters_length g l s
  rw [List.length_append, leBytes_length, flatMap_four_length counterBytes fun c => leBytes_length 4 c.toNat]
  omega

/-- READ TRIGGERS takes eight entries at most (R93). -/
theorem triggersBytes_length (log : List Trigger) : (triggersBytes (log.take 8) (log.drop 8)).length ≤ 45 := by
  have four : ∀ t, (triggerBytes t).length = 4 := fun _ => rfl
  simp only [triggersBytes, List.length_append, leBytes_length, flatMap_four_length triggerBytes four, List.length_take]
  omega

theorem bankBytes_length (b : BankId) (g : FieldGroup) (s : State) :
    (leBytes 1 (bankState s b).code ++ leBytes 1 g.number ++ readGroup g (fieldsOf s b)).length ≤ 45 := by
  have most := g.size_le
  simp only [List.length_append, leBytes_length, readGroup_length]
  omega

/-! ## What an owning block does with a request before its answer -/

/-- What a request leaves before it is answered: at its own link the exchange and the state of the port, at the others
all but events posted; and a refusal changes nothing but the verdict counters of R96. -/
structure Handled (l : Link) (c : Command) (s x : State) (status : Status) (payload : List Byte) : Prop where
  owner : status.ofOwner = true
  fits : payload.length ≤ 45
  exchange : (x.ports.get l).exchange = (s.ports.get l).exchange
  state : (x.ports.get l).state = (s.ports.get l).state
  others : ∀ k, k ≠ l → x.ports.get k = { s.ports.get k with pending := (x.ports.get k).pending }
    ∧ (s.ports.get k).pending &&& ~~~(x.ports.get k).pending = 0
  refused : status ≠ .ok → x = { s with verdicts := { s.verdicts with
    lateVerdicts := x.verdicts.lateVerdicts, verdictsRefused := x.verdicts.verdictsRefused } }
  unchanged : status ≠ .ok → c ≠ .verdict → x = s

/-- A state in which a request of a link has been answered by its owner. -/
def Answered (l : Link) (c : Command) (s y : State) : Prop :=
  ∃ status payload x, y = answer l c status payload x ∧ Handled l c s x status payload

section
variable {l : Link} {c : Command} {s x : State} {status : Status} {payload : List Byte}

/-- A block posts events at most (R159), and a refusal changes nothing. -/
theorem Answered.of_posts (posts : Posts s x) (owner : status.ofOwner = true) (refused : status ≠ .ok → x = s)
    (fits : payload.length ≤ 45) : Answered l c s (answer l c status payload x) :=
  ⟨status, payload, x, rfl, owner, fits, by rw [(posts l).1], by rw [(posts l).1], fun k _ => posts k,
    fun h => by rw [refused h], fun h _ => refused h⟩

theorem Answered.still (owner : status.ofOwner = true) (fits : payload.length ≤ 45 := by simp) :
    Answered l c s (answer l c status payload s) :=
  .of_posts (.refl s) owner (fun _ => rfl) fits

theorem Answered.done (posts : Posts s x) (fits : payload.length ≤ 45 := by simp) :
    Answered l c s (answer l c .ok payload x) :=
  .of_posts posts rfl (fun h => absurd rfl h) fits

/-- The event commands write to the port of their own link (R160). -/
theorem Answered.events (pending enable : BitVec 13) :
    Answered l c s (answer l c .ok [] (setEvents l pending enable s)) := by
  have ports : ∀ k, (setEvents l pending enable s).ports.get k
      = if k = l then { s.ports.get l with pending := pending, enable := enable } else s.ports.get k :=
    PerLink.get_set s.ports l _
  refine ⟨.ok, [], _, rfl, rfl, Nat.zero_le _, ?_, ?_, fun k other => ?_, fun h => absurd rfl h, fun h => absurd rfl h⟩
  · rw [ports, if_pos rfl]
  · rw [ports, if_pos rfl]
  · rw [ports, if_neg other]
    exact Posts.refl s k

/-- A VERDICT turned away (R96). -/
theorem Handled.refusedVerdict (late refused : Counter) (owner : status.ofOwner = true) : Handled l .verdict s
    { s with verdicts := { s.verdicts with lateVerdicts := late, verdictsRefused := refused } } status [] :=
  ⟨owner, Nat.zero_le _, rfl, rfl, fun k _ => Posts.refl s k, fun _ => rfl, fun _ h => absurd rfl h⟩

end

/-- VERDICT by the checks of R96. -/
theorem takeVerdict_handled (q : Seq) (result : VerdictResult) (cause : Nat) (s : State) :
    Handled .inspection .verdict s (takeVerdict q result cause s).2 (takeVerdict q result cause s).1 [] := by
  have refused : ∀ status : Status, status.ofOwner = true → Handled .inspection .verdict s (refuseVerdict s) status [] :=
    fun _ => .refusedVerdict _ _
  unfold takeVerdict
  (repeat' split)
  · exact refused .unknownSeq rfl
  · exact refused .notExpected rfl
  · exact .refusedVerdict _ _ rfl
  · exact refused .duplicate rfl
  · exact ⟨rfl, Nat.zero_le _, rfl, rfl, fun k _ => Posts.refl s k, fun h => absurd rfl h, fun h => absurd rfl h⟩

/-- VALIDATE BANK for a bank in STAGING by its checks (R124). -/
theorem validateStaging_answered (b : BankId) (s : State) : Answered .line .validateBank s (validateStaging b s) := by
  unfold validateStaging
  split
  · exact .still rfl
  · exact .done (.of_eq rfl)

/-- Every request command concludes a state in which its link has been answered. -/
theorem exec_answered {i : Instr} (request : i.request? ≠ none) (s : State) :
    ∃ l c p y, i.request? = some (l, c, p) ∧ exec i s = .next (conclude y) ∧ Answered l c s y := by
  cases i with
  | powerOnReset | forwardCountStep | backwardCountStep | illegalTransition | indexEdge | pitchTimerHold | markEdge
  | patchPresentEdge | patchWebOkChange | gumOkChange | foldCheckEdge | estopChange | jamChange | exchangeStart
  | exchangeEnd | linkTimeout => exact absurd rfl request
  | ackEvents l p | enableEvents l p | disableEvents l p =>
    refine ⟨_, _, _, _, rfl, rfl, ?_⟩
    split
    · exact .still rfl
    · exact .events _ _
  | readCounters l p =>
    refine ⟨_, _, _, _, rfl, rfl, ?_⟩
    split
    · exact .still rfl
    · exact .still rfl (countersBytes_length _ l s)
  | readBank p =>
    refine ⟨_, _, _, _, rfl, rfl, ?_⟩
    split
    · exact .still rfl
    · exact .still rfl (bankBytes_length _ _ s)
  | collect | readStatus | readEvents | readRecord | readHaltRecord | readDrift | peekBatch =>
    -- The other reads, each with a payload of a fixed length.
    refine ⟨_, _, _, _, rfl, rfl, ?_⟩
    (repeat' split) <;> refine .still rfl ?_ <;>
      simp [statusBytes, eventBytes, recordBytes, haltRecordBytes, driftBytes, batchBytes, counterBytes, signedBytes]
  | feedHold l p =>
    refine ⟨_, _, _, _, rfl, rfl, ?_⟩
    split
    · exact .still rfl
    · exact .done (addFeedCause_posts _ s)
  | halt l p =>
    refine ⟨_, _, _, _, rfl, rfl, ?_⟩
    (repeat' split)
    case isFalse => exact .done (raiseCause_posts _ _ s)
    all_goals exact .still rfl
  | commitGeometry p =>
    refine ⟨_, _, _, _, rfl, rfl, ?_⟩
    (repeat' split)
    case h_2 => exact .done (commitGeometry_posts s)
    all_goals exact .still rfl
  | validateBank p =>
    refine ⟨_, _, _, _, rfl, rfl, ?_⟩
    split
    · exact .still rfl
    · split
      · exact validateStaging_answered _ s
      all_goals exact .still rfl
  | armChangeover p =>
    refine ⟨_, _, _, _, rfl, rfl, ?_⟩
    (repeat' split)
    case isTrue => exact .done (armBank_posts _ s)
    all_goals exact .still rfl
  | start p =>
    refine ⟨_, _, _, _, rfl, rfl, ?_⟩
    (repeat' split)
    case isTrue => exact .done (startLine_posts s)
    all_goals exact .still rfl
  | drain p =>
    refine ⟨_, _, _, _, rfl, rfl, ?_⟩
    (repeat' split)
    case isTrue => exact .done (beginDrain_posts _ s)
    all_goals exact .still rfl
  | clearHalt p =>
    refine ⟨_, _, _, _, rfl, rfl, ?_⟩
    (repeat' split)
    case isTrue => exact .done (clearHalt_posts s)
    all_goals exact .still rfl
  | lineReset p =>
    refine ⟨_, _, _, _, rfl, rfl, ?_⟩
    (repeat' split)
    case isTrue => exact .done (lineReset_posts s)
    all_goals exact .still rfl
  | readTriggers p =>
    refine ⟨_, _, _, _, rfl, rfl, ?_⟩
    dsimp only
    (repeat' split)
    case isFalse => exact .done (.of_eq rfl) (triggersBytes_length _)
    all_goals exact .still rfl
  | verdict p =>
    refine ⟨_, _, _, _, rfl, rfl, ?_⟩
    split
    · exact .still rfl
    · exact ⟨_, _, _, rfl, takeVerdict_handled _ _ _ s⟩
  | takeBatch p =>
    refine ⟨_, _, _, _, rfl, rfl, ?_⟩
    (repeat' split)
    case isTrue rest _ _ =>
      have taken : Posts s (checkBacklog { s with batch.queue := rest }) :=
        checkBacklog_posts { s with batch.queue := rest }
      exact .done taken
    all_goals exact .still rfl
  | _ =>
    -- The others write to their own block alone.
    refine ⟨_, _, _, _, rfl, rfl, ?_⟩
    (repeat' split) <;> refine .of_posts (.of_eq ?_) rfl ?_ ?_ <;> simp

/-! ## The answer at the ports -/

theorem portsAnswered_get (l : Link) (c : Command) (status : Status) (payload : List Byte) (ports : PerLink Port)
    (k : Link) : (portsAnswered l c status payload [] ports).get k
      = if k = l then (ports.get l).afterAnswer ⟨status, c.code, payload⟩ else ports.get k :=
  PerLink.get_set ports l _ k

/-- Settles O34: the answer at the port of its link, and what the request left before it. -/
theorem everyRequestIsAnswered : Obligations.EveryRequestIsAnswered := by
  intro i l c p s pin request
  obtain ⟨l', c', p', _, same, run, status, payload, x, rfl, handled⟩ := exec_answered (i := i) (by simp [request]) s
  obtain ⟨rfl, rfl, rfl⟩ : l' = l ∧ c' = c ∧ p' = p := by simpa [request, eq_comm] using same
  have other : ∀ pin pair, i ≠ .powerOnReset pin pair := by
    rintro _ _ rfl
    cases request
  obtain ⟨released, -⟩ := exec_released pin run other run
  have ports := answered_ports (s := x) released l' c' status payload
  have verdicts : (x.answered l' c' status payload).verdicts = x.verdicts := conclude_verdicts _ released
  rw [conclude_answer] at run
  refine ⟨_, ⟨status, c'.code, payload⟩, run, ?_, rfl, handled.owner, handled.fits, ?_, ?_, ?_, fun k apart => ?_,
    fun refused => ?_, fun refused unjudged => ?_⟩
  · rw [ports, portsAnswered_get, if_pos rfl]
    rfl
  · rw [ports, portsAnswered_get, if_pos rfl]
    rfl
  · rw [ports, portsAnswered_get, if_pos rfl, Port.afterAnswer, handled.exchange, handled.state]
  · rw [ports, portsAnswered_get, if_pos rfl]
    exact handled.exchange
  · rw [ports, portsAnswered_get, if_neg apart]
    exact handled.others k apart
  · rw [verdicts]
    exact congrArg (State.answered · l' c' status payload) (handled.refused refused)
  · rw [handled.unchanged refused unjudged]

end Sys2Proof.Machine

/-! # The CRC-8, the catalogue of commands and the code tables (R154, R155, R164 to R166) -/

namespace Sys2Proof.Machine

/-! ## One step and one byte of the CRC-8 (R165) -/

theorem msb_iff (v : Byte) : v.msb = true ↔ 128 ≤ v.toNat := by
  simp [BitVec.msb_eq_decide]

theorem shiftLeft_one (v : Byte) : v <<< 1 = BitVec.ofNat 8 (2 * v.toNat) := by
  apply BitVec.eq_of_toNat_eq
  simp [Nat.shiftLeft_eq, Nat.mul_comm]

/-- The step of R165 as arithmetic on the byte's value. -/
theorem crcShift_eq (v : Byte) : crcShift v =
    if 128 ≤ v.toNat then BitVec.ofNat 8 (2 * v.toNat) ^^^ 7#8 else BitVec.ofNat 8 (2 * v.toNat) := by
  simp only [crcShift, msb_iff, shiftLeft_one]

/-- The lowest bit after a step tells whether 0x07 was added. -/
theorem crcShift_getLsbD_zero (v : Byte) : (crcShift v).getLsbD 0 = v.msb := by
  unfold crcShift
  split <;> simp [*]

/-- A doubled byte with the bit that it lost is the byte again. -/
theorem eq_of_shiftLeft_of_msb {x y : Byte} (doubled : x <<< 1 = y <<< 1) (msb : x.msb = y.msb) : x = y := by
  have top : 128 ≤ x.toNat ↔ 128 ≤ y.toNat := by rw [← msb_iff, ← msb_iff, msb]
  rw [shiftLeft_one, shiftLeft_one] at doubled
  bv_omega

theorem crcShift_injective : Function.Injective crcShift := by
  intro x y same
  have msb : x.msb = y.msb := by rw [← crcShift_getLsbD_zero, ← crcShift_getLsbD_zero, same]
  refine eq_of_shiftLeft_of_msb ?_ msb
  unfold crcShift at same
  rw [← msb] at same
  split at same
  · exact (BitVec.xor_left_inj _).mp same
  · exact same

theorem crcByte_eq (v b : Byte) : crcByte v b = crcShift^[8] (v ^^^ b) := rfl

theorem crcByte_self (v : Byte) : crcByte v v = 0 := by
  rw [crcByte_eq, BitVec.xor_self]
  rfl

/-- The running value before a byte shows in the value after it. -/
theorem crcByte_left_injective (b : Byte) : Function.Injective (crcByte · b) := fun _ _ same =>
  (BitVec.xor_left_inj _).mp (crcShift_injective.iterate 8 same)

/-- A byte shows in the running value after it. -/
theorem crcByte_right_injective (v : Byte) : Function.Injective (crcByte v) := fun _ _ same =>
  (BitVec.xor_right_inj _).mp (crcShift_injective.iterate 8 same)

/-! ## The CRC-8 of a span (R165) -/

theorem crc8_concat (bs : List Byte) (b : Byte) : crc8 (bs ++ [b]) = crcByte (crc8 bs) b :=
  List.foldl_concat ..

theorem crc8_append_cons (front back : List Byte) (b : Byte) :
    crc8 (front ++ b :: back) = back.foldl crcByte (crcByte (crc8 front) b) := by
  rw [crc8, List.foldl_append]
  rfl

/-- Running values that differ stay apart over every span. -/
theorem foldl_crcByte_injective (bs : List Byte) : Function.Injective (bs.foldl crcByte) := by
  induction bs with
  | nil => exact Function.injective_id
  | cons b bs ih => exact ih.comp (crcByte_left_injective b)

theorem crc8_append_cons_inj (front back : List Byte) {x y : Byte}
    (same : crc8 (front ++ x :: back) = crc8 (front ++ y :: back)) : x = y := by
  rw [crc8_append_cons, crc8_append_cons] at same
  exact crcByte_right_injective _ (foldl_crcByte_injective back same)

/-! ## The worked frames (R164, R165) -/

theorem requestFrame_collect : requestFrame Command.collect.code [] = [0xB5#8, 0x01#8, 0x00#8, 0x15#8] := by
  have crc : crc8 [0x01#8, 0x00#8] = 0x15#8 := by simp [crc8, crcByte, crcShift_eq]
  exact congrArg (fun byte => [0xB5#8, 0x01#8, 0x00#8, byte]) crc

theorem responseFrame_noResponse :
    responseFrame 0 ⟨.noResponse, 0, []⟩ = [0xB5#8, 0x10#8, 0x00#8, 0x00#8, 0x00#8, 0x67#8] := by
  have crc : crc8 [0x10#8, 0x00#8, 0x00#8, 0x00#8] = 0x67#8 := by simp [crc8, crcByte, crcShift_eq]
  exact congrArg (fun byte => [0xB5#8, 0x10#8, 0x00#8, 0x00#8, 0x00#8, byte]) crc

/-! ## The catalogue (R155, R166) -/

theorem Command.code_of_ofCode {b : Byte} {c : Command} (named : Command.ofCode b = some c) : c.code = b :=
  eq_of_beq (List.find?_some named :)

/-- The links that accept a command follow from the range its byte is in. -/
theorem Command.acceptedOn_iff (c : Command) :
    (c.acceptedOn .inspection = true ↔ c.code.toNat ≤ 0x0D ∨ (0x40 ≤ c.code.toNat ∧ c.code.toNat ≤ 0x41))
      ∧ (c.acceptedOn .packer = true ↔ c.code.toNat ≤ 0x0D ∨ 0x60 ≤ c.code.toNat)
      ∧ (c.acceptedOn .line = true ↔ c.code.toNat ≤ 0x2E) := by
  cases c <;> decide

/-- Settles O32: the CRC-8 by its step, which loses nothing of the running value or of the byte; the catalogue and the
tables row by row. -/
theorem crcAndCatalogue : Obligations.CrcAndCatalogue := by
  refine ⟨⟨rfl, fun bs b => ?_, fun flags r => ⟨responseBody flags r, rfl⟩, fun buffer sound => ?_, fun bs => ?_,
      fun front back x y => crc8_append_cons_inj front back⟩,
    ⟨Command.ofCode_code, fun b c => Command.code_of_ofCode, Command.acceptedOn_iff, by simp [Command.code], requestFrame_collect,
      responseFrame_noResponse⟩,
    by decide, rfl, rfl, rfl, rfl, rfl, rfl, rfl, rfl, rfl, rfl, rfl, rfl, rfl, rfl, rfl, rfl, rfl⟩
  · rw [crc8_concat, crcByte_eq, funext crcShift_eq]
  · obtain ⟨-, -, -, -, crc⟩ := (frameSound_iff buffer).mp sound
    exact crc
  · rw [crc8_concat, crcByte_self]

end Sys2Proof.Machine

/-! # Requests of a wrong length or range (R153, R166) -/

namespace Sys2Proof.Machine

/-! ## Banks, channels and field groups by their numbers (R39, R122, R168) -/

theorem bankOfCode_isSome (n : Nat) : (bankOfCode n).isSome = decide (n ≤ 1) := by
  match n with
  | 0 | 1 | n + 2 => simp [bankOfCode]

theorem channelOfNumber_isSome (n : Nat) : (Channel.ofNumber n).isSome = decide (n ≤ 9) := by
  match n with
  | 0 | 1 | 2 | 3 | 4 | 5 | 6 | 7 | 8 | 9 => rfl
  | n + 10 => simp [Channel.ofNumber, Channel.all, Channel.number]

/-- The last group is that of the tenth channel. -/
theorem fieldGroupOf_isSome (n : Nat) : (fieldGroupOf n).isSome = decide (n ≤ 12) := by
  match n with
  | 0 | 1 | 2 => rfl
  | k + 3 => simp [fieldGroupOf, channelOfNumber_isSome]

/-- R123: which lengths WRITE BANK has for which group, the bank's and the group's number counted in. -/
theorem fieldGroupOf_any_size (n length : Nat) : (fieldGroupOf n).any (fun g => length == 2 + g.size) =
    ((n == 0 && length == 10) || (n == 1 && length == 19) || (n == 2 && length == 10)
      || (decide (3 ≤ n ∧ n ≤ 12) && length == 7)) := by
  match n with
  | 0 | 1 | 2 => simp [fieldGroupOf, FieldGroup.size]
  | k + 3 =>
    have channel : decide (3 ≤ k + 3 ∧ k + 3 ≤ 12) = (Channel.ofNumber k).isSome := by simp [channelOfNumber_isSome]
    rw [channel]
    cases h : Channel.ofNumber k <;> simp [fieldGroupOf, FieldGroup.size, h]

/-! ## Arguments are read from exactly the payloads that fit (R166) -/

theorem isSome_ite_none {α : Type} (fits : Prop) [Decidable fits] (o : Option α) :
    (if fits then o else none).isSome = (decide fits && o.isSome) := by
  by_cases h : fits <;> simp [h]

section
variable (p : List Byte)

theorem noArguments_isSome : (noArguments p).isSome = commandFits .collect p := by
  cases p <;> rfl

theorem eventsArgument_isSome : (eventsArgument p).isSome = commandFits .ackEvents p := by
  rw [Bool.eq_iff_iff]
  simp [eventsArgument, commandFits]

theorem groupArgument_isSome : (groupArgument p).isSome = commandFits .readCounters p := by
  rw [Bool.eq_iff_iff]
  unfold groupArgument commandFits
  generalize byteAt p 0 = n
  match n with
  | 0 | 1 | 2 | 3 | 4 | n + 5 => simp

theorem stationArgument_isSome : (stationArgument p).isSome = commandFits .inhibitStation p := by
  rw [Bool.eq_iff_iff]
  unfold stationArgument commandFits
  generalize byteAt p 0 = n
  match n with
  | 0 | 1 | 2 | 3 | n + 4 => simp

theorem selectorArgument_isSome : (selectorArgument p).isSome = commandFits .readRecord p := by
  rw [Bool.eq_iff_iff]
  unfold selectorArgument commandFits
  generalize byteAt p 0 = n
  match n with
  | 0 | 1 | n + 2 => simp [isSome_ite_none]

theorem geometryArgument_isSome : (geometryArgument p).isSome = commandFits .writeGeometry p := by
  rw [Bool.eq_iff_iff]
  simp [geometryArgument, commandFits]

theorem bankArgument_isSome : (bankArgument p).isSome = commandFits .validateBank p := by
  rw [Bool.eq_iff_iff]
  simp [bankArgument, commandFits, isSome_ite_none, bankOfCode_isSome]

theorem readBankArgument_isSome : (readBankArgument p).isSome = commandFits .readBank p := by
  rw [Bool.eq_iff_iff]
  simp only [readBankArgument, commandFits, ← bankOfCode_isSome, ← fieldGroupOf_isSome]
  cases bankOfCode (byteAt p 0) <;> cases fieldGroupOf (byteAt p 1) <;> simp

theorem writeBankArgument_isSome : (writeBankArgument p).isSome = commandFits .writeBank p := by
  rw [Bool.eq_iff_iff]
  simp only [writeBankArgument, commandFits, ← bankOfCode_isSome, ← fieldGroupOf_any_size]
  cases bankOfCode (byteAt p 0) <;> cases fieldGroupOf (byteAt p 1) <;> simp [isSome_ite_none]

theorem yesNoArgument_isSome : (yesNoArgument p).isSome = commandFits .drain p := by
  rw [Bool.eq_iff_iff]
  unfold yesNoArgument commandFits
  generalize byteAt p 0 = n
  match n with
  | 0 | 1 | n + 2 => simp

theorem verdictArgument_isSome : (verdictArgument p).isSome = commandFits .verdict p := by
  rw [Bool.eq_iff_iff]
  unfold verdictArgument commandFits
  generalize byteAt p 3 = n
  match n with
  | 0 | 1 | n + 2 => simp

theorem sizeArgument_isSome : (sizeArgument p).isSome = commandFits .setBatchSize p := by
  rw [Bool.eq_iff_iff]
  simp [sizeArgument, commandFits, and_assoc]

theorem batchNumberArgument_isSome : (batchNumberArgument p).isSome = commandFits .takeBatch p := by
  rw [Bool.eq_iff_iff]
  simp [batchNumberArgument, commandFits]

end

/-! ## The answer to a payload without arguments (R153) -/

section
variable {l : Link} {c : Command} {p : List Byte} {s : State}

theorem arguments_none {α : Type} {arguments : Option α} (read : arguments.isSome = commandFits c p)
    (unfit : commandFits c p = false) : arguments = none := by
  simpa [unfit] using read

theorem exec_badArgument {i : Instr} {y : State} (run : exec i s = .next (conclude y)) (bad : y = badArgument l c s) :
    exec i s = .next (s.answered l c .badArgument []) := by
  rw [run, bad, badArgument, conclude_answer]

end

/-- Settles O33: what each command's arguments ask of its payload, command by command. -/
theorem unfitRequestsAreBadArguments : Obligations.UnfitRequestsAreBadArguments := by
  intro i l c p s request unfit
  cases i with
  | powerOnReset | forwardCountStep | backwardCountStep | illegalTransition | indexEdge | pitchTimerHold | markEdge
  | patchPresentEdge | patchWebOkChange | gumOkChange | foldCheckEdge | estopChange | jamChange | exchangeStart
  | exchangeEnd | linkTimeout => cases request
  | ackEvents | enableEvents | disableEvents =>
    cases request
    exact exec_badArgument rfl (by rw [arguments_none (eventsArgument_isSome p) unfit])
  | readCounters =>
    cases request
    exact exec_badArgument rfl (by rw [arguments_none (groupArgument_isSome p) unfit])
  | inhibitStation | releaseStation =>
    cases request
    exact exec_badArgument rfl (by rw [arguments_none (stationArgument_isSome p) unfit])
  | readRecord =>
    cases request
    exact exec_badArgument rfl (by rw [arguments_none (selectorArgument_isSome p) unfit])
  | writeGeometry =>
    cases request
    exact exec_badArgument rfl (by rw [arguments_none (geometryArgument_isSome p) unfit])
  | writeBank =>
    cases request
    exact exec_badArgument rfl (by rw [arguments_none (writeBankArgument_isSome p) unfit])
  | readBank =>
    cases request
    exact exec_badArgument rfl (by rw [arguments_none (readBankArgument_isSome p) unfit])
  | validateBank | armChangeover | disarm =>
    cases request
    exact exec_badArgument rfl (by rw [arguments_none (bankArgument_isSome p) unfit])
  | drain =>
    cases request
    exact exec_badArgument rfl (by rw [arguments_none (yesNoArgument_isSome p) unfit])
  | verdict =>
    cases request
    exact exec_badArgument rfl (by rw [arguments_none (verdictArgument_isSome p) unfit])
  | setBatchSize =>
    cases request
    exact exec_badArgument rfl (by rw [arguments_none (sizeArgument_isSome p) unfit])
  | takeBatch =>
    cases request
    exact exec_badArgument rfl (by rw [arguments_none (batchNumberArgument_isSome p) unfit])
  | _ =>
    cases request
    exact exec_badArgument rfl (by rw [arguments_none (noArguments_isSome p) unfit])

end Sys2Proof.Machine
